-- ==== Sys2Proof/Word.lean ====
section
/-! DEFINITION. Word types (00_scope.md R7, R8) and their plainest arithmetic. -/

namespace Sys2Proof

/-- A byte: 8 bits. -/
abbrev Byte := BitVec 8

/-- A word: 16 bits. -/
abbrev Word := BitVec 16

/-- A physical address: 24 bits (10_state.md R67). -/
abbrev PhysAddr := BitVec 24

/-- An 80-bit numeric register (10_state.md R60). -/
abbrev Reg80 := BitVec 80

/-- The low byte of a word. -/
def Word.lo (w : Word) : Byte := w.extractLsb' 0 8

/-- The high byte of a word. -/
def Word.hi (w : Word) : Byte := w.extractLsb' 8 8

/-- A word from its high and its low byte (`hi ++ lo`). -/
def Word.of (hi lo : Byte) : Word := hi ++ lo

end Sys2Proof
end

