-- ==== Sys2Proof/Config.lean ====
section
/-! DEFINITION. What an implementation or a platform fixes and the spec leaves open: free values, as constants
with no body (92_eei_decisions.md section 2, 93_implementation_defined.md). Nothing can be proved of their values. -/

namespace Sys2Proof

/-- One bus cycle that no memory answers: an access to the I/O space (20_memory.md R130), with its port and whether it
is a word access; or one to an address in the memory space where the platform has a device, or nothing (R133, R169). A
write has its value. The list of all of them is what the devices have seen (R88). -/
inductive IoEvent where
  | read (port : Word) (wide : Bool)
  | write (port : Word) (wide : Bool) (value : Word)
  | memRead (pa : PhysAddr) (wide : Bool)
  | memWrite (pa : PhysAddr) (wide : Bool) (value : Word)
  deriving DecidableEq, Repr

/-- UNDEF1(): the n-th draw of an undefined bit. -/
opaque Config.undefBit : Nat → Bool

/-- UNDEF16(): the n-th draw of an undefined word. -/
opaque Config.undef16 : Nat → Word

/-- UNDEF: the n-th draw of an undefined numeric register. -/
opaque Config.undef80 : Nat → Reg80

/-- IO_READ(port, width): what the platform's device answers, after the accesses `history`. A byte read uses the
low eight bits. -/
opaque Config.ioRead : (history : List IoEvent) → (port : Word) → (wide : Bool) → Word

/-- MEM where the platform has a device or nothing: what a read at `pa` answers at the given time, after the accesses
`history` (20_memory.md R88, R133, R169). A byte read uses the low eight bits. -/
opaque Config.memRead : (clock : Nat) → (history : List IoEvent) → (pa : PhysAddr) → (wide : Bool) → Word

/-- NPX_TAN: the two results Y and X of FPTAN, in this order (49_npx_instructions.md R681). -/
opaque Config.npxTan : (cw : Word) → (theta : Reg80) → Reg80 × Reg80

/-- NPX_ATAN: the result of FPATAN (49_npx_instructions.md R682). -/
opaque Config.npxAtan : (cw : Word) → (y x : Reg80) → Reg80

/-- NPX_2XM1: the result of F2XM1 (49_npx_instructions.md R683). -/
opaque Config.npx2xm1 : (cw : Word) → (x : Reg80) → Reg80

/-- NPX_YL2X: the result of FYL2X (49_npx_instructions.md R684). -/
opaque Config.npxYl2x : (cw : Word) → (y x : Reg80) → Reg80

/-- NPX_YL2XP1: the result of FYL2XP1 (49_npx_instructions.md R685). -/
opaque Config.npxYl2xp1 : (cw : Word) → (y x : Reg80) → Reg80

end Sys2Proof
end

