-- ==== Sys2Proof/Syntax.lean ====
section
/-! DEFINITION. The syntax of the instruction set: operands, and one constructor of `Instr` for each row of
spec/opcode_table.json, in the table's order (30_encoding.md R197 to R206; 49_npx_instructions.md R621). -/

namespace Sys2Proof

/-- Word registers, in the order of their numbers (30_encoding.md R186). -/
inductive Reg16 where
  | ax | cx | dx | bx | sp | bp | si | di
  deriving DecidableEq, Repr

/-- Byte registers, in the order of their numbers (30_encoding.md R187). -/
inductive Reg8 where
  | al | cl | dl | bl | ah | ch | dh | bh
  deriving DecidableEq, Repr

/-- Segment registers, in the order of their numbers (30_encoding.md R188). -/
inductive SegReg where
  | es | cs | ss | ds
  deriving DecidableEq, Repr

/-- The base and index part of an effective address, in the order of the r/m field (30_encoding.md R190). -/
inductive EaBase where
  | bxSi | bxDi | bpSi | bpDi | si | di | bp | bx
  deriving DecidableEq, Repr

/-- A ModRM memory operand: one constructor for each encoding of its displacement (30_encoding.md R189). -/
inductive Ea where
  /-- mod = 00, no displacement; `bp` is not one of these. -/
  | noDisp (b : EaBase)
  /-- mod = 00, r/m = 110: direct address. -/
  | direct (d : BitVec 16)
  /-- mod = 01: displacement byte, sign-extended. -/
  | disp8 (b : EaBase) (d : BitVec 8)
  /-- mod = 10: displacement word. -/
  | disp16 (b : EaBase) (d : BitVec 16)
  deriving DecidableEq, Repr

/-- A ModRM register-or-memory operand. -/
inductive Rm (R : Type) where
  | reg (r : R)
  | mem (ea : Ea)
  deriving DecidableEq, Repr

/-- One constructor per row of the opcode table. `rel` is a relative displacement (R194), `imm` an immediate
(R196), `off` and `sel` the parts of a far pointer (R195), `i` the index of `ST(i)`. -/
inductive Instr where
  /-- 0000/FF00 ADD eb,rb (R271). -/
  | addEbRb (d : Rm Reg8) (r : Reg8)
  /-- 0100/FF00 ADD ew,rw (R271). -/
  | addEwRw (d : Rm Reg16) (r : Reg16)
  /-- 0200/FF00 ADD rb,eb (R271). -/
  | addRbEb (r : Reg8) (d : Rm Reg8)
  /-- 0300/FF00 ADD rw,ew (R271). -/
  | addRwEw (r : Reg16) (d : Rm Reg16)
  /-- 04/FF ADD AL,db (R271). -/
  | addAlDb (imm : BitVec 8)
  /-- 05/FF ADD AX,dw (R271). -/
  | addAxDw (imm : BitVec 16)
  /-- 06/FF PUSH ES (R240). -/
  | pushEs
  /-- 07/FF POP ES (R244). -/
  | popEs
  /-- 0800/FF00 OR eb,rb (R312). -/
  | orEbRb (d : Rm Reg8) (r : Reg8)
  /-- 0900/FF00 OR ew,rw (R312). -/
  | orEwRw (d : Rm Reg16) (r : Reg16)
  /-- 0A00/FF00 OR rb,eb (R312). -/
  | orRbEb (r : Reg8) (d : Rm Reg8)
  /-- 0B00/FF00 OR rw,ew (R312). -/
  | orRwEw (r : Reg16) (d : Rm Reg16)
  /-- 0C/FF OR AL,db (R312). -/
  | orAlDb (imm : BitVec 8)
  /-- 0D/FF OR AX,dw (R312). -/
  | orAxDw (imm : BitVec 16)
  /-- 0E/FF PUSH CS (R240). -/
  | pushCs
  /-- 0F0000/FFFF38 SLDT ew (R497). -/
  | sldtEw (d : Rm Reg16)
  /-- 0F0008/FFFF38 STR ew (R499). -/
  | strEw (d : Rm Reg16)
  /-- 0F0010/FFFF38 LLDT ew (R496). -/
  | lldtEw (d : Rm Reg16)
  /-- 0F0018/FFFF38 LTR ew (R498). -/
  | ltrEw (d : Rm Reg16)
  /-- 0F0020/FFFF38 VERR ew (R507). -/
  | verrEw (d : Rm Reg16)
  /-- 0F0028/FFFF38 VERW ew (R508). -/
  | verwEw (d : Rm Reg16)
  /-- 0F0100/FFFF38 SGDT m (R494). -/
  | sgdtM (ea : Ea)
  /-- 0F0108/FFFF38 SIDT m (R495). -/
  | sidtM (ea : Ea)
  /-- 0F0110/FFFF38 LGDT m (R492). -/
  | lgdtM (ea : Ea)
  /-- 0F0118/FFFF38 LIDT m (R493). -/
  | lidtM (ea : Ea)
  /-- 0F0120/FFFF38 SMSW ew (R501). -/
  | smswEw (d : Rm Reg16)
  /-- 0F0130/FFFF38 LMSW ew (R500). -/
  | lmswEw (d : Rm Reg16)
  /-- 0F0200/FFFF00 LAR rw,ew (R505). -/
  | larRwEw (r : Reg16) (d : Rm Reg16)
  /-- 0F0300/FFFF00 LSL rw,ew (R506). -/
  | lslRwEw (r : Reg16) (d : Rm Reg16)
  /-- 0F06/FFFF CLTS  (R502). -/
  | clts
  /-- 1000/FF00 ADC eb,rb (R272). -/
  | adcEbRb (d : Rm Reg8) (r : Reg8)
  /-- 1100/FF00 ADC ew,rw (R272). -/
  | adcEwRw (d : Rm Reg16) (r : Reg16)
  /-- 1200/FF00 ADC rb,eb (R272). -/
  | adcRbEb (r : Reg8) (d : Rm Reg8)
  /-- 1300/FF00 ADC rw,ew (R272). -/
  | adcRwEw (r : Reg16) (d : Rm Reg16)
  /-- 14/FF ADC AL,db (R272). -/
  | adcAlDb (imm : BitVec 8)
  /-- 15/FF ADC AX,dw (R272). -/
  | adcAxDw (imm : BitVec 16)
  /-- 16/FF PUSH SS (R240). -/
  | pushSs
  /-- 17/FF POP SS (R244). -/
  | popSs
  /-- 1800/FF00 SBB eb,rb (R274). -/
  | sbbEbRb (d : Rm Reg8) (r : Reg8)
  /-- 1900/FF00 SBB ew,rw (R274). -/
  | sbbEwRw (d : Rm Reg16) (r : Reg16)
  /-- 1A00/FF00 SBB rb,eb (R274). -/
  | sbbRbEb (r : Reg8) (d : Rm Reg8)
  /-- 1B00/FF00 SBB rw,ew (R274). -/
  | sbbRwEw (r : Reg16) (d : Rm Reg16)
  /-- 1C/FF SBB AL,db (R274). -/
  | sbbAlDb (imm : BitVec 8)
  /-- 1D/FF SBB AX,dw (R274). -/
  | sbbAxDw (imm : BitVec 16)
  /-- 1E/FF PUSH DS (R240). -/
  | pushDs
  /-- 1F/FF POP DS (R244). -/
  | popDs
  /-- 2000/FF00 AND eb,rb (R311). -/
  | andEbRb (d : Rm Reg8) (r : Reg8)
  /-- 2100/FF00 AND ew,rw (R311). -/
  | andEwRw (d : Rm Reg16) (r : Reg16)
  /-- 2200/FF00 AND rb,eb (R311). -/
  | andRbEb (r : Reg8) (d : Rm Reg8)
  /-- 2300/FF00 AND rw,ew (R311). -/
  | andRwEw (r : Reg16) (d : Rm Reg16)
  /-- 24/FF AND AL,db (R311). -/
  | andAlDb (imm : BitVec 8)
  /-- 25/FF AND AX,dw (R311). -/
  | andAxDw (imm : BitVec 16)
  /-- 26/FF ES: prefix (R182). -/
  | pfxEs
  /-- 27/FF DAA  (R284). -/
  | daa
  /-- 2800/FF00 SUB eb,rb (R273). -/
  | subEbRb (d : Rm Reg8) (r : Reg8)
  /-- 2900/FF00 SUB ew,rw (R273). -/
  | subEwRw (d : Rm Reg16) (r : Reg16)
  /-- 2A00/FF00 SUB rb,eb (R273). -/
  | subRbEb (r : Reg8) (d : Rm Reg8)
  /-- 2B00/FF00 SUB rw,ew (R273). -/
  | subRwEw (r : Reg16) (d : Rm Reg16)
  /-- 2C/FF SUB AL,db (R273). -/
  | subAlDb (imm : BitVec 8)
  /-- 2D/FF SUB AX,dw (R273). -/
  | subAxDw (imm : BitVec 16)
  /-- 2E/FF CS: prefix (R182). -/
  | pfxCs
  /-- 2F/FF DAS  (R285). -/
  | das
  /-- 3000/FF00 XOR eb,rb (R313). -/
  | xorEbRb (d : Rm Reg8) (r : Reg8)
  /-- 3100/FF00 XOR ew,rw (R313). -/
  | xorEwRw (d : Rm Reg16) (r : Reg16)
  /-- 3200/FF00 XOR rb,eb (R313). -/
  | xorRbEb (r : Reg8) (d : Rm Reg8)
  /-- 3300/FF00 XOR rw,ew (R313). -/
  | xorRwEw (r : Reg16) (d : Rm Reg16)
  /-- 34/FF XOR AL,db (R313). -/
  | xorAlDb (imm : BitVec 8)
  /-- 35/FF XOR AX,dw (R313). -/
  | xorAxDw (imm : BitVec 16)
  /-- 36/FF SS: prefix (R182). -/
  | pfxSs
  /-- 37/FF AAA  (R286). -/
  | aaa
  /-- 3800/FF00 CMP eb,rb (R275). -/
  | cmpEbRb (d : Rm Reg8) (r : Reg8)
  /-- 3900/FF00 CMP ew,rw (R275). -/
  | cmpEwRw (d : Rm Reg16) (r : Reg16)
  /-- 3A00/FF00 CMP rb,eb (R275). -/
  | cmpRbEb (r : Reg8) (d : Rm Reg8)
  /-- 3B00/FF00 CMP rw,ew (R275). -/
  | cmpRwEw (r : Reg16) (d : Rm Reg16)
  /-- 3C/FF CMP AL,db (R275). -/
  | cmpAlDb (imm : BitVec 8)
  /-- 3D/FF CMP AX,dw (R275). -/
  | cmpAxDw (imm : BitVec 16)
  /-- 3E/FF DS: prefix (R182). -/
  | pfxDs
  /-- 3F/FF AAS  (R287). -/
  | aas
  /-- 40/F8 INC rw (R276). -/
  | incRw (r : Reg16)
  /-- 48/F8 DEC rw (R277). -/
  | decRw (r : Reg16)
  /-- 50/F8 PUSH rw (R238). -/
  | pushRw (r : Reg16)
  /-- 58/F8 POP rw (R242). -/
  | popRw (r : Reg16)
  /-- 60/FF PUSHA  (R245). -/
  | pusha
  /-- 61/FF POPA  (R246). -/
  | popa
  /-- 6200/FF00 BOUND rw,md (R483). -/
  | boundRwMd (r : Reg16) (ea : Ea)
  /-- 6300/FF00 ARPL ew,rw (R503). -/
  | arplEwRw (d : Rm Reg16) (r : Reg16)
  /-- 68/FF PUSH dw (R241). -/
  | pushDw (imm : BitVec 16)
  /-- 6900/FF00 IMUL rw,ew,dw (R281). -/
  | imulRwEwDw (r : Reg16) (d : Rm Reg16) (imm : BitVec 16)
  /-- 6A/FF PUSH db (R241). -/
  | pushDb (imm : BitVec 8)
  /-- 6B00/FF00 IMUL rw,ew,db (R281). -/
  | imulRwEwDb (r : Reg16) (d : Rm Reg16) (imm : BitVec 8)
  /-- 6C/FF INSB eb,DX (R431). -/
  | insb
  /-- 6D/FF INSW ew,DX (R432). -/
  | insw
  /-- 6E/FF OUTSB DX,eb (R433). -/
  | outsb
  /-- 6F/FF OUTSW DX,ew (R434). -/
  | outsw
  /-- 70/FF JO cb (R345). -/
  | joCb (rel : BitVec 8)
  /-- 71/FF JNO cb (R346). -/
  | jnoCb (rel : BitVec 8)
  /-- 72/FF JB cb (R347). -/
  | jbCb (rel : BitVec 8)
  /-- 73/FF JNB cb (R348). -/
  | jnbCb (rel : BitVec 8)
  /-- 74/FF JE cb (R349). -/
  | jeCb (rel : BitVec 8)
  /-- 75/FF JNE cb (R350). -/
  | jneCb (rel : BitVec 8)
  /-- 76/FF JBE cb (R351). -/
  | jbeCb (rel : BitVec 8)
  /-- 77/FF JNBE cb (R352). -/
  | jnbeCb (rel : BitVec 8)
  /-- 78/FF JS cb (R353). -/
  | jsCb (rel : BitVec 8)
  /-- 79/FF JNS cb (R354). -/
  | jnsCb (rel : BitVec 8)
  /-- 7A/FF JP cb (R355). -/
  | jpCb (rel : BitVec 8)
  /-- 7B/FF JNP cb (R356). -/
  | jnpCb (rel : BitVec 8)
  /-- 7C/FF JL cb (R357). -/
  | jlCb (rel : BitVec 8)
  /-- 7D/FF JNL cb (R358). -/
  | jnlCb (rel : BitVec 8)
  /-- 7E/FF JLE cb (R359). -/
  | jleCb (rel : BitVec 8)
  /-- 7F/FF JNLE cb (R360). -/
  | jnleCb (rel : BitVec 8)
  /-- 8000/FF38 ADD eb,db (R271). -/
  | addEbDb (d : Rm Reg8) (imm : BitVec 8)
  /-- 8008/FF38 OR eb,db (R312). -/
  | orEbDb (d : Rm Reg8) (imm : BitVec 8)
  /-- 8010/FF38 ADC eb,db (R272). -/
  | adcEbDb (d : Rm Reg8) (imm : BitVec 8)
  /-- 8018/FF38 SBB eb,db (R274). -/
  | sbbEbDb (d : Rm Reg8) (imm : BitVec 8)
  /-- 8020/FF38 AND eb,db (R311). -/
  | andEbDb (d : Rm Reg8) (imm : BitVec 8)
  /-- 8028/FF38 SUB eb,db (R273). -/
  | subEbDb (d : Rm Reg8) (imm : BitVec 8)
  /-- 8030/FF38 XOR eb,db (R313). -/
  | xorEbDb (d : Rm Reg8) (imm : BitVec 8)
  /-- 8038/FF38 CMP eb,db (R275). -/
  | cmpEbDb (d : Rm Reg8) (imm : BitVec 8)
  /-- 8100/FF38 ADD ew,dw (R271). -/
  | addEwDw (d : Rm Reg16) (imm : BitVec 16)
  /-- 8108/FF38 OR ew,dw (R312). -/
  | orEwDw (d : Rm Reg16) (imm : BitVec 16)
  /-- 8110/FF38 ADC ew,dw (R272). -/
  | adcEwDw (d : Rm Reg16) (imm : BitVec 16)
  /-- 8118/FF38 SBB ew,dw (R274). -/
  | sbbEwDw (d : Rm Reg16) (imm : BitVec 16)
  /-- 8120/FF38 AND ew,dw (R311). -/
  | andEwDw (d : Rm Reg16) (imm : BitVec 16)
  /-- 8128/FF38 SUB ew,dw (R273). -/
  | subEwDw (d : Rm Reg16) (imm : BitVec 16)
  /-- 8130/FF38 XOR ew,dw (R313). -/
  | xorEwDw (d : Rm Reg16) (imm : BitVec 16)
  /-- 8138/FF38 CMP ew,dw (R275). -/
  | cmpEwDw (d : Rm Reg16) (imm : BitVec 16)
  /-- 8300/FF38 ADD ew,db (R271). -/
  | addEwDb (d : Rm Reg16) (imm : BitVec 8)
  /-- 8310/FF38 ADC ew,db (R272). -/
  | adcEwDb (d : Rm Reg16) (imm : BitVec 8)
  /-- 8318/FF38 SBB ew,db (R274). -/
  | sbbEwDb (d : Rm Reg16) (imm : BitVec 8)
  /-- 8328/FF38 SUB ew,db (R273). -/
  | subEwDb (d : Rm Reg16) (imm : BitVec 8)
  /-- 8338/FF38 CMP ew,db (R275). -/
  | cmpEwDb (d : Rm Reg16) (imm : BitVec 8)
  /-- 8400/FF00 TEST eb,rb (R314). -/
  | testEbRb (d : Rm Reg8) (r : Reg8)
  /-- 8500/FF00 TEST ew,rw (R314). -/
  | testEwRw (d : Rm Reg16) (r : Reg16)
  /-- 8600/FF00 XCHG eb,rb (R237). -/
  | xchgEbRb (d : Rm Reg8) (r : Reg8)
  /-- 8700/FF00 XCHG ew,rw (R237). -/
  | xchgEwRw (d : Rm Reg16) (r : Reg16)
  /-- 8800/FF00 MOV eb,rb (R231). -/
  | movEbRb (d : Rm Reg8) (r : Reg8)
  /-- 8900/FF00 MOV ew,rw (R231). -/
  | movEwRw (d : Rm Reg16) (r : Reg16)
  /-- 8A00/FF00 MOV rb,eb (R231). -/
  | movRbEb (r : Reg8) (d : Rm Reg8)
  /-- 8B00/FF00 MOV rw,ew (R231). -/
  | movRwEw (r : Reg16) (d : Rm Reg16)
  /-- 8C00/FF20 MOV ew,sreg (R235). -/
  | movEwSreg (d : Rm Reg16) (sr : SegReg)
  /-- 8D00/FF00 LEA rw,m (R251). -/
  | leaRwM (r : Reg16) (ea : Ea)
  /-- 8E00/FF38 MOV ES,ew (R236). -/
  | movEsEw (d : Rm Reg16)
  /-- 8E10/FF38 MOV SS,ew (R236). -/
  | movSsEw (d : Rm Reg16)
  /-- 8E18/FF38 MOV DS,ew (R236). -/
  | movDsEw (d : Rm Reg16)
  /-- 8F00/FF38 POP mw (R243). -/
  | popMw (d : Rm Reg16)
  /-- 90/FF NOP  (R464). -/
  | nop
  /-- 90/F8 XCHG AX,rw (R237). -/
  | xchgAxRw (r : Reg16)
  /-- 98/FF CBW  (R255). -/
  | cbw
  /-- 99/FF CWD  (R256). -/
  | cwd
  /-- 9A/FF CALL cd (R372). -/
  | callCd (off : BitVec 16) (sel : BitVec 16)
  /-- 9B/FF WAIT  (R465). -/
  | wait
  /-- 9C/FF PUSHF  (R247). -/
  | pushf
  /-- 9D/FF POPF  (R248). -/
  | popf
  /-- 9E/FF SAHF  (R250). -/
  | sahf
  /-- 9F/FF LAHF  (R249). -/
  | lahf
  /-- A0/FF MOV AL,xb (R232). -/
  | movAlXb (off : BitVec 16)
  /-- A1/FF MOV AX,xw (R232). -/
  | movAxXw (off : BitVec 16)
  /-- A2/FF MOV xb,AL (R232). -/
  | movXbAl (off : BitVec 16)
  /-- A3/FF MOV xw,AX (R232). -/
  | movXwAx (off : BitVec 16)
  /-- A4/FF MOVSB mb,mb (R421). -/
  | movsb
  /-- A5/FF MOVSW mw,mw (R422). -/
  | movsw
  /-- A6/FF CMPSB mb,mb (R423). -/
  | cmpsb
  /-- A7/FF CMPSW mw,mw (R424). -/
  | cmpsw
  /-- A8/FF TEST AL,db (R314). -/
  | testAlDb (imm : BitVec 8)
  /-- A9/FF TEST AX,dw (R314). -/
  | testAxDw (imm : BitVec 16)
  /-- AA/FF STOSB mb (R429). -/
  | stosb
  /-- AB/FF STOSW mw (R430). -/
  | stosw
  /-- AC/FF LODSB mb (R427). -/
  | lodsb
  /-- AD/FF LODSW mw (R428). -/
  | lodsw
  /-- AE/FF SCASB mb (R425). -/
  | scasb
  /-- AF/FF SCASW mw (R426). -/
  | scasw
  /-- B0/F8 MOV rb,db (R233). -/
  | movRbDb (r : Reg8) (imm : BitVec 8)
  /-- B8/F8 MOV rw,dw (R233). -/
  | movRwDw (r : Reg16) (imm : BitVec 16)
  /-- C000/FF38 ROL eb,db (R323). -/
  | rolEbDb (d : Rm Reg8) (imm : BitVec 8)
  /-- C008/FF38 ROR eb,db (R324). -/
  | rorEbDb (d : Rm Reg8) (imm : BitVec 8)
  /-- C010/FF38 RCL eb,db (R325). -/
  | rclEbDb (d : Rm Reg8) (imm : BitVec 8)
  /-- C018/FF38 RCR eb,db (R326). -/
  | rcrEbDb (d : Rm Reg8) (imm : BitVec 8)
  /-- C020/FF38 SAL eb,db (R320). -/
  | salEbDb (d : Rm Reg8) (imm : BitVec 8)
  /-- C028/FF38 SHR eb,db (R321). -/
  | shrEbDb (d : Rm Reg8) (imm : BitVec 8)
  /-- C038/FF38 SAR eb,db (R322). -/
  | sarEbDb (d : Rm Reg8) (imm : BitVec 8)
  /-- C100/FF38 ROL ew,db (R323). -/
  | rolEwDb (d : Rm Reg16) (imm : BitVec 8)
  /-- C108/FF38 ROR ew,db (R324). -/
  | rorEwDb (d : Rm Reg16) (imm : BitVec 8)
  /-- C110/FF38 RCL ew,db (R325). -/
  | rclEwDb (d : Rm Reg16) (imm : BitVec 8)
  /-- C118/FF38 RCR ew,db (R326). -/
  | rcrEwDb (d : Rm Reg16) (imm : BitVec 8)
  /-- C120/FF38 SAL ew,db (R320). -/
  | salEwDb (d : Rm Reg16) (imm : BitVec 8)
  /-- C128/FF38 SHR ew,db (R321). -/
  | shrEwDb (d : Rm Reg16) (imm : BitVec 8)
  /-- C138/FF38 SAR ew,db (R322). -/
  | sarEwDb (d : Rm Reg16) (imm : BitVec 8)
  /-- C2/FF RET dw (R368). -/
  | retNearDw (imm : BitVec 16)
  /-- C3/FF RET  (R367). -/
  | retNear
  /-- C400/FF00 LES rw,ed (R253). -/
  | lesRwEd (r : Reg16) (ea : Ea)
  /-- C500/FF00 LDS rw,ed (R252). -/
  | ldsRwEd (r : Reg16) (ea : Ea)
  /-- C600/FF38 MOV eb,db (R234). -/
  | movEbDb (d : Rm Reg8) (imm : BitVec 8)
  /-- C700/FF38 MOV ew,dw (R234). -/
  | movEwDw (d : Rm Reg16) (imm : BitVec 16)
  /-- C8/FF ENTER dw,db (R480). -/
  | enterDwDb (size : BitVec 16) (level : BitVec 8)
  /-- C9/FF LEAVE  (R482). -/
  | leave
  /-- CA/FF RET dw (R375). -/
  | retFarDw (imm : BitVec 16)
  /-- CB/FF RET  (R374). -/
  | retFar
  /-- CC/FF INT 3 (R387). -/
  | int3
  /-- CD/FF INT db (R386). -/
  | intDb (imm : BitVec 8)
  /-- CE/FF INTO  (R388). -/
  | into
  /-- CF/FF IRET  (R389). -/
  | iret
  /-- D000/FF38 ROL eb,1 (R323). -/
  | rolEb1 (d : Rm Reg8)
  /-- D008/FF38 ROR eb,1 (R324). -/
  | rorEb1 (d : Rm Reg8)
  /-- D010/FF38 RCL eb,1 (R325). -/
  | rclEb1 (d : Rm Reg8)
  /-- D018/FF38 RCR eb,1 (R326). -/
  | rcrEb1 (d : Rm Reg8)
  /-- D020/FF38 SAL eb,1 (R320). -/
  | salEb1 (d : Rm Reg8)
  /-- D028/FF38 SHR eb,1 (R321). -/
  | shrEb1 (d : Rm Reg8)
  /-- D038/FF38 SAR eb,1 (R322). -/
  | sarEb1 (d : Rm Reg8)
  /-- D100/FF38 ROL ew,1 (R323). -/
  | rolEw1 (d : Rm Reg16)
  /-- D108/FF38 ROR ew,1 (R324). -/
  | rorEw1 (d : Rm Reg16)
  /-- D110/FF38 RCL ew,1 (R325). -/
  | rclEw1 (d : Rm Reg16)
  /-- D118/FF38 RCR ew,1 (R326). -/
  | rcrEw1 (d : Rm Reg16)
  /-- D120/FF38 SAL ew,1 (R320). -/
  | salEw1 (d : Rm Reg16)
  /-- D128/FF38 SHR ew,1 (R321). -/
  | shrEw1 (d : Rm Reg16)
  /-- D138/FF38 SAR ew,1 (R322). -/
  | sarEw1 (d : Rm Reg16)
  /-- D200/FF38 ROL eb,CL (R323). -/
  | rolEbCl (d : Rm Reg8)
  /-- D208/FF38 ROR eb,CL (R324). -/
  | rorEbCl (d : Rm Reg8)
  /-- D210/FF38 RCL eb,CL (R325). -/
  | rclEbCl (d : Rm Reg8)
  /-- D218/FF38 RCR eb,CL (R326). -/
  | rcrEbCl (d : Rm Reg8)
  /-- D220/FF38 SAL eb,CL (R320). -/
  | salEbCl (d : Rm Reg8)
  /-- D228/FF38 SHR eb,CL (R321). -/
  | shrEbCl (d : Rm Reg8)
  /-- D238/FF38 SAR eb,CL (R322). -/
  | sarEbCl (d : Rm Reg8)
  /-- D300/FF38 ROL ew,CL (R323). -/
  | rolEwCl (d : Rm Reg16)
  /-- D308/FF38 ROR ew,CL (R324). -/
  | rorEwCl (d : Rm Reg16)
  /-- D310/FF38 RCL ew,CL (R325). -/
  | rclEwCl (d : Rm Reg16)
  /-- D318/FF38 RCR ew,CL (R326). -/
  | rcrEwCl (d : Rm Reg16)
  /-- D320/FF38 SAL ew,CL (R320). -/
  | salEwCl (d : Rm Reg16)
  /-- D328/FF38 SHR ew,CL (R321). -/
  | shrEwCl (d : Rm Reg16)
  /-- D338/FF38 SAR ew,CL (R322). -/
  | sarEwCl (d : Rm Reg16)
  /-- D40A/FFFF AAM  (R288). -/
  | aam
  /-- D50A/FFFF AAD  (R289). -/
  | aad
  /-- D7/FF XLAT mb (R254). -/
  | xlat
  /-- E0/FF LOOPNE cb (R364). -/
  | loopneCb (rel : BitVec 8)
  /-- E1/FF LOOPE cb (R363). -/
  | loopeCb (rel : BitVec 8)
  /-- E2/FF LOOP cb (R362). -/
  | loopCb (rel : BitVec 8)
  /-- E3/FF JCXZ cb (R361). -/
  | jcxzCb (rel : BitVec 8)
  /-- E4/FF IN AL,db (R458). -/
  | inAlDb (imm : BitVec 8)
  /-- E5/FF IN AX,db (R458). -/
  | inAxDb (imm : BitVec 8)
  /-- E6/FF OUT db,AL (R460). -/
  | outDbAl (imm : BitVec 8)
  /-- E7/FF OUT db,AX (R460). -/
  | outDbAx (imm : BitVec 8)
  /-- E8/FF CALL cw (R365). -/
  | callCw (rel : BitVec 16)
  /-- E9/FF JMP cw (R342). -/
  | jmpCw (rel : BitVec 16)
  /-- EA/FF JMP cd (R370). -/
  | jmpCd (off : BitVec 16) (sel : BitVec 16)
  /-- EB/FF JMP cb (R341). -/
  | jmpCb (rel : BitVec 8)
  /-- EC/FF IN AL,DX (R459). -/
  | inAlDx
  /-- ED/FF IN AX,DX (R459). -/
  | inAxDx
  /-- EE/FF OUT DX,AL (R461). -/
  | outDxAl
  /-- EF/FF OUT DX,AX (R461). -/
  | outDxAx
  /-- F0/FF LOCK prefix (R466). -/
  | pfxLock
  /-- F2/FF REPNE prefix (R436). -/
  | pfxRepne
  /-- F3/FF REP prefix (R435). -/
  | pfxRep
  /-- F4/FF HLT  (R463). -/
  | hlt
  /-- F5/FF CMC  (R452). -/
  | cmc
  /-- F600/FF38 TEST eb,db (R314). -/
  | testEbDb (d : Rm Reg8) (imm : BitVec 8)
  /-- F610/FF38 NOT eb (R315). -/
  | notEb (d : Rm Reg8)
  /-- F618/FF38 NEG eb (R278). -/
  | negEb (d : Rm Reg8)
  /-- F620/FF38 MUL eb (R279). -/
  | mulEb (d : Rm Reg8)
  /-- F628/FF38 IMUL eb (R280). -/
  | imulEb (d : Rm Reg8)
  /-- F630/FF38 DIV eb (R282). -/
  | divEb (d : Rm Reg8)
  /-- F638/FF38 IDIV eb (R283). -/
  | idivEb (d : Rm Reg8)
  /-- F700/FF38 TEST ew,dw (R314). -/
  | testEwDw (d : Rm Reg16) (imm : BitVec 16)
  /-- F710/FF38 NOT ew (R315). -/
  | notEw (d : Rm Reg16)
  /-- F718/FF38 NEG ew (R278). -/
  | negEw (d : Rm Reg16)
  /-- F720/FF38 MUL ew (R279). -/
  | mulEw (d : Rm Reg16)
  /-- F728/FF38 IMUL ew (R280). -/
  | imulEw (d : Rm Reg16)
  /-- F730/FF38 DIV ew (R282). -/
  | divEw (d : Rm Reg16)
  /-- F738/FF38 IDIV ew (R283). -/
  | idivEw (d : Rm Reg16)
  /-- F8/FF CLC  (R451). -/
  | clc
  /-- F9/FF STC  (R453). -/
  | stc
  /-- FA/FF CLI  (R456). -/
  | cli
  /-- FB/FF STI  (R457). -/
  | sti
  /-- FC/FF CLD  (R454). -/
  | cld
  /-- FD/FF STD  (R455). -/
  | std
  /-- FE00/FF38 INC eb (R276). -/
  | incEb (d : Rm Reg8)
  /-- FE08/FF38 DEC eb (R277). -/
  | decEb (d : Rm Reg8)
  /-- FF00/FF38 INC ew (R276). -/
  | incEw (d : Rm Reg16)
  /-- FF08/FF38 DEC ew (R277). -/
  | decEw (d : Rm Reg16)
  /-- FF10/FF38 CALL ew (R366). -/
  | callEw (d : Rm Reg16)
  /-- FF18/FF38 CALL ed (R373). -/
  | callEd (ea : Ea)
  /-- FF20/FF38 JMP ew (R343). -/
  | jmpEw (d : Rm Reg16)
  /-- FF28/FF38 JMP ed (R371). -/
  | jmpEd (ea : Ea)
  /-- FF30/FF38 PUSH mw (R239). -/
  | pushMw (d : Rm Reg16)
  /-- D800/FF38 FADD m32real (R642). -/
  | faddM32real (ea : Ea)
  /-- D808/FF38 FMUL m32real (R651). -/
  | fmulM32real (ea : Ea)
  /-- D810/FF38 FCOM m32real (R671). -/
  | fcomM32real (ea : Ea)
  /-- D818/FF38 FCOMP m32real (R672). -/
  | fcompM32real (ea : Ea)
  /-- D820/FF38 FSUB m32real (R645). -/
  | fsubM32real (ea : Ea)
  /-- D828/FF38 FSUBR m32real (R648). -/
  | fsubrM32real (ea : Ea)
  /-- D830/FF38 FDIV m32real (R654). -/
  | fdivM32real (ea : Ea)
  /-- D838/FF38 FDIVR m32real (R657). -/
  | fdivrM32real (ea : Ea)
  /-- D8C0/FFF8 FADD ST,ST(i) (R642). -/
  | faddStSti (i : BitVec 3)
  /-- D8C8/FFF8 FMUL ST,ST(i) (R651). -/
  | fmulStSti (i : BitVec 3)
  /-- D8D0/FFF8 FCOM ST(i) (R671). -/
  | fcomSti (i : BitVec 3)
  /-- D8D8/FFF8 FCOMP ST(i) (R672). -/
  | fcompSti (i : BitVec 3)
  /-- D8E0/FFF8 FSUB ST,ST(i) (R645). -/
  | fsubStSti (i : BitVec 3)
  /-- D8E8/FFF8 FSUBR ST,ST(i) (R648). -/
  | fsubrStSti (i : BitVec 3)
  /-- D8F0/FFF8 FDIV ST,ST(i) (R654). -/
  | fdivStSti (i : BitVec 3)
  /-- D8F8/FFF8 FDIVR ST,ST(i) (R657). -/
  | fdivrStSti (i : BitVec 3)
  /-- D900/FF38 FLD m32real (R625). -/
  | fldM32real (ea : Ea)
  /-- D910/FF38 FST m32real (R626). -/
  | fstM32real (ea : Ea)
  /-- D918/FF38 FSTP m32real (R627). -/
  | fstpM32real (ea : Ea)
  /-- D920/FF38 FLDENV m14byte (R709). -/
  | fldenvM14byte (ea : Ea)
  /-- D928/FF38 FLDCW m2byte (R703). -/
  | fldcwM2byte (ea : Ea)
  /-- D930/FF38 FNSTENV m14byte (R708). -/
  | fnstenvM14byte (ea : Ea)
  /-- D938/FF38 FNSTCW m2byte (R704). -/
  | fnstcwM2byte (ea : Ea)
  /-- D9C0/FFF8 FLD ST(i) (R625). -/
  | fldSti (i : BitVec 3)
  /-- D9C8/FFF8 FXCH ST(i) (R628). -/
  | fxchSti (i : BitVec 3)
  /-- D9D0/FFFF FNOP  (R715). -/
  | fnop
  /-- D9D8/FFF8 FSTP ST(i) (R627). -/
  | fstpStiD9 (i : BitVec 3)
  /-- D9E0/FFFF FCHS  (R666). -/
  | fchs
  /-- D9E1/FFFF FABS  (R665). -/
  | fabs
  /-- D9E4/FFFF FTST  (R676). -/
  | ftst
  /-- D9E5/FFFF FXAM  (R677). -/
  | fxam
  /-- D9E8/FFFF FLD1  (R692). -/
  | fld1
  /-- D9E9/FFFF FLDL2T  (R694). -/
  | fldl2t
  /-- D9EA/FFFF FLDL2E  (R695). -/
  | fldl2e
  /-- D9EB/FFFF FLDPI  (R693). -/
  | fldpi
  /-- D9EC/FFFF FLDLG2  (R696). -/
  | fldlg2
  /-- D9ED/FFFF FLDLN2  (R697). -/
  | fldln2
  /-- D9EE/FFFF FLDZ  (R691). -/
  | fldz
  /-- D9F0/FFFF F2XM1  (R683). -/
  | f2xm1
  /-- D9F1/FFFF FYL2X  (R684). -/
  | fyl2x
  /-- D9F2/FFFF FPTAN  (R681). -/
  | fptan
  /-- D9F3/FFFF FPATAN  (R682). -/
  | fpatan
  /-- D9F4/FFFF FXTRACT  (R664). -/
  | fxtract
  /-- D9F6/FFFF FDECSTP  (R713). -/
  | fdecstp
  /-- D9F7/FFFF FINCSTP  (R712). -/
  | fincstp
  /-- D9F8/FFFF FPREM  (R662). -/
  | fprem
  /-- D9F9/FFFF FYL2XP1  (R685). -/
  | fyl2xp1
  /-- D9FA/FFFF FSQRT  (R660). -/
  | fsqrt
  /-- D9FC/FFFF FRNDINT  (R663). -/
  | frndint
  /-- D9FD/FFFF FSCALE  (R661). -/
  | fscale
  /-- DA00/FF38 FIADD m32int (R644). -/
  | fiaddM32int (ea : Ea)
  /-- DA08/FF38 FIMUL m32int (R653). -/
  | fimulM32int (ea : Ea)
  /-- DA10/FF38 FICOM m32int (R674). -/
  | ficomM32int (ea : Ea)
  /-- DA18/FF38 FICOMP m32int (R675). -/
  | ficompM32int (ea : Ea)
  /-- DA20/FF38 FISUB m32int (R647). -/
  | fisubM32int (ea : Ea)
  /-- DA28/FF38 FISUBR m32int (R650). -/
  | fisubrM32int (ea : Ea)
  /-- DA30/FF38 FIDIV m32int (R656). -/
  | fidivM32int (ea : Ea)
  /-- DA38/FF38 FIDIVR m32int (R659). -/
  | fidivrM32int (ea : Ea)
  /-- DB00/FF38 FILD m32int (R629). -/
  | fildM32int (ea : Ea)
  /-- DB10/FF38 FIST m32int (R630). -/
  | fistM32int (ea : Ea)
  /-- DB18/FF38 FISTP m32int (R631). -/
  | fistpM32int (ea : Ea)
  /-- DB28/FF38 FLD m80real (R625). -/
  | fldM80real (ea : Ea)
  /-- DB38/FF38 FSTP m80real (R627). -/
  | fstpM80real (ea : Ea)
  /-- DBE0/FFFF FNENI  (R702). -/
  | fneni
  /-- DBE1/FFFF FNDISI  (R702). -/
  | fndisi
  /-- DBE2/FFFF FNCLEX  (R707). -/
  | fnclex
  /-- DBE3/FFFF FNINIT  (R700). -/
  | fninit
  /-- DBE4/FFFF FSETPM  (R701). -/
  | fsetpm
  /-- DC00/FF38 FADD m64real (R642). -/
  | faddM64real (ea : Ea)
  /-- DC08/FF38 FMUL m64real (R651). -/
  | fmulM64real (ea : Ea)
  /-- DC10/FF38 FCOM m64real (R671). -/
  | fcomM64real (ea : Ea)
  /-- DC18/FF38 FCOMP m64real (R672). -/
  | fcompM64real (ea : Ea)
  /-- DC20/FF38 FSUB m64real (R645). -/
  | fsubM64real (ea : Ea)
  /-- DC28/FF38 FSUBR m64real (R648). -/
  | fsubrM64real (ea : Ea)
  /-- DC30/FF38 FDIV m64real (R654). -/
  | fdivM64real (ea : Ea)
  /-- DC38/FF38 FDIVR m64real (R657). -/
  | fdivrM64real (ea : Ea)
  /-- DCC0/FFF8 FADD ST(i),ST (R642). -/
  | faddStiSt (i : BitVec 3)
  /-- DCC8/FFF8 FMUL ST(i),ST (R651). -/
  | fmulStiSt (i : BitVec 3)
  /-- DCD0/FFF8 FCOM ST(i) (R671). -/
  | fcomStiDC (i : BitVec 3)
  /-- DCD8/FFF8 FCOMP ST(i) (R672). -/
  | fcompStiDC (i : BitVec 3)
  /-- DCE0/FFF8 FSUBR ST(i),ST (R648). -/
  | fsubrStiSt (i : BitVec 3)
  /-- DCE8/FFF8 FSUB ST(i),ST (R645). -/
  | fsubStiSt (i : BitVec 3)
  /-- DCF0/FFF8 FDIVR ST(i),ST (R657). -/
  | fdivrStiSt (i : BitVec 3)
  /-- DCF8/FFF8 FDIV ST(i),ST (R654). -/
  | fdivStiSt (i : BitVec 3)
  /-- DD00/FF38 FLD m64real (R625). -/
  | fldM64real (ea : Ea)
  /-- DD10/FF38 FST m64real (R626). -/
  | fstM64real (ea : Ea)
  /-- DD18/FF38 FSTP m64real (R627). -/
  | fstpM64real (ea : Ea)
  /-- DD20/FF38 FRSTOR m94byte (R711). -/
  | frstorM94byte (ea : Ea)
  /-- DD30/FF38 FNSAVE m94byte (R710). -/
  | fnsaveM94byte (ea : Ea)
  /-- DD38/FF38 FNSTSW m2byte (R705). -/
  | fnstswM2byte (ea : Ea)
  /-- DDC0/FFF8 FFREE ST(i) (R714). -/
  | ffreeSti (i : BitVec 3)
  /-- DDC8/FFF8 FXCH ST(i) (R628). -/
  | fxchStiDD (i : BitVec 3)
  /-- DDD0/FFF8 FST ST(i) (R626). -/
  | fstSti (i : BitVec 3)
  /-- DDD8/FFF8 FSTP ST(i) (R627). -/
  | fstpSti (i : BitVec 3)
  /-- DE00/FF38 FIADD m16int (R644). -/
  | fiaddM16int (ea : Ea)
  /-- DE08/FF38 FIMUL m16int (R653). -/
  | fimulM16int (ea : Ea)
  /-- DE10/FF38 FICOM m16int (R674). -/
  | ficomM16int (ea : Ea)
  /-- DE18/FF38 FICOMP m16int (R675). -/
  | ficompM16int (ea : Ea)
  /-- DE20/FF38 FISUB m16int (R647). -/
  | fisubM16int (ea : Ea)
  /-- DE28/FF38 FISUBR m16int (R650). -/
  | fisubrM16int (ea : Ea)
  /-- DE30/FF38 FIDIV m16int (R656). -/
  | fidivM16int (ea : Ea)
  /-- DE38/FF38 FIDIVR m16int (R659). -/
  | fidivrM16int (ea : Ea)
  /-- DEC0/FFF8 FADDP ST(i),ST (R643). -/
  | faddpStiSt (i : BitVec 3)
  /-- DEC8/FFF8 FMULP ST(i),ST (R652). -/
  | fmulpStiSt (i : BitVec 3)
  /-- DED0/FFF8 FCOMP ST(i) (R672). -/
  | fcompStiDE (i : BitVec 3)
  /-- DED9/FFFF FCOMPP  (R673). -/
  | fcompp
  /-- DEE0/FFF8 FSUBRP ST(i),ST (R649). -/
  | fsubrpStiSt (i : BitVec 3)
  /-- DEE8/FFF8 FSUBP ST(i),ST (R646). -/
  | fsubpStiSt (i : BitVec 3)
  /-- DEF0/FFF8 FDIVRP ST(i),ST (R658). -/
  | fdivrpStiSt (i : BitVec 3)
  /-- DEF8/FFF8 FDIVP ST(i),ST (R655). -/
  | fdivpStiSt (i : BitVec 3)
  /-- DF00/FF38 FILD m16int (R629). -/
  | fildM16int (ea : Ea)
  /-- DF10/FF38 FIST m16int (R630). -/
  | fistM16int (ea : Ea)
  /-- DF18/FF38 FISTP m16int (R631). -/
  | fistpM16int (ea : Ea)
  /-- DF20/FF38 FBLD m80dec (R632). -/
  | fbldM80dec (ea : Ea)
  /-- DF28/FF38 FILD m64int (R629). -/
  | fildM64int (ea : Ea)
  /-- DF30/FF38 FBSTP m80dec (R633). -/
  | fbstpM80dec (ea : Ea)
  /-- DF38/FF38 FISTP m64int (R631). -/
  | fistpM64int (ea : Ea)
  /-- DFC0/FFF8 FFREE ST(i) (R714). -/
  | ffreeStiDF (i : BitVec 3)
  /-- DFC8/FFF8 FXCH ST(i) (R628). -/
  | fxchStiDF (i : BitVec 3)
  /-- DFD0/FFF8 FSTP ST(i) (R627). -/
  | fstpStiDFD0 (i : BitVec 3)
  /-- DFD8/FFF8 FSTP ST(i) (R627). -/
  | fstpStiDFD8 (i : BitVec 3)
  /-- DFE0/FFFF FNSTSW AX (R706). -/
  | fnstswAx
  /-- D800/F800 ESC__reserved  (R622). -/
  | escReserved (x : BitVec 3) (g : BitVec 3) (d : Rm (BitVec 3))
  deriving DecidableEq, Repr

end Sys2Proof
end

