-- ==== Sys2Proof/Machine/State.lean ====
section
/-! DEFINITION. The machine's state as plain data, everything the spec gives it (10_state.md R20), the reasons a step
can stop, and the state after RESET (10_state.md R77, R78). -/

namespace Sys2Proof.Machine

/-- Memory as (address, byte) pairs in canonical form: addresses strictly rising, below 2^24, and no byte equal to
what an unlisted address reads as (Ops.lean: `Memory.unlisted`, `Memory.wf`). -/
abbrev Memory := List Host.Cell

/-- What stands in a range of physical addresses: the map of MEM (00_scope.md R6; 20_memory.md R93, R169). -/
inductive MemKind where
  | ram | rom | device | absent
  deriving DecidableEq, Repr

/-- A range of physical addresses, both ends in it, and what stands there. -/
structure Region where
  first : Nat
  last : Nat
  kind : MemKind
  deriving DecidableEq, Repr

/-- A segment register with its hidden descriptor cache (10_state.md R42 to R46). `valid` is S.valid (R44), `rm` the
real-mode rights S.rm (R45). -/
structure SegCache where
  sel : Word
  base : PhysAddr
  limit : Word
  ar : Byte
  valid : Bool
  rm : Bool
  deriving DecidableEq, Repr

/-- GDTR and IDTR (10_state.md R48, R49). -/
structure TableReg where
  base : PhysAddr
  limit : Word
  deriving DecidableEq, Repr

/-- LDTR and TR (10_state.md R50, R51): a visible selector, a hidden base and limit, and the validity bit of D22. -/
structure SysSeg where
  sel : Word
  base : PhysAddr
  limit : Word
  valid : Bool
  deriving DecidableEq, Repr

/-- The general registers (10_state.md R21). AL to BH are halves of the first four (R22). -/
structure Gprs where
  ax : Word
  cx : Word
  dx : Word
  bx : Word
  sp : Word
  bp : Word
  si : Word
  di : Word
  deriving DecidableEq, Repr

/-- FLAGS (10_state.md R26), a field each, so that an undefined flag leaves the others defined. The reserved bits are
constant (R27, D3); the 16-bit image is `FlagsReg.word`. -/
structure FlagsReg where
  cf : Bool
  pf : Bool
  af : Bool
  zf : Bool
  sf : Bool
  tf : Bool
  if_ : Bool
  df : Bool
  of : Bool
  iopl : BitVec 2
  nt : Bool
  deriving DecidableEq, Repr

/-- The 80287's status word (10_state.md R61): the condition code, ST, ES, the reserved bit 6 and the exception flags of
bits 5 to 0. B reads as ES (48_npx_architecture.md R533, R582); the 16-bit image is `StatusWord.word`. -/
structure StatusWord where
  c3 : Bool
  c2 : Bool
  c1 : Bool
  c0 : Bool
  top : BitVec 3
  es : Bool
  bit6 : Bool
  exc : BitVec 6
  deriving DecidableEq, Repr

/-- The 80287 (10_state.md R59 to R65). `ip` and `op` are the exception pointers: the low word and, above it, the
second word of the memory image (48_npx_architecture.md R590 to R592). -/
structure Npx where
  r0 : Reg80
  r1 : Reg80
  r2 : Reg80
  r3 : Reg80
  r4 : Reg80
  r5 : Reg80
  r6 : Reg80
  r7 : Reg80
  cw : Word
  sw : StatusWord
  tw : Word
  ip : BitVec 32
  op : BitVec 32
  opcode : BitVec 11
  protectedMode : Bool
  deriving DecidableEq, Repr

/-- A repeat prefix: F2H or F3H (30_encoding.md R182). -/
inductive RepPrefix where
  | repne
  | rep
  deriving DecidableEq, Repr

/-- The prefixes read so far for the instruction at cur_IP (30_encoding.md R182, R183) and how many bytes they take. -/
structure Prefixes where
  seg : Option SegReg
  rep : Option RepPrefix
  lock : Bool
  count : Nat
  deriving DecidableEq, Repr

/-- No prefix. -/
def Prefixes.none : Prefixes := ⟨Option.none, Option.none, false, 0⟩

/-- A repeated string instruction between two iterations (44_string.md R435): the instruction with its prefixes, and its
next_IP. It is not fetched again. -/
structure Repetition where
  instr : Instr
  pfx : Prefixes
  ip : Word
  ipPast : Bool
  deriving DecidableEq, Repr

/-- The run state (10_state.md R74). -/
inductive RunState where
  | running
  | halted
  | shutdown
  deriving DecidableEq, Repr

/-- The input lines (10_state.md R75): set by the environment alone. `vector` is what the interrupt controller would
supply for INTR (60_exceptions.md R736). -/
structure Lines where
  intr : Bool
  vector : Byte
  reset : Bool
  ready : Bool
  /-- RESET becomes active inside the coming step, after this many of its data cycles: the instruction is abandoned
  (70_reset_and_hazards.md R820). It is an edge, which that step takes: the line is active after it. -/
  rising : Option Nat
  deriving DecidableEq, Repr

/-- One data cycle of the bus that can leave a trace: the bytes it stores in RAM, the last one first, and what devices see
of it (20_memory.md R85, R88, R161). -/
structure BusCycle where
  stores : List (PhysAddr × Byte)
  event : Option IoEvent
  deriving DecidableEq, Repr

/-- The state of the machine (10_state.md R20). -/
structure State where
  gpr : Gprs
  /-- FLAGS (R26) -/
  flags : FlagsReg
  /-- IP (R40): while an instruction executes, next_IP (R41) -/
  ip : Word
  /-- execution ran past offset FFFFH: IP does not wrap silently (20_memory.md R122; 10_state.md R41; log 50) -/
  ipPast : Bool
  cs : SegCache
  ss : SegCache
  ds : SegCache
  es : SegCache
  /-- CPL, a latch of its own (R47, D2) -/
  cpl : BitVec 2
  gdtr : TableReg
  idtr : TableReg
  ldtr : SysSeg
  tr : SysSeg
  /-- MSW (R52) -/
  msw : Word
  npx : Npx
  /-- NPX_PRESENT (00_scope.md R6) -/
  npxPresent : Bool
  mem : Memory
  /-- the map of MEM (00_scope.md R6): the first range that holds an address says what stands there, and RAM stands where
  no range is listed; fixed by the platform -/
  memMap : List Region
  /-- every cycle that a device has seen, and every access where no memory stands, the latest first (20_memory.md R88,
  R130, R133) -/
  io : List IoEvent
  /-- the interrupt-inhibit latch (R71) -/
  inhibit : Bool
  /-- the STI delay (R71) -/
  stiShadow : Bool
  /-- NMI_mask, NMI_pending, MP_pending (R72) -/
  nmiMask : Bool
  nmiPending : Bool
  mpPending : Bool
  /-- single-step pending (R73) -/
  stepPending : Bool
  run : RunState
  lines : Lines
  /-- cur_IP (R41) -/
  curIP : Word
  pfx : Prefixes
  /-- the string instruction that is being repeated (44_string.md R435) -/
  repeating : Option Repetition
  /-- the boundary before the next instruction has been run, and it delivered an event (60_exceptions.md R734) -/
  boundaryDone : Bool
  /-- the prefetch queue (R70): what was overwritten since the last taken transfer, the latest first (20_memory.md R166) -/
  stale : List Host.Cell
  /-- the model's own field: the number of the next draw of an undefined value -/
  undef : Nat
  /-- the model's own field: the number of steps so far, which dates the reads of what is not memory (log 3) -/
  clock : Nat
  /-- the model's own field: the stores and the device cycles of the step so far, the latest first. A RESET inside the step
  leaves the first of them done (70_reset_and_hazards.md R820; log 58). -/
  bus : List BusCycle
  deriving DecidableEq, Repr

/-- Why a step stops with a fault: no reason. Every exception is taken, and a CPU whose bus cycle does not end waits
(20_memory.md R169). Safe: nothing is stopped. -/
inductive Fault where
  deriving DecidableEq, Repr

/-- Why a step is refused. -/
inductive Refusal where
  /-- Answered by an arm of `exec` for an instruction that has no meaning yet; no arm is left that does. Safe: nothing
  is claimed of what the hardware does. -/
  | notModelled (mnemonic : String)
  deriving DecidableEq, Repr

/-- What a step answers. -/
abbrev Result := Host.Outcome State Fault Refusal

/-- A segment register as RESET leaves it and as a real-mode load makes it: selector and base apart (10_state.md R45,
R77; 20_memory.md R150). -/
def SegCache.real (sel : Word) (base : PhysAddr) : SegCache :=
  { sel := sel, base := base, limit := 0xFFFF, ar := 0x00, valid := true, rm := true }

/-- FLAGS with every field 0: its image is 0002H (10_state.md R77). -/
def FlagsReg.clear : FlagsReg := ⟨false, false, false, false, false, false, false, false, false, 0, false⟩

/-- The status word with every field 0. -/
def StatusWord.clear : StatusWord := ⟨false, false, false, false, 0, false, false, 0⟩

/-- The 80287 after a hardware RESET (10_state.md R78). R0 to R7 and the pointers have no stated value
(DESIGN CHOICE 0, log 4), nor has the condition code (DESIGN CHOICE 0, log 4). The status word's low byte is 00H
(48_npx_architecture.md R539). -/
def Npx.reset : Npx :=
  { r0 := 0, r1 := 0, r2 := 0, r3 := 0, r4 := 0, r5 := 0, r6 := 0, r7 := 0
    cw := 0x037F, sw := StatusWord.clear, tw := 0xFFFF, ip := 0, op := 0, opcode := 0, protectedMode := false }

/-- The machine right after RESET (10_state.md R77, R78). The general registers (log 1), GDTR, LDTR and TR (log 2),
memory and its map (log 3), the 80287's contents (log 4), its presence (log 5), the draws (log 6) and the vector on the lines
(log 8) have no stated value: DESIGN CHOICE. -/
def State.reset : State :=
  { gpr := ⟨0, 0, 0, 0, 0, 0, 0, 0⟩
    flags := FlagsReg.clear
    ip := 0xFFF0
    ipPast := false
    cs := SegCache.real 0xF000 0xFF0000
    ss := SegCache.real 0x0000 0x000000
    ds := SegCache.real 0x0000 0x000000
    es := SegCache.real 0x0000 0x000000
    cpl := 0
    gdtr := ⟨0x000000, 0x0000⟩
    idtr := ⟨0x000000, 0x03FF⟩
    ldtr := ⟨0x0000, 0x000000, 0x0000, false⟩
    tr := ⟨0x0000, 0x000000, 0x0000, false⟩
    msw := 0xFFF0
    npx := Npx.reset
    npxPresent := true
    mem := []
    memMap := []
    io := []
    inhibit := false
    stiShadow := false
    nmiMask := false
    nmiPending := false
    mpPending := false
    stepPending := false
    run := .running
    lines := ⟨false, 0x00, false, true, none⟩
    curIP := 0xFFF0
    pfx := Prefixes.none
    repeating := none
    boundaryDone := false
    stale := []
    undef := 0
    clock := 0
    bus := [] }

end Sys2Proof.Machine
end

