-- ==== Sys2Proof/Machine/Flags.lean ====
section
/-! DEFINITION. FLAGS and MSW: their fields, and every flag computation of 10_state.md R25. -/

namespace Sys2Proof.Machine

/-- The one-bit fields of FLAGS (10_state.md R26). -/
inductive Flag where
  | cf | pf | af | zf | sf | tf | if_ | df | of | nt
  deriving DecidableEq, Repr

/-- One field. -/
def FlagsReg.get (r : FlagsReg) : Flag → Bool
  | .cf => r.cf | .pf => r.pf | .af => r.af | .zf => r.zf | .sf => r.sf | .tf => r.tf | .if_ => r.if_ | .df => r.df
  | .of => r.of | .nt => r.nt

/-- One field replaced. -/
def FlagsReg.set (r : FlagsReg) (f : Flag) (b : Bool) : FlagsReg :=
  match f with
  | .cf => { r with cf := b }
  | .pf => { r with pf := b }
  | .af => { r with af := b }
  | .zf => { r with zf := b }
  | .sf => { r with sf := b }
  | .tf => { r with tf := b }
  | .if_ => { r with if_ := b }
  | .df => { r with df := b }
  | .of => { r with of := b }
  | .nt => { r with nt := b }

/-- The 16-bit image: CF PF AF ZF SF TF IF DF OF in bits 0, 2, 4, 6 to 11, IOPL in 13-12, NT in 14 (R26); bit 1 reads
1, bits 3, 5 and 15 read 0 (R27, D3). -/
def FlagsReg.word (r : FlagsReg) : Word :=
  0#1 ++ BitVec.ofBool r.nt ++ r.iopl ++ BitVec.ofBool r.of ++ BitVec.ofBool r.df ++ BitVec.ofBool r.if_ ++
    BitVec.ofBool r.tf ++ BitVec.ofBool r.sf ++ BitVec.ofBool r.zf ++ 0#1 ++ BitVec.ofBool r.af ++ 0#1 ++
    BitVec.ofBool r.pf ++ 1#1 ++ BitVec.ofBool r.cf

/-- FLAGS from an image: the reserved bits are ignored (R27, D3). -/
def FlagsReg.ofWord (w : Word) : FlagsReg :=
  { cf := w.getLsbD 0, pf := w.getLsbD 2, af := w.getLsbD 4, zf := w.getLsbD 6, sf := w.getLsbD 7, tf := w.getLsbD 8
    if_ := w.getLsbD 9, df := w.getLsbD 10, of := w.getLsbD 11, iopl := w.extractLsb' 12 2, nt := w.getLsbD 14 }

/-- A word with one bit replaced. -/
def withBit (w : Word) (i : Nat) (b : Bool) : Word :=
  if b then w ||| BitVec.twoPow 16 i else w &&& ~~~(BitVec.twoPow 16 i)

def State.flag (s : State) (f : Flag) : Bool := s.flags.get f

def State.setFlag (s : State) (f : Flag) (b : Bool) : State := { s with flags := s.flags.set f b }

/-- IOPL, bits 13-12 (R37). -/
def State.iopl (s : State) : BitVec 2 := s.flags.iopl

/-! ### MSW (10_state.md R52 to R57) -/

def State.pe (s : State) : Bool := s.msw.getLsbD 0
def State.mp (s : State) : Bool := s.msw.getLsbD 1
def State.em (s : State) : Bool := s.msw.getLsbD 2
def State.ts (s : State) : Bool := s.msw.getLsbD 3

/-- I/O privilege: no test in Real Address Mode, CPL ≤ IOPL in Protected Mode (20_memory.md R131, 45_flag_io_misc.md R450). -/
def State.ioAllowed (s : State) : Bool := !s.pe || s.cpl.ule s.iopl

/-! ### Flag results (10_state.md R25) -/

/-- The six status flags an arithmetic instruction computes. -/
structure StatusFlags where
  cf : Bool
  pf : Bool
  af : Bool
  zf : Bool
  sf : Bool
  of : Bool
  deriving DecidableEq, Repr

/-- PF: an even number of 1 bits in the low byte. -/
def parityEven (b : Byte) : Bool :=
  !((((b.getLsbD 0 ^^ b.getLsbD 1) ^^ (b.getLsbD 2 ^^ b.getLsbD 3)) ^^
    ((b.getLsbD 4 ^^ b.getLsbD 5) ^^ (b.getLsbD 6 ^^ b.getLsbD 7))))

/-- The sum `a + b + c` and its flags, `n` bits wide. -/
def addFlags {n : Nat} (a b : BitVec n) (c : Bool) : BitVec n × StatusFlags :=
  let r : BitVec n := BitVec.ofNat n (a.toNat + b.toNat + c.toNat)
  (r, { cf := decide (2 ^ n ≤ a.toNat + b.toNat + c.toNat)
        pf := parityEven (r.setWidth 8)
        af := decide (16 ≤ a.toNat % 16 + b.toNat % 16 + c.toNat)
        zf := r == 0
        sf := r.msb
        of := (a.msb == b.msb) && (r.msb != a.msb) })

/-- The difference `a - b - c` and its flags, `n` bits wide. -/
def subFlags {n : Nat} (a b : BitVec n) (c : Bool) : BitVec n × StatusFlags :=
  let r : BitVec n := BitVec.ofInt n ((a.toNat : Int) - b.toNat - c.toNat)
  (r, { cf := decide (a.toNat < b.toNat + c.toNat)
        pf := parityEven (r.setWidth 8)
        af := decide (a.toNat % 16 < b.toNat % 16 + c.toNat)
        zf := r == 0
        sf := r.msb
        of := (a.msb != b.msb) && (r.msb != a.msb) })

/-- ZF, SF and PF by the result. -/
def State.setResultFlags {n : Nat} (s : State) (r : BitVec n) : State :=
  ((s.setFlag .zf (r == 0)).setFlag .sf r.msb).setFlag .pf (parityEven (r.setWidth 8))

/-- All six status flags. -/
def State.setStatus (s : State) (f : StatusFlags) : State :=
  (((((s.setFlag .cf f.cf).setFlag .pf f.pf).setFlag .af f.af).setFlag .zf f.zf).setFlag .sf f.sf).setFlag .of f.of

/-- All but CF: INC and DEC (41_arithmetic.md R276, R277). -/
def State.setStatusButCarry (s : State) (f : StatusFlags) : State :=
  ((((s.setFlag .pf f.pf).setFlag .af f.af).setFlag .zf f.zf).setFlag .sf f.sf).setFlag .of f.of

/-! ### FLAGS images -/

/-- FLAGS after POPF or IRET of the image `f` (40_data_movement.md R248, 43_control_transfer.md R390), with the mode,
CPL and IOPL before it. -/
def State.popFlags (s : State) (f : Word) : FlagsReg :=
  let r := FlagsReg.ofWord f
  if s.pe then
    { r with
      if_ := if s.ioAllowed then r.if_ else s.flags.if_
      iopl := if s.cpl = 0 then r.iopl else s.iopl }
  else { r with iopl := s.iopl, nt := s.flags.nt }

/-- AH of LAHF: SF ZF AF PF CF in bits 7, 6, 4, 2, 0 (10_state.md R39, 40_data_movement.md R249). -/
def State.lowFlags (s : State) : Byte := s.flags.word.lo

end Sys2Proof.Machine
end

