-- ==== Sys2Proof/Machine/Ops.lean ====
section
/-! DEFINITION. The named operations of the machine: memory, registers, segments, the stack, descriptor tables, far
transfers, the task switch, and taking and returning from an exception. -/

namespace Sys2Proof.Machine

/-! ### Physical memory (20_memory.md R80 to R83) -/

/-- What an address that memory does not list reads as (DESIGN CHOICE, log 3). -/
def Memory.unlisted : Byte := 0x00

/-- The byte at an address. -/
def Memory.read : Memory → Nat → Byte
  | [], _ => Memory.unlisted
  | (b, v) :: rest, a => if a = b then v else Memory.read rest a

/-- Memory with one byte replaced, in canonical form. -/
def Memory.write : Memory → Nat → Byte → Memory
  | [], a, v => if v = Memory.unlisted then [] else [(a, v)]
  | (b, w) :: rest, a, v =>
    if a < b then (if v = Memory.unlisted then (b, w) :: rest else (a, v) :: (b, w) :: rest)
    else if a = b then (if v = Memory.unlisted then rest else (a, v) :: rest)
    else (b, w) :: Memory.write rest a v

/-- The canonical form, from a lower bound for the addresses on. -/
def Memory.wfFrom : Nat → Memory → Bool
  | _, [] => true
  | lo, (a, v) :: rest => decide (lo ≤ a) && decide (a < 2 ^ 24) && v != Memory.unlisted && Memory.wfFrom (a + 1) rest

/-- Addresses strictly rising and below 2^24, and no byte that an unlisted address reads as. -/
def Memory.wf (m : Memory) : Bool := Memory.wfFrom 0 m

/-- What stands at an address under a map (00_scope.md R6): RAM where no range holds it (log 3). -/
def kindIn : List Region → Nat → MemKind
  | [], _ => .ram
  | r :: rest, a => if r.first ≤ a ∧ a ≤ r.last then r.kind else kindIn rest a

def State.kindAt (s : State) (pa : PhysAddr) : MemKind := kindIn s.memMap pa.toNat

/-- No memory stands at an address: a device does, or nothing (R133, R169). -/
def State.outside (s : State) (pa : PhysAddr) : Bool :=
  match s.kindAt pa with
  | .ram | .rom => false
  | .device | .absent => true

/-- The byte that memory holds at an address, or `v`, what the bus answers where there is none. -/
def State.byteOr (s : State) (pa : PhysAddr) (v : Byte) : Byte := if s.outside pa then v else Memory.read s.mem pa.toNat

/-- MemRead(pa, 1). Where no memory stands the answer is any value, at each read anew (R88, R133, R169; log 3). -/
def State.mem8 (s : State) (pa : PhysAddr) : Byte := s.byteOr pa (Config.memRead s.clock s.io pa false).lo

/-- What devices see of the read of a byte (R88). -/
def State.byteRead (s : State) (pa : PhysAddr) : List IoEvent := if s.outside pa then [.memRead pa false] else []

/-- Cycles that devices see and that store nothing. -/
def seen (es : List IoEvent) : List BusCycle := es.map fun e => ⟨[], some e⟩

/-- The state after a byte has been read. -/
def State.after8 (s : State) (pa : PhysAddr) : State :=
  { s with io := s.byteRead pa ++ s.io, bus := seen (s.byteRead pa) ++ s.bus }

/-- MemRead(pa, 2), addresses modulo 2^24: one cycle at an even address, at an odd one the low byte and then the high
one (R85). -/
def State.mem16 (s : State) (pa : PhysAddr) : Word :=
  if pa.getLsbD 0 then Word.of ((s.after8 pa).mem8 (pa + 1)) (s.mem8 pa)
  else
    let v := Config.memRead s.clock s.io pa true
    Word.of (s.byteOr (pa + 1) v.hi) (s.byteOr pa v.lo)

/-- What devices see of the read of a word, the latest first (R85, R88). -/
def State.wordRead (s : State) (pa : PhysAddr) : List IoEvent :=
  if pa.getLsbD 0 then s.byteRead (pa + 1) ++ s.byteRead pa
  else if s.outside pa || s.outside (pa + 1) then [.memRead pa true] else []

/-- The state after words have been read, one after the other. -/
def State.afterWords (s : State) (as : List PhysAddr) : State :=
  { s with
    io := as.foldl (fun h a => s.wordRead a ++ h) s.io
    bus := as.foldl (fun h a => seen (s.wordRead a) ++ h) s.bus }

/-- The state after a word has been read. -/
def State.after16 (s : State) (pa : PhysAddr) : State := s.afterWords [pa]

/-- The words at some addresses, each as it reads after the ones before it. -/
def State.words (s : State) : List PhysAddr → List Word
  | [] => []
  | a :: as => s.mem16 a :: (s.after16 a).words as

/-- What a byte store does to memory: only RAM is changed, and what it held is noted, for the fetch (R166). -/
def State.storeByte (s : State) (pa : PhysAddr) (v : Byte) : State :=
  { s with
    mem := if s.kindAt pa = .ram then Memory.write s.mem pa.toNat v else s.mem
    stale := if s.kindAt pa = .ram then (pa.toNat, Memory.read s.mem pa.toNat) :: s.stale else s.stale }

/-- What devices see of the store of a byte. -/
def State.byteCycle (s : State) (pa : PhysAddr) (v : Byte) : List IoEvent :=
  if s.outside pa then [.memWrite pa false (v.setWidth 16)] else []

/-- What devices see of the store of a word, the latest first: one cycle at an even address, two byte cycles at an odd
one (R85). -/
def State.wordCycles (s : State) (pa : PhysAddr) (v : Word) : List IoEvent :=
  if pa.getLsbD 0 then s.byteCycle (pa + 1) v.hi ++ s.byteCycle pa v.lo
  else if s.outside pa || s.outside (pa + 1) then [.memWrite pa true v] else []

/-- The byte that a store leaves in RAM, if RAM stands there. -/
def State.ramStore (s : State) (pa : PhysAddr) (v : Byte) : List (PhysAddr × Byte) :=
  if s.kindAt pa = .ram then [(pa, v)] else []

/-- The cycle of the store of a byte. -/
def State.storeCycle8 (s : State) (pa : PhysAddr) (v : Byte) : BusCycle := ⟨s.ramStore pa v, (s.byteCycle pa v).head?⟩

/-- The cycles of the store of a word, the latest first (R85). -/
def State.storeCycles16 (s : State) (pa : PhysAddr) (v : Word) : List BusCycle :=
  if pa.getLsbD 0 then [s.storeCycle8 (pa + 1) v.hi, s.storeCycle8 pa v.lo]
  else [⟨s.ramStore (pa + 1) v.hi ++ s.ramStore pa v.lo, (s.wordCycles pa v).head?⟩]

/-- MemWrite(pa, 1, v). -/
def State.setMem8 (s : State) (pa : PhysAddr) (v : Byte) : State :=
  { s.storeByte pa v with io := s.byteCycle pa v ++ s.io, bus := s.storeCycle8 pa v :: s.bus }

/-- MemWrite(pa, 2, v). -/
def State.setMem16 (s : State) (pa : PhysAddr) (v : Word) : State :=
  { (s.storeByte pa v.lo).storeByte (pa + 1) v.hi with
    io := s.wordCycles pa v ++ s.io, bus := s.storeCycles16 pa v ++ s.bus }

/-- The state after a cycle of the I/O space (R130). -/
def State.port (s : State) (e : IoEvent) : State := { s with io := e :: s.io, bus := ⟨[], some e⟩ :: s.bus }

/-- A state with one cycle of another run done in it: what the cycle stored and what devices saw, and nothing else. -/
def State.cycled (s : State) (c : BusCycle) : State :=
  { s with
    mem := c.stores.foldr (fun b m => Memory.write m b.1.toNat b.2) s.mem
    io := c.event.toList ++ s.io
    bus := c :: s.bus }

/-- Cycles done in their order, `cs` having the latest first. -/
def State.replay (s : State) (cs : List BusCycle) : State := cs.foldr (fun c t => t.cycled c) s

/-! ### Registers (10_state.md R21, R22, R42) -/

def State.reg16 (s : State) : Reg16 → Word
  | .ax => s.gpr.ax | .cx => s.gpr.cx | .dx => s.gpr.dx | .bx => s.gpr.bx
  | .sp => s.gpr.sp | .bp => s.gpr.bp | .si => s.gpr.si | .di => s.gpr.di

def Gprs.set (g : Gprs) (r : Reg16) (v : Word) : Gprs :=
  match r with
  | .ax => { g with ax := v } | .cx => { g with cx := v } | .dx => { g with dx := v } | .bx => { g with bx := v }
  | .sp => { g with sp := v } | .bp => { g with bp := v } | .si => { g with si := v } | .di => { g with di := v }

def State.setReg16 (s : State) (r : Reg16) (v : Word) : State := { s with gpr := s.gpr.set r v }

/-- The word register a byte register is half of, and whether it is the high half (R22). -/
def reg8Home : Reg8 → Reg16 × Bool
  | .al => (.ax, false) | .cl => (.cx, false) | .dl => (.dx, false) | .bl => (.bx, false)
  | .ah => (.ax, true) | .ch => (.cx, true) | .dh => (.dx, true) | .bh => (.bx, true)

def State.reg8 (s : State) (r : Reg8) : Byte :=
  let w := s.reg16 (reg8Home r).1
  if (reg8Home r).2 then w.hi else w.lo

def State.setReg8 (s : State) (r : Reg8) (v : Byte) : State :=
  let w := s.reg16 (reg8Home r).1
  s.setReg16 (reg8Home r).1 (if (reg8Home r).2 then Word.of v w.lo else Word.of w.hi v)

def State.seg (s : State) : SegReg → SegCache
  | .es => s.es | .cs => s.cs | .ss => s.ss | .ds => s.ds

def State.setSeg (s : State) (r : SegReg) (c : SegCache) : State :=
  match r with
  | .es => { s with es := c } | .cs => { s with cs := c } | .ss => { s with ss := c } | .ds => { s with ds := c }

/-! ### Instruction rules -/

/-- How an instruction rule is abandoned: `raise #XX(ec)` (60_exceptions.md R740), or the entry to shutdown. -/
inductive Abort where
  | exc (vector : Byte) (ec : Option Word)
  | shutdown
  deriving DecidableEq, Repr

/-- An instruction rule: it goes on with a value, or is abandoned, with the state as it then is. -/
abbrev M := EStateM Abort State

def Abort.de : Abort := .exc 0 none
def Abort.br : Abort := .exc 5 none
def Abort.ud : Abort := .exc 6 none
def Abort.nm : Abort := .exc 7 none
def Abort.px9 : Abort := .exc 9 none
def Abort.ts (ec : Word) : Abort := .exc 10 (some ec)
def Abort.np (ec : Word) : Abort := .exc 11 (some ec)
def Abort.ss (ec : Word) : Abort := .exc 12 (some ec)
def Abort.gp (ec : Word) : Abort := .exc 13 (some ec)
def Abort.mf : Abort := .exc 16 none

def raise {α : Type} (a : Abort) : M α := throw a

/-- Go on if the condition holds. -/
def require (ok : Bool) (a : Abort) : M Unit := if ok then pure () else raise a

/-! ### Undefined values (93_implementation_defined.md; log 6) -/

/-- UNDEF1(). -/
def drawBit : M Bool := do
  let s ← get
  set { s with undef := s.undef + 1 }
  return Config.undefBit s.undef

/-- UNDEF16(). -/
def draw16 : M Word := do
  let s ← get
  set { s with undef := s.undef + 1 }
  return Config.undef16 s.undef

/-- A flag becomes undefined. -/
def undefFlag (f : Flag) : M Unit := do
  let b ← drawBit
  modify fun s => s.setFlag f b

/-- Flags become undefined, one draw each, in the order listed. -/
def undefFlags : List Flag → M Unit
  | [] => pure ()
  | f :: rest => do
    undefFlag f
    undefFlags rest

/-! ### Checked references (20_memory.md R89, R114 to R123) -/

/-- S_Readable (R114). -/
def SegCache.readable (c : SegCache) : Bool := c.rm || !c.ar.getLsbD 3 || c.ar.getLsbD 1

/-- S_Writable (R114). -/
def SegCache.writable (c : SegCache) : Bool := c.rm || (!c.ar.getLsbD 3 && c.ar.getLsbD 1)

/-- S_ExpandDown (R114). -/
def SegCache.expandDown (c : SegCache) : Bool := !c.rm && !c.ar.getLsbD 3 && c.ar.getLsbD 2

/-- InLimit(S, off, n) for n ≥ 1 (R115), the offset without wrap-around. -/
def SegCache.inLimit (c : SegCache) (off n : Nat) : Bool :=
  if c.expandDown then decide (c.limit.toNat < off) && decide (off + n ≤ 65536)
  else decide (off + n ≤ c.limit.toNat + 1)

/-- LinAddr(S, off) (R90, R100). -/
def SegCache.lin (c : SegCache) (off : Word) : PhysAddr := c.base + off.setWidth 24

/-- Viol(S) (R123). In Real Address Mode every violation is interrupt 13; delivery drops the error code (R740). -/
def violation (s : State) (r : SegReg) : Abort :=
  if s.pe && r == .ss then .ss 0 else .gp 0

/-- The checks of ReadSeg (R120). -/
def checkRead (r : SegReg) (off : Word) (n : Nat) : M Unit := do
  let s ← get
  let c := s.seg r
  require (c.valid && c.readable && c.inLimit off.toNat n) (violation s r)

/-- The checks of WriteSeg (R121). -/
def checkWrite (r : SegReg) (off : Word) (n : Nat) : M Unit := do
  let s ← get
  let c := s.seg r
  require (c.valid && c.writable && c.inLimit off.toNat n) (violation s r)

/-- The word at an index of a list of words that have been read. -/
def wordAt (ws : List Word) (k : Nat) : Word := ws.getD k 0

/-- A byte is read from the bus. -/
def load8 (pa : PhysAddr) : M Byte := do
  let s ← get
  set (s.after8 pa)
  return s.mem8 pa

/-- A word is read from the bus. -/
def load16 (pa : PhysAddr) : M Word := do
  let s ← get
  set (s.after16 pa)
  return s.mem16 pa

/-- Words are read from the bus, in the order listed. -/
def loadWords (as : List PhysAddr) : M (List Word) := do
  let s ← get
  set (s.afterWords as)
  return s.words as

/-- ReadSeg(S, off, 1). -/
def readSeg8 (r : SegReg) (off : Word) : M Byte := do
  checkRead r off 1
  let s ← get
  load8 ((s.seg r).lin off)

/-- ReadSeg(S, off, 2). -/
def readSeg16 (r : SegReg) (off : Word) : M Word := do
  checkRead r off 2
  let s ← get
  load16 ((s.seg r).lin off)

/-- WriteSeg(S, off, 1, v). -/
def writeSeg8 (r : SegReg) (off : Word) (v : Byte) : M Unit := do
  checkWrite r off 1
  modify fun s => s.setMem8 ((s.seg r).lin off) v

/-- WriteSeg(S, off, 2, v). -/
def writeSeg16 (r : SegReg) (off : Word) (v : Word) : M Unit := do
  checkWrite r off 2
  modify fun s => s.setMem16 ((s.seg r).lin off) v

/-- A far pointer or a pair of words, the whole operand tested first (R128). -/
def readPair (r : SegReg) (off : Word) : M (Word × Word) := do
  checkRead r off 4
  let a ← readSeg16 r off
  let b ← readSeg16 r (off + 2)
  return (a, b)

/-! ### I/O space (20_memory.md R130) -/

/-- IO_READ(port, width): one cycle. -/
def ioCycle (port : Word) (wide : Bool) : M Word := do
  let s ← get
  set (s.port (.read port wide))
  return Config.ioRead s.io port wide

/-- A word at this port moves as two bytes: an odd port, but for FFFFH, whose word is the platform's (log 7). -/
def splitPort (port : Word) : Bool := port.getLsbD 0 && port != 0xFFFF

/-- IoRead(port, 1). -/
def ioRead8 (port : Word) : M Byte := do
  let v ← ioCycle port false
  return v.lo

/-- IoRead(port, 2). -/
def ioRead16 (port : Word) : M Word :=
  if splitPort port then do
    let lo ← ioRead8 port
    let hi ← ioRead8 (port + 1)
    return Word.of hi lo
  else ioCycle port true

/-- IoWrite(port, 1, v). -/
def ioWrite8 (port : Word) (v : Byte) : M Unit :=
  modify fun s => s.port (.write port false (v.setWidth 16))

/-- IoWrite(port, 2, v). -/
def ioWrite16 (port v : Word) : M Unit :=
  if splitPort port then do
    ioWrite8 port v.lo
    ioWrite8 (port + 1) v.hi
  else modify fun s => s.port (.write port true v)

/-- IoPriv(): the trusted instructions (45_flag_io_misc.md R450). -/
def ioPriv : M Unit := do
  let s ← get
  require s.ioAllowed (.gp 0)

/-! ### The stack (20_memory.md R124 to R127) -/

/-- A word of the stack can be accessed at `off`: SS holds a usable segment (43_control_transfer.md R394) and the
limit test passes. -/
def State.stackOk (s : State) (off : Word) (n : Nat) : Bool := s.ss.valid && s.ss.inLimit off.toNat n

/-- Push16(v) (R124, R127). -/
def push16 (v : Word) : M Unit := do
  let s ← get
  if !s.pe && s.gpr.sp == 1 then raise .shutdown
  else do
    let sp := s.gpr.sp - 2
    require (s.stackOk sp 2) (violation s .ss)
    modify fun s => (s.setMem16 (s.ss.lin sp) v).setReg16 .sp sp

/-- Pop16() (R125). -/
def pop16 : M Word := do
  let s ← get
  require (s.stackOk s.gpr.sp 2) (violation s .ss)
  let v ← load16 (s.ss.lin s.gpr.sp)
  modify fun s => s.setReg16 .sp (s.gpr.sp + 2)
  return v

/-- Room for `n` bytes to be pushed from stack pointer `sp` in a segment: CheckStackRoom (R126), RoomIn
(43_control_transfer.md R376). A stack pointer of 0 counts as 10000H. -/
def SegCache.room (c : SegCache) (sp : Word) (n : Nat) : Bool :=
  let top := if sp = 0 then 65536 else sp.toNat
  decide (n ≤ top) && c.inLimit (top - n) n

/-- CheckStackRoom(n) on the current stack (R126). -/
def State.stackRoom (s : State) (n : Nat) : Bool := s.ss.valid && s.ss.room s.gpr.sp n

/-- CheckStackRoom(n), its failure as an exception. -/
def checkStackRoom (n : Nat) : M Unit := do
  let s ← get
  require (s.stackRoom n) (violation s .ss)

/-- StkOK(k): the word `k` bytes above the top of the stack is inside it (43_control_transfer.md R376). -/
def State.stkOk (s : State) (k : Word) : Bool := s.stackOk (s.gpr.sp + k) 2

/-- Where the word `k` bytes above the top of the stack stands. -/
def State.stkAddr (s : State) (k : Word) : PhysAddr := s.ss.lin (s.gpr.sp + k)

/-- StkRead(k). -/
def stkRead (k : Word) : M Word := do
  let s ← get
  load16 (s.stkAddr k)

/-! ### Selectors and descriptors (20_memory.md R101 to R110) -/

def selRpl (sel : Word) : BitVec 2 := sel.extractLsb' 0 2

/-- TI: the local table. -/
def selLocal (sel : Word) : Bool := sel.getLsbD 2

/-- IsNull(sel). -/
def selNull (sel : Word) : Bool := sel.extractLsb' 2 14 == 0

/-- A selector as an error code, EXT = 0 (60_exceptions.md R741). -/
def selError (sel : Word) : Word := sel &&& 0xFFFC

/-- Bytes 0 to 5 of a descriptor, byte 0 in bits 7-0, and where it stands (R104, R108). -/
structure Desc where
  raw : BitVec 48
  addr : PhysAddr
  deriving DecidableEq, Repr

def Desc.limit (d : Desc) : Word := d.raw.extractLsb' 0 16
def Desc.base (d : Desc) : PhysAddr := d.raw.extractLsb' 16 24
def Desc.ar (d : Desc) : Byte := d.raw.extractLsb' 40 8
def Desc.present (d : Desc) : Bool := d.ar.getLsbD 7
def Desc.dpl (d : Desc) : BitVec 2 := d.ar.extractLsb' 5 2
def Desc.segment (d : Desc) : Bool := d.ar.getLsbD 4
def Desc.type (d : Desc) : BitVec 4 := d.ar.extractLsb' 0 4
def Desc.gateOffset (d : Desc) : Word := d.raw.extractLsb' 0 16
def Desc.gateSel (d : Desc) : Word := d.raw.extractLsb' 16 16
def Desc.gateCount (d : Desc) : BitVec 5 := d.raw.extractLsb' 32 5
def Desc.isCode (d : Desc) : Bool := d.segment && d.ar.getLsbD 3
def Desc.isData (d : Desc) : Bool := d.segment && !d.ar.getLsbD 3
def Desc.conforming (d : Desc) : Bool := d.isCode && d.ar.getLsbD 2
def Desc.readable (d : Desc) : Bool := d.isData || (d.isCode && d.ar.getLsbD 1)
def Desc.writable (d : Desc) : Bool := d.isData && d.ar.getLsbD 1
/-- A control descriptor of the given type (R106). -/
def Desc.isControl (d : Desc) (type : BitVec 4) : Bool := !d.segment && d.type == type

/-- The descriptor cache that a load of `d` makes (R151). -/
def Desc.cache (d : Desc) (sel : Word) : SegCache :=
  { sel := sel, base := d.base, limit := d.limit, ar := d.ar ||| 0x01, valid := true, rm := false }

/-- Three words at a physical address, as a descriptor (R102). -/
def State.descAt (s : State) (a : PhysAddr) : Desc :=
  { raw := (s.afterWords [a, a + 2]).mem16 (a + 4) ++ (s.after16 a).mem16 (a + 2) ++ s.mem16 a, addr := a }

/-- The base and limit of the table a selector names, if there is one (R102). -/
def State.tableOf (s : State) (sel : Word) : Option TableReg :=
  if selLocal sel then (if s.ldtr.valid then some ⟨s.ldtr.base, s.ldtr.limit⟩ else none) else some s.gdtr

/-- The byte offset of a selector's descriptor in its table. -/
def selOffset (sel : Word) : Word := sel &&& 0xFFF8

/-- Where a selector's descriptor stands, if the selector is inside its table (R102, D12). -/
def State.descAddr (s : State) (sel : Word) : Option PhysAddr :=
  match s.tableOf sel with
  | none => none
  | some t =>
    if (selOffset sel).toNat + 7 ≤ t.limit.toNat then some (t.base + (selOffset sel).setWidth 24) else none

/-- DescLookup(sel) (R102). -/
def State.descLookup (s : State) (sel : Word) : Option Desc := (s.descAddr sel).map s.descAt

/-- The words that DescLookup(sel) reads: none where it finds no descriptor. -/
def State.descWords (s : State) (sel : Word) : List PhysAddr :=
  match s.descAddr sel with
  | none => []
  | some a => [a, a + 2, a + 4]

/-- The state after DescLookup(sel). -/
def State.afterLookup (s : State) (sel : Word) : State := s.afterWords (s.descWords sel)

/-- DescLookup, with the exception its failure raises. -/
def lookup (sel : Word) (a : Abort) : M Desc := do
  let s ← get
  set (s.afterLookup sel)
  match s.descLookup sel with
  | some d => return d
  | none => raise a

/-- SetAccessed(D) (R110, D6). -/
def setAccessed (d : Desc) : M Unit := modify fun s => s.setMem8 (d.addr + 5) (d.ar ||| 0x01)

/-- The data-access rule of R112: data and non-conforming code need CPL ≤ DPL and RPL ≤ DPL. -/
def Desc.dataAccess (d : Desc) (cpl rpl : BitVec 2) : Bool :=
  d.conforming || (rpl.ule d.dpl && cpl.ule d.dpl)

/-! ### Loading segment registers (20_memory.md R150 to R155) -/

/-- A real-mode load: the cache that holds selector `sel` (R150; 10_state.md R45). -/
def realSeg (sel : Word) : SegCache := SegCache.real sel (sel.setWidth 24 <<< 4)

/-- LoadData(S, sel) (R151). -/
def loadData (r : SegReg) (sel : Word) : M Unit := do
  if selNull sel then modify fun s => s.setSeg r { s.seg r with sel := sel, valid := false }
  else do
    let d ← lookup sel (.gp (selError sel))
    let s ← get
    require (d.isData || (d.isCode && d.readable)) (.gp (selError sel))
    require (d.dataAccess s.cpl (selRpl sel)) (.gp (selError sel))
    require d.present (.np (selError sel))
    setAccessed d
    modify fun s => s.setSeg r (d.cache sel)

/-- LoadSS(sel) (R152). -/
def loadSS (sel : Word) : M Unit := do
  require (!selNull sel) (.gp 0)
  let d ← lookup sel (.gp (selError sel))
  let s ← get
  require (selRpl sel == s.cpl) (.gp (selError sel))
  require (d.isData && d.writable) (.gp (selError sel))
  require (d.dpl == s.cpl) (.gp (selError sel))
  require d.present (.ss (selError sel))
  setAccessed d
  modify fun s => { s with ss := d.cache sel }

/-- LoadSeg(S, sel) (R150); never CS. -/
def loadSeg (r : SegReg) (sel : Word) : M Unit := do
  let s ← get
  if s.pe then (if r = .ss then loadSS sel else loadData r sel)
  else modify fun s => s.setSeg r (realSeg sel)

/-- LoadLDTR(sel) (R154). -/
def loadLDTR (sel : Word) : M Unit := do
  if selNull sel then modify fun s => { s with ldtr := { s.ldtr with sel := sel, valid := false } }
  else do
    require (!selLocal sel) (.gp (selError sel))
    let d ← lookup sel (.gp (selError sel))
    require (d.isControl 2) (.gp (selError sel))
    require d.present (.np (selError sel))
    modify fun s => { s with ldtr := ⟨sel, d.base, d.limit, true⟩ }

/-- LoadTR(sel) (R155, D11). -/
def loadTR (sel : Word) : M Unit := do
  require (!selNull sel) (.gp 0)
  require (!selLocal sel) (.gp (selError sel))
  let d ← lookup sel (.gp (selError sel))
  require (d.isControl 1) (.gp (selError sel))
  require d.present (.np (selError sel))
  modify fun s => { s.setMem8 (d.addr + 5) (d.ar ||| 0x02) with tr := ⟨sel, d.base, d.limit, true⟩ }

/-! ### Transfers of control (43_control_transfer.md) -/

/-- A taken transfer within CS: IP changes and the queues are discarded (10_state.md R70). -/
def State.jump (s : State) (ip : Word) : State := { s with ip := ip, ipPast := false, stale := [] }

/-- A taken transfer is complete: what it stored itself is in memory before the next fetch (20_memory.md R166). -/
def flush : M Unit := modify fun s => { s with stale := [] }

/-- NearTransfer(t) (R340): in Protected Mode the target must be inside the code segment. -/
def nearTransfer (t : Word) : M Unit := do
  let s ← get
  require (!s.pe || decide (t.toNat ≤ s.cs.limit.toNat)) (.gp 0)
  modify fun s => s.jump t

/-- RealFar(sel, off) (R369). -/
def State.realFar (s : State) (sel off : Word) : State :=
  { s with cs := { s.cs with sel := sel, base := sel.setWidth 24 <<< 4 } }.jump off

/-- A selector with its RPL replaced. -/
def withRpl (sel : Word) (rpl : BitVec 2) : Word := (sel &&& 0xFFFC) ||| rpl.setWidth 16

/-- LoadCS(sel, D, cpl) and IP ← off (R376). -/
def loadCS (sel : Word) (d : Desc) (cpl : BitVec 2) (off : Word) : M Unit := do
  setAccessed d
  modify fun s => { s with cs := d.cache (withRpl sel cpl), cpl := cpl }.jump off

/-- Load SS with a checked descriptor, and SP. -/
def commitStack (sel : Word) (d : Desc) (sp : Word) : M Unit := do
  setAccessed d
  modify fun s => { s with ss := d.cache sel }.setReg16 .sp sp

/-- The privilege of a code segment entered at the current level: conforming DPL ≤ CPL, otherwise DPL = CPL. -/
def Desc.codeAt (d : Desc) (cpl : BitVec 2) : Bool :=
  if d.conforming then d.dpl.ule cpl else d.dpl == cpl

/-- InnerStack(n, ext) (R384, D20). -/
def innerStack (n : BitVec 2) (ext : Word) : M (Word × Word × Desc) := do
  let s ← get
  require (s.tr.valid && decide (4 * n.toNat + 5 ≤ s.tr.limit.toNat)) (.ts (selError s.tr.sel + ext))
  let sp ← load16 (s.tr.base + 2 + 4 * n.setWidth 24)
  let ss ← load16 (s.tr.base + 4 + 4 * n.setWidth 24)
  require (!selNull ss) (.ts ext)
  let d ← lookup ss (.ts (selError ss + ext))
  require (selRpl ss == n) (.ts (selError ss + ext))
  require (d.dpl == n) (.ts (selError ss + ext))
  require (d.isData && d.writable) (.ts (selError ss + ext))
  require d.present (.ss (selError ss + ext))
  return (ss, sp, d)

/-- Revalidate(S) (R385, D24). -/
def State.revalidate (s : State) (r : SegReg) : State :=
  let c := s.seg r
  let inTable := match s.tableOf c.sel with
    | none => false
    | some t => decide ((selOffset c.sel).toNat + 7 ≤ t.limit.toNat)
  let code := c.ar.getLsbD 3
  let dpl : BitVec 2 := c.ar.extractLsb' 5 2
  let typeOk := c.ar.getLsbD 4 && (!code || c.ar.getLsbD 1)
  let privOk := (code && c.ar.getLsbD 2) || (s.cpl.ule dpl && (selRpl c.sel).ule dpl)
  if !c.valid then s
  else if inTable && typeOk && privOk then s
  else s.setSeg r { c with sel := 0x0000, ar := 0x00, valid := false }

/-! ### The task switch (43_control_transfer.md R392 to R394) -/

/-- What switches tasks (R392). -/
inductive SwitchKind where
  | jmp | call | int | iret
  deriving DecidableEq, Repr

/-- `nesting` of R392: CALL and INT. -/
def SwitchKind.nesting : SwitchKind → Bool
  | .call | .int => true
  | .jmp | .iret => false

/-- Step 4: save the outgoing task. -/
def State.saveTask (s : State) (kind : SwitchKind) (ip : Word) : State :=
  let b := s.tr.base
  let f := if kind = .iret then s.flags.set .nt false else s.flags
  let s := s.setMem16 (b + 14) ip
  let s := s.setMem16 (b + 16) f.word
  let s := s.setMem16 (b + 18) s.gpr.ax
  let s := s.setMem16 (b + 20) s.gpr.cx
  let s := s.setMem16 (b + 22) s.gpr.dx
  let s := s.setMem16 (b + 24) s.gpr.bx
  let s := s.setMem16 (b + 26) s.gpr.sp
  let s := s.setMem16 (b + 28) s.gpr.bp
  let s := s.setMem16 (b + 30) s.gpr.si
  let s := s.setMem16 (b + 32) s.gpr.di
  let s := s.setMem16 (b + 34) s.es.sel
  let s := s.setMem16 (b + 36) s.cs.sel
  let s := s.setMem16 (b + 38) s.ss.sel
  s.setMem16 (b + 40) s.ds.sel

/-- Step 5: the back link, or the outgoing task's busy bit. -/
def State.linkTask (s : State) (kind : SwitchKind) (n : Desc) : State :=
  if kind.nesting then s.setMem16 n.base s.tr.sel
  else
    let a := s.gdtr.base + (selOffset s.tr.sel).setWidth 24 + 5
    (s.after8 a).setMem8 a (s.mem8 a &&& 0xFD)

/-- Where the words of a TSS that a task switch reads stand: offsets 14 to 42 (R392 step 7). -/
def taskWords (b : PhysAddr) : List PhysAddr :=
  [b + 14, b + 16, b + 18, b + 20, b + 22, b + 24, b + 26, b + 28, b + 30, b + 32, b + 34, b + 36, b + 38, b + 40, b + 42]

/-- Steps 6 to 10: the commit point and the incoming task's registers, without descriptors, from the words of its TSS
at offsets 14 to 42. -/
def State.enterTask (s : State) (kind : SwitchKind) (sel : Word) (n : Desc) (ws : List Word) : State :=
  let w := wordAt ws
  let f := FlagsReg.ofWord (w 1)
  let f := match kind with
    | .call | .int => f.set .nt true
    | .jmp => f.set .nt false
    | .iret => f
  { s with
    tr := ⟨sel, n.base, n.limit, true⟩
    ip := w 0
    ipPast := false
    curIP := w 0
    flags := f
    gpr := { ax := w 2, cx := w 3, dx := w 4, bx := w 5, sp := w 6, bp := w 7, si := w 8, di := w 9 }
    es := { s.es with sel := w 10, valid := false }
    cs := { s.cs with sel := w 11, valid := false }
    ss := { s.ss with sel := w 12, valid := false }
    ds := { s.ds with sel := w 13, valid := false }
    ldtr := { s.ldtr with sel := w 14, valid := false }
    msw := withBit s.msw 3 true
    nmiMask := if kind = .iret then false else s.nmiMask
    stepPending := false
    stale := [] }

/-- Step 11: the incoming task's LDT (D21). -/
def switchLDT : M Unit := do
  let s ← get
  let l := s.ldtr.sel
  if selNull l then pure ()
  else do
    require (!selLocal l) (.ts (selError l))
    let d ← lookup l (.ts (selError l))
    require (d.isControl 2) (.ts (selError l))
    require d.present (.ts (selError l))
    modify fun s => { s with ldtr := ⟨l, d.base, d.limit, true⟩ }

/-- Steps 12 and 13: CPL and the incoming task's stack. -/
def switchSS : M Unit := do
  modify fun s => { s with cpl := selRpl s.cs.sel }
  let s ← get
  let x := s.ss.sel
  require (!selNull x) (.ts (selError x))
  let d ← lookup x (.ts (selError x))
  require (selRpl x == s.cpl) (.ts (selError x))
  require (d.dpl == s.cpl) (.ts (selError x))
  require (d.isData && d.writable) (.ts (selError x))
  require d.present (.ss (selError x))
  setAccessed d
  modify fun s => { s with ss := d.cache x }

/-- Step 14: the incoming task's code segment. -/
def switchCS : M Unit := do
  let s ← get
  let x := s.cs.sel
  require (!selNull x) (.ts (selError x))
  let d ← lookup x (.ts (selError x))
  require d.isCode (.ts (selError x))
  require (d.codeAt s.cpl) (.ts (selError x))
  require d.present (.np (selError x))
  setAccessed d
  modify fun s => { s with cs := d.cache x }

/-- Step 15, one register: DS or ES. -/
def switchData (r : SegReg) : M Unit := do
  let s ← get
  let x := (s.seg r).sel
  if selNull x then pure ()
  else do
    let d ← lookup x (.ts (selError x))
    require (d.isData || (d.isCode && d.readable)) (.ts (selError x))
    require (d.dataAccess s.cpl (selRpl x)) (.ts (selError x))
    require d.present (.np (selError x))
    setAccessed d
    modify fun s => s.setSeg r (d.cache x)

/-- SwitchTasks(nsel, N, nesting, kind) (R392), with the IP that the outgoing task saves. -/
def switchTasks (sel : Word) (n : Desc) (kind : SwitchKind) (ip : Word) : M Unit := do
  modify fun s => s.setMem8 (n.addr + 5) (n.ar ||| 0x02)
  let s ← get
  require (s.tr.valid && decide (43 ≤ s.tr.limit.toNat)) (.ts (selError sel))
  require (decide (43 ≤ n.limit.toNat)) (.ts (selError sel))
  modify fun s => (s.saveTask kind ip).linkTask kind n
  let ws ← loadWords (taskWords n.base)
  modify fun s => s.enterTask kind sel n ws
  switchLDT
  switchSS
  switchCS
  switchData .ds
  switchData .es
  flush

/-- "IP must be in code segment limit", in the new task (R381, R382, R391). -/
def checkNewIP (ext : Word) : M Unit := do
  let s ← get
  require (decide (s.ip.toNat ≤ s.cs.limit.toNat)) (.gp ext)

/-- The tests of TaskGateTarget (R381): an available TSS in the GDT. -/
def availableTss (t : Word) (ext : Word) : M Desc := do
  require (!selLocal t) (.gp (selError t + ext))
  let d ← lookup t (.gp (selError t + ext))
  require (d.isControl 1) (.gp (selError t + ext))
  require d.present (.np (selError t + ext))
  return d

/-! ### Taking an exception or interrupt (60_exceptions.md R730 to R757) -/

/-- The kinds of event (R731). -/
inductive EventKind where
  | fault | px | software | step | nmi | mp | intr
  deriving DecidableEq, Repr

/-- EXT (R731, R742), as it stands in an error code. -/
def EventKind.ext : EventKind → Word
  | .fault | .software => 0
  | .px | .step | .nmi | .mp | .intr => 1

/-- RetIP(kind) (R731, R743): cur_IP for a fault, the IP that follows for the others. -/
def State.retIP (s : State) : EventKind → Word
  | .fault | .px => s.curIP
  | .software | .step | .nmi | .mp | .intr => s.ip

/-- The entry of vector `n` lies inside the real-mode table (R746, D12). -/
def State.realVectorIn (s : State) (n : Byte) : Bool := decide (4 * n.toNat + 3 ≤ s.idtr.limit.toNat)

/-- The entry through a real-mode vector (R745), after the limit test. -/
def realEntry (n : Byte) (ret : Word) : M Unit := do
  let s ← get
  if s.gpr.sp == 1 || s.gpr.sp == 3 || s.gpr.sp == 5 then raise .shutdown
  else do
    let off ← load16 (s.idtr.base + 4 * n.setWidth 24)
    let sel ← load16 (s.idtr.base + 4 * n.setWidth 24 + 2)
    push16 s.flags.word
    push16 s.cs.sel
    push16 ret
    modify fun s => ((s.setFlag .if_ false).setFlag .tf false).realFar sel off

/-- DeliverReal(n, kind) (R745, R746). -/
def deliverReal (n : Byte) (kind : EventKind) : M Unit := do
  let s ← get
  if s.realVectorIn n then realEntry n (s.retIP kind)
  else if n == 8 || n == 13 || !s.realVectorIn 8 then raise .shutdown
  else realEntry 8 s.curIP

/-- The flags a gate leaves (R752): type 6 is the interrupt gate. -/
def State.gateFlags (s : State) (type : BitVec 4) : State :=
  let s := if type = 6 then s.setFlag .if_ false else s
  (s.setFlag .tf false).setFlag .nt false

/-- Push the error code, if there is one. -/
def pushError : Option Word → M Unit
  | none => pure ()
  | some ec => push16 ec

/-- The bytes a frame of `n` words needs, with the error code. -/
def frameBytes (words : Nat) (ec : Option Word) : Nat := 2 * words + (if ec.isSome then 2 else 0)

/-- IntInner (R749): a gate to a more privileged level. -/
def intInner (g d : Desc) (ec : Option Word) (ext ret : Word) : M Unit := do
  let (ss, sp, dss) ← innerStack d.dpl ext
  require ((dss.cache ss).room sp (frameBytes 5 ec)) (.ss ext)
  require (decide (g.gateOffset.toNat ≤ d.limit.toNat)) (.gp ext)
  let s ← get
  commitStack ss dss sp
  loadCS g.gateSel d d.dpl g.gateOffset
  push16 s.ss.sel
  push16 s.gpr.sp
  push16 s.flags.word
  push16 s.cs.sel
  push16 ret
  pushError ec
  modify fun s => s.gateFlags g.type

/-- The same-level branch of IntGate (R748). -/
def intSame (g d : Desc) (ec : Option Word) (ext ret : Word) : M Unit := do
  let s ← get
  require (s.stackRoom (frameBytes 3 ec)) (.ss ext)
  require (decide (g.gateOffset.toNat ≤ d.limit.toNat)) (.gp ext)
  push16 s.flags.word
  push16 s.cs.sel
  push16 ret
  loadCS g.gateSel d s.cpl g.gateOffset
  pushError ec
  modify fun s => s.gateFlags g.type

/-- IntGate(G, kind, ec, ext) (R748). -/
def intGate (g : Desc) (ec : Option Word) (ext ret : Word) : M Unit := do
  require (!selNull g.gateSel) (.gp ext)
  let e := selError g.gateSel + ext
  let d ← lookup g.gateSel (.gp e)
  let s ← get
  require d.isCode (.gp e)
  require d.present (.np e)
  if !d.conforming && d.dpl.ult s.cpl then intInner g d ec ext ret
  else if d.codeAt s.cpl then intSame g d ec ext ret
  else raise (.gp e)

/-- IntTaskGate(G, kind, ec, ext) (R750). -/
def intTaskGate (g : Desc) (ec : Option Word) (ext ret : Word) : M Unit := do
  let d ← availableTss g.gateSel ext
  switchTasks g.gateSel d .int ret
  match ec with
  | none => pure ()
  | some e => do
    let s ← get
    require (s.stackRoom 2) (.ss ext)
    push16 e
  checkNewIP ext

/-- The four words of a gate of the interrupt table (R747; 20_memory.md R87). -/
def State.gateWords (s : State) (n : Byte) : List PhysAddr :=
  let a := s.idtr.base + 8 * n.setWidth 24
  [a, a + 2, a + 4, a + 6]

/-- DeliverProt(n, kind, ec, ext) (R747). The last word of a gate is read and not used. -/
def deliverProt (n : Byte) (kind : EventKind) (ec : Option Word) : M Unit := do
  let s ← get
  let ext := kind.ext
  let code : Word := n.setWidth 16 * 8 + 2 + ext
  require (decide (8 * n.toNat + 7 ≤ s.idtr.limit.toNat)) (.gp code)
  set (s.afterWords (s.gateWords n))
  let g := s.descAt (s.idtr.base + 8 * n.setWidth 24)
  require (!g.segment && (g.type == 5 || g.type == 6 || g.type == 7)) (.gp code)
  require (!(kind == .software && g.dpl.ult s.cpl)) (.gp code)
  require g.present (.np code)
  if g.type = 5 then intTaskGate g ec ext (s.retIP kind)
  else intGate g ec ext (s.retIP kind)

/-- What every delivery that completes leaves (R734, R744): the machine runs, no step trap is due, no prefix is
pending, and the queues are empty (20_memory.md R166). -/
def State.delivered (s : State) (kind : EventKind) : State :=
  { s with run := .running, stepPending := false, pfx := Prefixes.none, repeating := none, stale := []
           nmiMask := if kind = .nmi then true else s.nmiMask }

/-- The entry to shutdown (R757): the run state changes, and the instruction in progress is given up, so that IP stays
at its first byte (10_state.md R41). -/
def State.enterShutdown (s : State) : State :=
  { s with run := .shutdown, ip := s.curIP, pfx := Prefixes.none, repeating := none }

/-- An exception during the delivery of a `fault`: the double fault, vector 8 with error code 0, and an exception
inside it shuts the machine down (R744, R756). -/
def doubleFault (s : State) : State :=
  match (deliverProt 8 .fault (some 0)).run s with
  | .ok _ s' => s'.delivered .fault
  | .error _ s' => s'.enterShutdown

/-- The delivery of a `fault` in Protected Mode (R744). -/
def deliverFault (n : Byte) (ec : Option Word) (s : State) : State :=
  match (deliverProt n .fault ec).run s with
  | .ok _ s' => s'.delivered .fault
  | .error _ s' => if n = 8 then s'.enterShutdown else doubleFault s'

/-- An exception during the delivery of an event that is no `fault`: an ordinary fault with that event's EXT (R744). -/
def secondFault (kind : EventKind) (a : Abort) (s : State) : State :=
  match a with
  | .shutdown => s.enterShutdown
  | .exc v ec => deliverFault v (ec.map (· ||| kind.ext)) s

/-- Deliver(n, kind, ec, ext) from outside any delivery (R744). -/
def deliver (n : Byte) (kind : EventKind) (ec : Option Word) (s : State) : State :=
  let s := if kind = .software then s else { s with curIP := s.retIP kind }
  if s.pe then
    if kind = .fault then deliverFault n ec s
    else
      match (deliverProt n kind ec).run s with
      | .ok _ s' => s'.delivered kind
      | .error a s' => secondFault kind a s'
  else
    match (deliverReal n kind).run s with
    | .ok _ s' => s'.delivered kind
    | .error _ s' => s'.enterShutdown

/-- kindOf: #NM and #MF are `px`, #MP is `mp`, the others `fault` (R740). -/
def kindOf (vector : Byte) : EventKind :=
  if vector = 7 ∨ vector = 16 then .px else if vector = 9 then .mp else .fault

/-- `raise` at the end of an abandoned instruction (R740). Vector 9 waits while NMI is masked (R738, D46). -/
def takeAbort (a : Abort) (s : State) : State :=
  match a with
  | .shutdown => s.enterShutdown
  | .exc v ec =>
    if v = 9 ∧ s.nmiMask = true then { s with mpPending := true, pfx := Prefixes.none }
    else deliver v (kindOf v) ec s

/-- A complete instruction: the I/O privilege of a LOCK prefix (45_flag_io_misc.md R466), the instruction's own rule,
and the delivery of the exception it raises. A completed instruction has no prefix left. -/
def runInstr (body : M Unit) (s : State) : Result :=
  match (require (!s.pfx.lock || s.ioAllowed) (.gp 0) >>= fun _ => body).run s with
  | .ok _ s' => .next { s' with pfx := Prefixes.none }
  | .error a s' => .next (takeAbort a s')

/-! ### Returning from an exception or interrupt: IRET (43_control_transfer.md R389 to R391) -/

/-- IRET in Real Address Mode (R389). -/
def iretReal : M Unit := do
  let s ← get
  require (s.stkOk 0 && s.stkOk 2 && s.stkOk 4) (violation s .ss)
  let off ← stkRead 0
  let sel ← stkRead 2
  let f ← stkRead 4
  modify fun s => { (s.setReg16 .sp (s.gpr.sp + 6)).realFar sel off with flags := s.popFlags f, nmiMask := false }

/-- IRET with NT = 1: the return from a nested task (R391, D20). -/
def iretTask : M Unit := do
  let s ← get
  require (s.tr.valid && decide (1 ≤ s.tr.limit.toNat)) (.ts (selError s.tr.sel))
  let b ← load16 s.tr.base
  require (!selLocal b) (.ts (selError b))
  let d ← lookup b (.ts (selError b))
  require (d.isControl 1 || d.isControl 3) (.ts (selError b))
  require (d.isControl 3) (.ts (selError b))
  require d.present (.np (selError b))
  switchTasks b d .iret s.ip
  checkNewIP 0

/-- The descriptor of a return's code selector `rs`, at the privilege `rpl` it returns to (R383, R391). -/
def returnCode (rs : Word) (rpl : BitVec 2) : M Desc := do
  require (!selNull rs) (.gp 0)
  let d ← lookup rs (.gp (selError rs))
  require d.isCode (.gp (selError rs))
  require (d.codeAt rpl) (.gp (selError rs))
  require d.present (.np (selError rs))
  return d

/-- The descriptor of an outer return's stack selector (R383, R391). -/
def returnStack (nss : Word) (rpl : BitVec 2) : M Desc := do
  require (!selNull nss) (.gp 0)
  let d ← lookup nss (.gp (selError nss))
  require (selRpl nss == rpl) (.gp (selError nss))
  require (d.isData && d.writable) (.gp (selError nss))
  require (d.dpl == rpl) (.gp (selError nss))
  require d.present (.ss (selError nss))
  return d

/-- IRET to the same level (R391). -/
def iretSame (rs : Word) : M Unit := do
  let s ← get
  require (s.stkOk 0 && s.stkOk 4) (.ss 0)
  let d ← returnCode rs s.cpl
  let off ← stkRead 0
  require (decide (off.toNat ≤ d.limit.toNat)) (.gp 0)
  let f ← stkRead 4
  loadCS rs d s.cpl off
  modify fun t => { t.setReg16 .sp (s.gpr.sp + 6) with flags := s.popFlags f, nmiMask := false }

/-- IRET to an outer level (R391). -/
def iretOuter (rs : Word) : M Unit := do
  let s ← get
  let rpl := selRpl rs
  require (s.stkOk 0 && s.stkOk 4 && s.stkOk 6 && s.stkOk 8) (.ss 0)
  let d ← returnCode rs rpl
  let nsp ← stkRead 6
  let nss ← stkRead 8
  let dss ← returnStack nss rpl
  let off ← stkRead 0
  require (decide (off.toNat ≤ d.limit.toNat)) (.gp 0)
  let f ← stkRead 4
  loadCS rs d rpl off
  modify fun t => { t with flags := s.popFlags f, nmiMask := false }
  commitStack nss dss nsp
  modify fun t => (t.revalidate .ds).revalidate .es
  flush

/-- IRET (R389, R391); it ends the masking of NMI (60_exceptions.md R738). -/
def iret : M Unit := do
  let s ← get
  if !s.pe then iretReal
  else if s.flag .nt then iretTask
  else do
    require (s.stkOk 2) (.ss 0)
    let rs ← stkRead 2
    require (!(selRpl rs).ult s.cpl) (.gp (selError rs))
    if selRpl rs = s.cpl then iretSame rs else iretOuter rs

end Sys2Proof.Machine
end

