-- ==== Sys2Proof/Machine/Operands.lean ====
section
/-! DEFINITION. Every operand form: effective addresses and their segments (30_encoding.md R190, R192), register-or-memory
operands (40_data_movement.md R230), immediates and branch displacements (30_encoding.md R185, R194). -/

namespace Sys2Proof.Machine

/-! ### Effective addresses -/

/-- Base plus index (R190). -/
def EaBase.sum (g : Gprs) : EaBase → Word
  | .bxSi => g.bx + g.si
  | .bxDi => g.bx + g.di
  | .bpSi => g.bp + g.si
  | .bpDi => g.bp + g.di
  | .si => g.si
  | .di => g.di
  | .bp => g.bp
  | .bx => g.bx

/-- The formula contains BP, so that the default segment is SS (R190, R192). -/
def EaBase.stack : EaBase → Bool
  | .bpSi | .bpDi | .bp => true
  | .bxSi | .bxDi | .si | .di | .bx => false

/-- EA: the 16-bit offset, modulo 2^16 (R190). -/
def eaOffset (g : Gprs) : Ea → Word
  | .noDisp b => EaBase.sum g b
  | .direct d => d
  | .disp8 b d => EaBase.sum g b + d.signExtend 16
  | .disp16 b d => EaBase.sum g b + d

/-- The default segment register of a ModRM memory operand (R192). -/
def eaDefault : Ea → SegReg
  | .noDisp b | .disp8 b _ | .disp16 b _ => if EaBase.stack b then .ss else .ds
  | .direct _ => .ds

/-- EA in a state. -/
def State.eaOff (s : State) (ea : Ea) : Word := eaOffset s.gpr ea

/-- SEG: the override, or the default (R192). -/
def State.eaSeg (s : State) (ea : Ea) : SegReg := s.pfx.seg.getD (eaDefault ea)

/-- The segment of a data reference without ModRM: direct offsets, XLAT, string sources (R192). -/
def State.dataSeg (s : State) : SegReg := s.pfx.seg.getD .ds

/-! ### Register-or-memory operands (40_data_movement.md R230) -/

/-- RdE(1). -/
def rd8 : Rm Reg8 → M Byte
  | .reg r => do
    let s ← get
    return s.reg8 r
  | .mem ea => do
    let s ← get
    readSeg8 (s.eaSeg ea) (s.eaOff ea)

/-- RdE(2). -/
def rd16 : Rm Reg16 → M Word
  | .reg r => do
    let s ← get
    return s.reg16 r
  | .mem ea => do
    let s ← get
    readSeg16 (s.eaSeg ea) (s.eaOff ea)

/-- WrE(1, v). -/
def wr8 (d : Rm Reg8) (v : Byte) : M Unit :=
  match d with
  | .reg r => modify fun s => s.setReg8 r v
  | .mem ea => do
    let s ← get
    writeSeg8 (s.eaSeg ea) (s.eaOff ea) v

/-- WrE(2, v). -/
def wr16 (d : Rm Reg16) (v : Word) : M Unit :=
  match d with
  | .reg r => modify fun s => s.setReg16 r v
  | .mem ea => do
    let s ← get
    writeSeg16 (s.eaSeg ea) (s.eaOff ea) v

/-- The write test of a read-modify-write operand, before the read (20_memory.md R121). A write protect fault of an
instruction that cannot be restarted (60_exceptions.md R760) loses what `lost` makes undefined
(93_implementation_defined.md U16, log 27). -/
def checkModify (lost : M Unit) (r : SegReg) (off : Word) (n : Nat) : M Unit := do
  let s ← get
  if (s.seg r).valid && !(s.seg r).writable then lost
  checkWrite r off n

/-- A byte operand replaced by a function of itself. -/
def modify8 (lost : M Unit) (d : Rm Reg8) (f : Byte → M Byte) : M Unit :=
  match d with
  | .reg r => do
    let s ← get
    let v ← f (s.reg8 r)
    modify fun s => s.setReg8 r v
  | .mem ea => do
    let s ← get
    checkModify lost (s.eaSeg ea) (s.eaOff ea) 1
    let a ← load8 ((s.seg (s.eaSeg ea)).lin (s.eaOff ea))
    let v ← f a
    modify fun t => t.setMem8 ((s.seg (s.eaSeg ea)).lin (s.eaOff ea)) v

/-- A word operand replaced by a function of itself. -/
def modify16 (lost : M Unit) (d : Rm Reg16) (f : Word → M Word) : M Unit :=
  match d with
  | .reg r => do
    let s ← get
    let v ← f (s.reg16 r)
    modify fun s => s.setReg16 r v
  | .mem ea => do
    let s ← get
    checkModify lost (s.eaSeg ea) (s.eaOff ea) 2
    let a ← load16 ((s.seg (s.eaSeg ea)).lin (s.eaOff ea))
    let v ← f a
    modify fun t => t.setMem16 ((s.seg (s.eaSeg ea)).lin (s.eaOff ea)) v

/-- A far pointer or a pair of words at a memory operand: the first word, then the second (20_memory.md R128). -/
def rdPair (ea : Ea) : M (Word × Word) := do
  let s ← get
  readPair (s.eaSeg ea) (s.eaOff ea)

/-- Nothing is lost. -/
def nothingLost : M Unit := pure ()

/-- CF is lost: ADC, SBB, RCL, RCR (60_exceptions.md R760). -/
def carryLost : M Unit := undefFlag .cf

/-! ### Two-operand forms (41_arithmetic.md R270; 42_logical_shift_rotate.md R310)

`f` computes the result and sets the flags. -/

def ebRb (lost : M Unit) (f : Byte → Byte → M Byte) (d : Rm Reg8) (r : Reg8) : M Unit := do
  let s ← get
  modify8 lost d fun a => f a (s.reg8 r)

def ewRw (lost : M Unit) (f : Word → Word → M Word) (d : Rm Reg16) (r : Reg16) : M Unit := do
  let s ← get
  modify16 lost d fun a => f a (s.reg16 r)

def rbEb (f : Byte → Byte → M Byte) (r : Reg8) (d : Rm Reg8) : M Unit := do
  let b ← rd8 d
  let s ← get
  let v ← f (s.reg8 r) b
  modify fun s => s.setReg8 r v

def rwEw (f : Word → Word → M Word) (r : Reg16) (d : Rm Reg16) : M Unit := do
  let b ← rd16 d
  let s ← get
  let v ← f (s.reg16 r) b
  modify fun s => s.setReg16 r v

def ebDb (lost : M Unit) (f : Byte → Byte → M Byte) (d : Rm Reg8) (imm : Byte) : M Unit :=
  modify8 lost d fun a => f a imm

def ewDw (lost : M Unit) (f : Word → Word → M Word) (d : Rm Reg16) (imm : Word) : M Unit :=
  modify16 lost d fun a => f a imm

/-- A byte immediate with a word operand is sign-extended (30_encoding.md R185). -/
def ewDb (lost : M Unit) (f : Word → Word → M Word) (d : Rm Reg16) (imm : Byte) : M Unit :=
  ewDw lost f d (imm.signExtend 16)

/-! The same forms where nothing is written: CMP and TEST. -/

def cmpEbRb (f : Byte → Byte → M Unit) (d : Rm Reg8) (r : Reg8) : M Unit := do
  let a ← rd8 d
  let s ← get
  f a (s.reg8 r)

def cmpEwRw (f : Word → Word → M Unit) (d : Rm Reg16) (r : Reg16) : M Unit := do
  let a ← rd16 d
  let s ← get
  f a (s.reg16 r)

def cmpRbEb (f : Byte → Byte → M Unit) (r : Reg8) (d : Rm Reg8) : M Unit := do
  let b ← rd8 d
  let s ← get
  f (s.reg8 r) b

def cmpRwEw (f : Word → Word → M Unit) (r : Reg16) (d : Rm Reg16) : M Unit := do
  let b ← rd16 d
  let s ← get
  f (s.reg16 r) b

def cmpEbDb (f : Byte → Byte → M Unit) (d : Rm Reg8) (imm : Byte) : M Unit := do
  let a ← rd8 d
  f a imm

def cmpEwDw (f : Word → Word → M Unit) (d : Rm Reg16) (imm : Word) : M Unit := do
  let a ← rd16 d
  f a imm

def cmpEwDb (f : Word → Word → M Unit) (d : Rm Reg16) (imm : Byte) : M Unit :=
  cmpEwDw f d (imm.signExtend 16)

/-! ### Branch targets (30_encoding.md R194) -/

/-- The target of a `cb` displacement: from the instruction that follows. -/
def State.relTarget8 (s : State) (rel : Byte) : Word := s.ip + rel.signExtend 16

/-- The target of a `cw` displacement. -/
def State.relTarget16 (s : State) (rel : Word) : Word := s.ip + rel

/-! ### String elements (44_string.md R420) -/

/-- Adv(r): an index register moves by the element's size, down if DF is set. -/
def State.advance (s : State) (r : Reg16) (n : Word) : State :=
  s.setReg16 r (if s.flag .df then s.reg16 r - n else s.reg16 r + n)

end Sys2Proof.Machine
end

