-- ==== Sys2Proof/Machine/Arith.lean ====
section
/-! DEFINITION. Arithmetic (41_arithmetic.md). -/

namespace Sys2Proof.Machine

/-! ### Operations: the result and its flags (R270 to R278) -/

def opAdd {n : Nat} (a b : BitVec n) : M (BitVec n) := do
  let r := addFlags a b false
  modify fun s => s.setStatus r.2
  return r.1

def opAdc {n : Nat} (a b : BitVec n) : M (BitVec n) := do
  let s ← get
  let r := addFlags a b (s.flag .cf)
  modify fun s => s.setStatus r.2
  return r.1

def opSub {n : Nat} (a b : BitVec n) : M (BitVec n) := do
  let r := subFlags a b false
  modify fun s => s.setStatus r.2
  return r.1

def opSbb {n : Nat} (a b : BitVec n) : M (BitVec n) := do
  let s ← get
  let r := subFlags a b (s.flag .cf)
  modify fun s => s.setStatus r.2
  return r.1

/-- CMP: the result is discarded (R275). -/
def opCmp {n : Nat} (a b : BitVec n) : M Unit := modify fun s => s.setStatus (subFlags a b false).2

/-- INC: CF keeps its value (R276). -/
def opInc {n : Nat} (a : BitVec n) : M (BitVec n) := do
  let r := addFlags a 1 false
  modify fun s => s.setStatusButCarry r.2
  return r.1

/-- DEC: CF keeps its value (R277). -/
def opDec {n : Nat} (a : BitVec n) : M (BitVec n) := do
  let r := subFlags a 1 false
  modify fun s => s.setStatusButCarry r.2
  return r.1

/-- NEG (R278). -/
def opNeg {n : Nat} (a : BitVec n) : M (BitVec n) := opSub 0 a

/-! ### Multiplication (R279 to R281) -/

/-- CF and OF say whether the high half is needed; the other four status flags are undefined. -/
def mulFlags (wide : Bool) : M Unit := do
  modify fun s => (s.setFlag .cf wide).setFlag .of wide
  undefFlags [.sf, .zf, .af, .pf]

def mul8 (d : Rm Reg8) : M Unit := do
  let b ← rd8 d
  let s ← get
  let p : Word := (s.reg8 .al).setWidth 16 * b.setWidth 16
  modify fun s => s.setReg16 .ax p
  mulFlags (p.hi != 0)

def mul16 (d : Rm Reg16) : M Unit := do
  let b ← rd16 d
  let s ← get
  let p : BitVec 32 := s.gpr.ax.setWidth 32 * b.setWidth 32
  modify fun s => (s.setReg16 .ax (p.extractLsb' 0 16)).setReg16 .dx (p.extractLsb' 16 16)
  mulFlags (p.extractLsb' 16 16 != 0)

def imul8 (d : Rm Reg8) : M Unit := do
  let b ← rd8 d
  let s ← get
  let p : Word := (s.reg8 .al).signExtend 16 * b.signExtend 16
  modify fun s => s.setReg16 .ax p
  mulFlags (p != p.lo.signExtend 16)

def imul16 (d : Rm Reg16) : M Unit := do
  let b ← rd16 d
  let s ← get
  let p : BitVec 32 := s.gpr.ax.signExtend 32 * b.signExtend 32
  modify fun s => (s.setReg16 .ax (p.extractLsb' 0 16)).setReg16 .dx (p.extractLsb' 16 16)
  mulFlags (p != (p.extractLsb' 0 16).signExtend 32)

/-- IMUL with an immediate (R281). -/
def imulImm (r : Reg16) (d : Rm Reg16) (imm : Word) : M Unit := do
  let b ← rd16 d
  let p : Int := b.toInt * imm.toInt
  modify fun s => s.setReg16 r (BitVec.ofInt 16 p)
  mulFlags (decide (p < -32768) || decide (32767 < p))

/-! ### Division (R282, R283) -/

/-- All six status flags are undefined after a completed division. -/
def divFlags : M Unit := undefFlags [.of, .sf, .zf, .af, .pf, .cf]

def div8 (d : Rm Reg8) : M Unit := do
  let b ← rd8 d
  let s ← get
  let n := s.gpr.ax.toNat
  require (b != 0 && decide (n / b.toNat ≤ 0xFF)) .de
  modify fun s => s.setReg16 .ax (Word.of (BitVec.ofNat 8 (n % b.toNat)) (BitVec.ofNat 8 (n / b.toNat)))
  divFlags

def div16 (d : Rm Reg16) : M Unit := do
  let b ← rd16 d
  let s ← get
  let n := (s.gpr.dx ++ s.gpr.ax).toNat
  require (b != 0 && decide (n / b.toNat ≤ 0xFFFF)) .de
  modify fun s => (s.setReg16 .ax (BitVec.ofNat 16 (n / b.toNat))).setReg16 .dx (BitVec.ofNat 16 (n % b.toNat))
  divFlags

def idiv8 (d : Rm Reg8) : M Unit := do
  let b ← rd8 d
  let s ← get
  let n := s.gpr.ax.toInt
  let q := n.tdiv b.toInt
  require (b != 0 && decide (-128 ≤ q) && decide (q ≤ 127)) .de
  modify fun s => s.setReg16 .ax (Word.of (BitVec.ofInt 8 (n.tmod b.toInt)) (BitVec.ofInt 8 q))
  divFlags

def idiv16 (d : Rm Reg16) : M Unit := do
  let b ← rd16 d
  let s ← get
  let n := (s.gpr.dx ++ s.gpr.ax).toInt
  let q := n.tdiv b.toInt
  require (b != 0 && decide (-32768 ≤ q) && decide (q ≤ 32767)) .de
  modify fun s => (s.setReg16 .ax (BitVec.ofInt 16 q)).setReg16 .dx (BitVec.ofInt 16 (n.tmod b.toInt))
  divFlags

/-! ### Decimal adjustment (R284 to R289) -/

/-- The low digit of AL needs an adjustment. -/
def State.lowDigitOver (s : State) : Bool := decide (9 < (s.reg8 .al).toNat % 16) || s.flag .af

/-- DAA and DAS: `step` adds or subtracts (R284, R285). -/
def decimalAdjust (step : Byte → Byte → Byte) : M Unit := do
  let s ← get
  let low := s.lowDigitOver
  let al := if low then step (s.reg8 .al) 0x06 else s.reg8 .al
  let high := decide (0x9F < al.toNat) || s.flag .cf
  let al := if high then step al 0x60 else al
  modify fun s => (((s.setReg8 .al al).setFlag .af low).setFlag .cf high).setResultFlags al
  undefFlag .of

/-- AAA and AAS: `step` adds or subtracts (R286, R287). -/
def asciiAdjust (step : Byte → Byte → Byte) : M Unit := do
  let s ← get
  let low := s.lowDigitOver
  let al := if low then step (s.reg8 .al) 0x06 else s.reg8 .al
  let ah := if low then step (s.reg8 .ah) 0x01 else s.reg8 .ah
  modify fun s => ((s.setReg16 .ax (Word.of ah (al &&& 0x0F))).setFlag .af low).setFlag .cf low
  undefFlags [.of, .sf, .zf, .pf]

/-- AX, and SF, ZF, PF by AL; OF, AF, CF undefined: AAM and AAD. -/
def setUnpacked (ah al : Byte) : M Unit := do
  modify fun s => (s.setReg16 .ax (Word.of ah al)).setResultFlags al
  undefFlags [.of, .af, .cf]

/-- AAM (R288). -/
def asciiMul : M Unit := do
  let s ← get
  let al := (s.reg8 .al).toNat
  setUnpacked (BitVec.ofNat 8 (al / 10)) (BitVec.ofNat 8 (al % 10))

/-- AAD (R289). -/
def asciiDiv : M Unit := do
  let s ← get
  setUnpacked 0 (s.reg8 .al + 10 * s.reg8 .ah)

/-! ### Instructions -/

/-- ADD eb,rb (41_arithmetic.md R271). -/
def execAddEbRb (d : Rm Reg8) (r : Reg8) (s : State) : Result := runInstr (ebRb nothingLost opAdd d r) s

/-- ADD ew,rw (41_arithmetic.md R271). -/
def execAddEwRw (d : Rm Reg16) (r : Reg16) (s : State) : Result := runInstr (ewRw nothingLost opAdd d r) s

/-- ADD rb,eb (41_arithmetic.md R271). -/
def execAddRbEb (r : Reg8) (d : Rm Reg8) (s : State) : Result := runInstr (rbEb opAdd r d) s

/-- ADD rw,ew (41_arithmetic.md R271). -/
def execAddRwEw (r : Reg16) (d : Rm Reg16) (s : State) : Result := runInstr (rwEw opAdd r d) s

/-- ADD AL,db (41_arithmetic.md R271). -/
def execAddAlDb (imm : BitVec 8) (s : State) : Result := runInstr (ebDb nothingLost opAdd (.reg .al) imm) s

/-- ADD AX,dw (41_arithmetic.md R271). -/
def execAddAxDw (imm : BitVec 16) (s : State) : Result := runInstr (ewDw nothingLost opAdd (.reg .ax) imm) s

/-- ADC eb,rb (41_arithmetic.md R272). -/
def execAdcEbRb (d : Rm Reg8) (r : Reg8) (s : State) : Result := runInstr (ebRb carryLost opAdc d r) s

/-- ADC ew,rw (41_arithmetic.md R272). -/
def execAdcEwRw (d : Rm Reg16) (r : Reg16) (s : State) : Result := runInstr (ewRw carryLost opAdc d r) s

/-- ADC rb,eb (41_arithmetic.md R272). -/
def execAdcRbEb (r : Reg8) (d : Rm Reg8) (s : State) : Result := runInstr (rbEb opAdc r d) s

/-- ADC rw,ew (41_arithmetic.md R272). -/
def execAdcRwEw (r : Reg16) (d : Rm Reg16) (s : State) : Result := runInstr (rwEw opAdc r d) s

/-- ADC AL,db (41_arithmetic.md R272). -/
def execAdcAlDb (imm : BitVec 8) (s : State) : Result := runInstr (ebDb nothingLost opAdc (.reg .al) imm) s

/-- ADC AX,dw (41_arithmetic.md R272). -/
def execAdcAxDw (imm : BitVec 16) (s : State) : Result := runInstr (ewDw nothingLost opAdc (.reg .ax) imm) s

/-- SBB eb,rb (41_arithmetic.md R274). -/
def execSbbEbRb (d : Rm Reg8) (r : Reg8) (s : State) : Result := runInstr (ebRb carryLost opSbb d r) s

/-- SBB ew,rw (41_arithmetic.md R274). -/
def execSbbEwRw (d : Rm Reg16) (r : Reg16) (s : State) : Result := runInstr (ewRw carryLost opSbb d r) s

/-- SBB rb,eb (41_arithmetic.md R274). -/
def execSbbRbEb (r : Reg8) (d : Rm Reg8) (s : State) : Result := runInstr (rbEb opSbb r d) s

/-- SBB rw,ew (41_arithmetic.md R274). -/
def execSbbRwEw (r : Reg16) (d : Rm Reg16) (s : State) : Result := runInstr (rwEw opSbb r d) s

/-- SBB AL,db (41_arithmetic.md R274). -/
def execSbbAlDb (imm : BitVec 8) (s : State) : Result := runInstr (ebDb nothingLost opSbb (.reg .al) imm) s

/-- SBB AX,dw (41_arithmetic.md R274). -/
def execSbbAxDw (imm : BitVec 16) (s : State) : Result := runInstr (ewDw nothingLost opSbb (.reg .ax) imm) s

/-- DAA (41_arithmetic.md R284). -/
def execDaa (s : State) : Result := runInstr (decimalAdjust (· + ·)) s

/-- SUB eb,rb (41_arithmetic.md R273). -/
def execSubEbRb (d : Rm Reg8) (r : Reg8) (s : State) : Result := runInstr (ebRb nothingLost opSub d r) s

/-- SUB ew,rw (41_arithmetic.md R273). -/
def execSubEwRw (d : Rm Reg16) (r : Reg16) (s : State) : Result := runInstr (ewRw nothingLost opSub d r) s

/-- SUB rb,eb (41_arithmetic.md R273). -/
def execSubRbEb (r : Reg8) (d : Rm Reg8) (s : State) : Result := runInstr (rbEb opSub r d) s

/-- SUB rw,ew (41_arithmetic.md R273). -/
def execSubRwEw (r : Reg16) (d : Rm Reg16) (s : State) : Result := runInstr (rwEw opSub r d) s

/-- SUB AL,db (41_arithmetic.md R273). -/
def execSubAlDb (imm : BitVec 8) (s : State) : Result := runInstr (ebDb nothingLost opSub (.reg .al) imm) s

/-- SUB AX,dw (41_arithmetic.md R273). -/
def execSubAxDw (imm : BitVec 16) (s : State) : Result := runInstr (ewDw nothingLost opSub (.reg .ax) imm) s

/-- DAS (41_arithmetic.md R285). -/
def execDas (s : State) : Result := runInstr (decimalAdjust (· - ·)) s

/-- AAA (41_arithmetic.md R286). -/
def execAaa (s : State) : Result := runInstr (asciiAdjust (· + ·)) s

/-- CMP eb,rb (41_arithmetic.md R275). -/
def execCmpEbRb (d : Rm Reg8) (r : Reg8) (s : State) : Result := runInstr (cmpEbRb opCmp d r) s

/-- CMP ew,rw (41_arithmetic.md R275). -/
def execCmpEwRw (d : Rm Reg16) (r : Reg16) (s : State) : Result := runInstr (cmpEwRw opCmp d r) s

/-- CMP rb,eb (41_arithmetic.md R275). -/
def execCmpRbEb (r : Reg8) (d : Rm Reg8) (s : State) : Result := runInstr (cmpRbEb opCmp r d) s

/-- CMP rw,ew (41_arithmetic.md R275). -/
def execCmpRwEw (r : Reg16) (d : Rm Reg16) (s : State) : Result := runInstr (cmpRwEw opCmp r d) s

/-- CMP AL,db (41_arithmetic.md R275). -/
def execCmpAlDb (imm : BitVec 8) (s : State) : Result := runInstr (cmpEbDb opCmp (.reg .al) imm) s

/-- CMP AX,dw (41_arithmetic.md R275). -/
def execCmpAxDw (imm : BitVec 16) (s : State) : Result := runInstr (cmpEwDw opCmp (.reg .ax) imm) s

/-- AAS (41_arithmetic.md R287). -/
def execAas (s : State) : Result := runInstr (asciiAdjust (· - ·)) s

/-- INC rw (41_arithmetic.md R276). -/
def execIncRw (r : Reg16) (s : State) : Result := runInstr (modify16 nothingLost (.reg r) opInc) s

/-- DEC rw (41_arithmetic.md R277). -/
def execDecRw (r : Reg16) (s : State) : Result := runInstr (modify16 nothingLost (.reg r) opDec) s

/-- IMUL rw,ew,dw (41_arithmetic.md R281). -/
def execImulRwEwDw (r : Reg16) (d : Rm Reg16) (imm : BitVec 16) (s : State) : Result := runInstr (imulImm r d imm) s

/-- IMUL rw,ew,db (41_arithmetic.md R281). -/
def execImulRwEwDb (r : Reg16) (d : Rm Reg16) (imm : BitVec 8) (s : State) : Result :=
  runInstr (imulImm r d (imm.signExtend 16)) s

/-- ADD eb,db (41_arithmetic.md R271). -/
def execAddEbDb (d : Rm Reg8) (imm : BitVec 8) (s : State) : Result := runInstr (ebDb nothingLost opAdd d imm) s

/-- ADC eb,db (41_arithmetic.md R272). -/
def execAdcEbDb (d : Rm Reg8) (imm : BitVec 8) (s : State) : Result := runInstr (ebDb carryLost opAdc d imm) s

/-- SBB eb,db (41_arithmetic.md R274). -/
def execSbbEbDb (d : Rm Reg8) (imm : BitVec 8) (s : State) : Result := runInstr (ebDb carryLost opSbb d imm) s

/-- SUB eb,db (41_arithmetic.md R273). -/
def execSubEbDb (d : Rm Reg8) (imm : BitVec 8) (s : State) : Result := runInstr (ebDb nothingLost opSub d imm) s

/-- CMP eb,db (41_arithmetic.md R275). -/
def execCmpEbDb (d : Rm Reg8) (imm : BitVec 8) (s : State) : Result := runInstr (cmpEbDb opCmp d imm) s

/-- ADD ew,dw (41_arithmetic.md R271). -/
def execAddEwDw (d : Rm Reg16) (imm : BitVec 16) (s : State) : Result := runInstr (ewDw nothingLost opAdd d imm) s

/-- ADC ew,dw (41_arithmetic.md R272). -/
def execAdcEwDw (d : Rm Reg16) (imm : BitVec 16) (s : State) : Result := runInstr (ewDw carryLost opAdc d imm) s

/-- SBB ew,dw (41_arithmetic.md R274). -/
def execSbbEwDw (d : Rm Reg16) (imm : BitVec 16) (s : State) : Result := runInstr (ewDw carryLost opSbb d imm) s

/-- SUB ew,dw (41_arithmetic.md R273). -/
def execSubEwDw (d : Rm Reg16) (imm : BitVec 16) (s : State) : Result := runInstr (ewDw nothingLost opSub d imm) s

/-- CMP ew,dw (41_arithmetic.md R275). -/
def execCmpEwDw (d : Rm Reg16) (imm : BitVec 16) (s : State) : Result := runInstr (cmpEwDw opCmp d imm) s

/-- ADD ew,db (41_arithmetic.md R271). -/
def execAddEwDb (d : Rm Reg16) (imm : BitVec 8) (s : State) : Result := runInstr (ewDb nothingLost opAdd d imm) s

/-- ADC ew,db (41_arithmetic.md R272). -/
def execAdcEwDb (d : Rm Reg16) (imm : BitVec 8) (s : State) : Result := runInstr (ewDb carryLost opAdc d imm) s

/-- SBB ew,db (41_arithmetic.md R274). -/
def execSbbEwDb (d : Rm Reg16) (imm : BitVec 8) (s : State) : Result := runInstr (ewDb carryLost opSbb d imm) s

/-- SUB ew,db (41_arithmetic.md R273). -/
def execSubEwDb (d : Rm Reg16) (imm : BitVec 8) (s : State) : Result := runInstr (ewDb nothingLost opSub d imm) s

/-- CMP ew,db (41_arithmetic.md R275). -/
def execCmpEwDb (d : Rm Reg16) (imm : BitVec 8) (s : State) : Result := runInstr (cmpEwDb opCmp d imm) s

/-- AAM (41_arithmetic.md R288). -/
def execAam (s : State) : Result := runInstr asciiMul s

/-- AAD (41_arithmetic.md R289). -/
def execAad (s : State) : Result := runInstr asciiDiv s

/-- NEG eb (41_arithmetic.md R278). -/
def execNegEb (d : Rm Reg8) (s : State) : Result := runInstr (modify8 nothingLost d opNeg) s

/-- MUL eb (41_arithmetic.md R279). -/
def execMulEb (d : Rm Reg8) (s : State) : Result := runInstr (mul8 d) s

/-- IMUL eb (41_arithmetic.md R280). -/
def execImulEb (d : Rm Reg8) (s : State) : Result := runInstr (imul8 d) s

/-- DIV eb (41_arithmetic.md R282). -/
def execDivEb (d : Rm Reg8) (s : State) : Result := runInstr (div8 d) s

/-- IDIV eb (41_arithmetic.md R283). -/
def execIdivEb (d : Rm Reg8) (s : State) : Result := runInstr (idiv8 d) s

/-- NEG ew (41_arithmetic.md R278). -/
def execNegEw (d : Rm Reg16) (s : State) : Result := runInstr (modify16 nothingLost d opNeg) s

/-- MUL ew (41_arithmetic.md R279). -/
def execMulEw (d : Rm Reg16) (s : State) : Result := runInstr (mul16 d) s

/-- IMUL ew (41_arithmetic.md R280). -/
def execImulEw (d : Rm Reg16) (s : State) : Result := runInstr (imul16 d) s

/-- DIV ew (41_arithmetic.md R282). -/
def execDivEw (d : Rm Reg16) (s : State) : Result := runInstr (div16 d) s

/-- IDIV ew (41_arithmetic.md R283). -/
def execIdivEw (d : Rm Reg16) (s : State) : Result := runInstr (idiv16 d) s

/-- INC eb (41_arithmetic.md R276). -/
def execIncEb (d : Rm Reg8) (s : State) : Result := runInstr (modify8 nothingLost d opInc) s

/-- DEC eb (41_arithmetic.md R277). -/
def execDecEb (d : Rm Reg8) (s : State) : Result := runInstr (modify8 nothingLost d opDec) s

/-- INC ew (41_arithmetic.md R276). -/
def execIncEw (d : Rm Reg16) (s : State) : Result := runInstr (modify16 nothingLost d opInc) s

/-- DEC ew (41_arithmetic.md R277). -/
def execDecEw (d : Rm Reg16) (s : State) : Result := runInstr (modify16 nothingLost d opDec) s

end Sys2Proof.Machine
end

