-- ==== Sys2Proof/Machine/Control.lean ====
section
/-! DEFINITION. Control transfer (43_control_transfer.md). -/

namespace Sys2Proof.Machine

/-! ### Near transfers (R340 to R368) -/

/-- A conditional short jump (R344). -/
def jumpIf (c : State → Bool) (rel : Byte) : M Unit := do
  let s ← get
  if c s then nearTransfer (s.relTarget8 rel) else pure ()

/-- A conditional jump's conditions (R345 to R360): the even opcodes; the odd ones negate them. -/
def State.below (s : State) : Bool := s.flag .cf
def State.belowEq (s : State) : Bool := s.flag .cf || s.flag .zf
def State.less (s : State) : Bool := s.flag .sf != s.flag .of
def State.lessEq (s : State) : Bool := s.flag .zf || (s.flag .sf != s.flag .of)

/-- LOOP, LOOPE and LOOPNE (R362 to R364). CX keeps its value if the jump faults. -/
def loopIf (c : State → Bool) (rel : Byte) : M Unit := do
  let s ← get
  let cx := s.gpr.cx - 1
  if cx != 0 && c s then nearTransfer (s.relTarget8 rel) else pure ()
  modify fun t => t.setReg16 .cx cx

/-- The test of a push before it is made (R365; 20_memory.md R124, R127). -/
def checkPush : M Unit := do
  let s ← get
  if !s.pe && s.gpr.sp == 1 then raise .shutdown
  else require (s.stackOk (s.gpr.sp - 2) 2) (violation s .ss)

/-- CALL within the segment (R365, R366): the stack is tested, then the target. -/
def nearCall (t : Word) : M Unit := do
  let s ← get
  checkPush
  require (!s.pe || decide (t.toNat ≤ s.cs.limit.toNat)) (.gp 0)
  push16 s.ip
  modify fun s => s.jump t

def nearCallRm (d : Rm Reg16) : M Unit := do
  let t ← rd16 d
  nearCall t

def nearJumpRm (d : Rm Reg16) : M Unit := do
  let t ← rd16 d
  nearTransfer t

/-- RET within the segment, with the bytes to release (R367, R368). -/
def nearRet (imm : Word) : M Unit := do
  let s ← get
  require (s.stackOk s.gpr.sp 2) (violation s .ss)
  let t ← load16 (s.ss.lin s.gpr.sp)
  nearTransfer t
  modify fun t => t.setReg16 .sp (s.gpr.sp + 2 + imm)

/-- A relative near transfer. -/
def jumpRel8 (rel : Byte) : M Unit := do
  let s ← get
  nearTransfer (s.relTarget8 rel)

def jumpRel16 (rel : Word) : M Unit := do
  let s ← get
  nearTransfer (s.relTarget16 rel)

def callRel16 (rel : Word) : M Unit := do
  let s ← get
  nearCall (s.relTarget16 rel)

/-! ### Far transfers in Protected Mode (R376 to R383) -/

/-- The privilege tests on a code segment that a far JMP or CALL names itself (R377, R378). -/
def directCode (sel : Word) (d : Desc) : M Unit := do
  let s ← get
  if d.conforming then require (d.dpl.ule s.cpl) (.gp (selError sel))
  else do
    require ((selRpl sel).ule s.cpl) (.gp (selError sel))
    require (d.dpl == s.cpl) (.gp (selError sel))
  require d.present (.np (selError sel))

/-- A gate or TSS descriptor may be used: its DPL is no less than CPL and the selector's RPL, and it is present. -/
def gateUsable (sel : Word) (g : Desc) : M Unit := do
  let s ← get
  require (s.cpl.ule g.dpl && (selRpl sel).ule g.dpl) (.gp (selError sel))
  require g.present (.np (selError sel))

/-- TaskGate(gsel, G) of a JMP or CALL (R381). -/
def taskGate (sel : Word) (g : Desc) (kind : SwitchKind) : M Unit := do
  gateUsable sel g
  let d ← availableTss g.gateSel 0
  let s ← get
  switchTasks g.gateSel d kind s.ip
  checkNewIP 0

/-- TssDirect(sel, T) (R382, D20). -/
def tssDirect (sel : Word) (d : Desc) (kind : SwitchKind) : M Unit := do
  let s ← get
  require (!selLocal sel) (.gp (selError sel))
  require (s.cpl.ule d.dpl && (selRpl sel).ule d.dpl) (.gp (selError sel))
  require (d.type == 1) (.gp (selError sel))
  require d.present (.np (selError sel))
  switchTasks sel d kind s.ip
  checkNewIP 0

/-- GateJmp(gsel, G) (R379). -/
def gateJmp (sel : Word) (g : Desc) : M Unit := do
  gateUsable sel g
  let cs := g.gateSel
  require (!selNull cs) (.gp 0)
  let d ← lookup cs (.gp (selError cs))
  let s ← get
  require d.isCode (.gp (selError cs))
  require (d.codeAt s.cpl) (.gp (selError cs))
  require d.present (.np (selError cs))
  require (decide (g.gateOffset.toNat ≤ d.limit.toNat)) (.gp 0)
  loadCS cs d s.cpl g.gateOffset

/-- FarJmp(sel, off) (R377). -/
def farJmp (sel off : Word) : M Unit := do
  require (!selNull sel) (.gp 0)
  let d ← lookup sel (.gp (selError sel))
  let s ← get
  if d.isCode then do
    directCode sel d
    require (decide (off.toNat ≤ d.limit.toNat)) (.gp 0)
    loadCS sel d s.cpl off
  else if d.isControl 4 then gateJmp sel d
  else if d.isControl 5 then taskGate sel d .jmp
  else if d.isControl 1 || d.isControl 3 then tssDirect sel d .jmp
  else raise (.gp (selError sel))

/-- The words of the caller's stack that a call gate copies can be read (R380, D23). -/
def State.paramsOk (s : State) : Nat → Bool
  | 0 => true
  | c + 1 => s.paramsOk c && s.stkOk (BitVec.ofNat 16 (2 * c))

/-- Where these words stand, the one on top of the stack first. -/
def State.paramAddrs (s : State) (c : Nat) : List PhysAddr :=
  (List.range c).map fun i => s.stkAddr (BitVec.ofNat 16 (2 * i))

/-- Push words, the first one last. -/
def pushWords : List Word → M Unit
  | [] => pure ()
  | v :: rest => do
    pushWords rest
    push16 v

/-- A call gate to more privilege (R380): the parameters keep their order. -/
def gateCallInner (cs : Word) (g d : Desc) : M Unit := do
  let (ss, sp, dss) ← innerStack d.dpl 0
  let c := g.gateCount.toNat
  require ((dss.cache ss).room sp (8 + 2 * c)) (.ss 0)
  require (decide (g.gateOffset.toNat ≤ d.limit.toNat)) (.gp 0)
  let s ← get
  require (s.paramsOk c) (.ss 0)
  let params ← loadWords (s.paramAddrs c)
  commitStack ss dss sp
  loadCS cs d d.dpl g.gateOffset
  push16 s.ss.sel
  push16 s.gpr.sp
  pushWords params
  push16 s.cs.sel
  push16 s.ip
  flush

/-- A far call's return address is pushed and the code segment entered, at the same level (R378, R380). -/
def callSame (sel off : Word) (d : Desc) : M Unit := do
  let s ← get
  checkStackRoom 4
  require (decide (off.toNat ≤ d.limit.toNat)) (.gp 0)
  push16 s.cs.sel
  push16 s.ip
  loadCS sel d s.cpl off

/-- GateCall(gsel, G) (R380). -/
def gateCall (sel : Word) (g : Desc) : M Unit := do
  gateUsable sel g
  let cs := g.gateSel
  require (!selNull cs) (.gp 0)
  let d ← lookup cs (.gp (selError cs))
  let s ← get
  require d.isCode (.gp (selError cs))
  require (d.dpl.ule s.cpl) (.gp (selError cs))
  require d.present (.np (selError cs))
  if !d.conforming && d.dpl.ult s.cpl then gateCallInner cs g d
  else callSame cs g.gateOffset d

/-- FarCall(sel, off) (R378). -/
def farCall (sel off : Word) : M Unit := do
  require (!selNull sel) (.gp 0)
  let d ← lookup sel (.gp (selError sel))
  if d.isCode then do
    directCode sel d
    callSame sel off d
  else if d.isControl 4 then gateCall sel d
  else if d.isControl 5 then taskGate sel d .call
  else if d.isControl 1 || d.isControl 3 then tssDirect sel d .call
  else raise (.gp (selError sel))

/-- FarRet to the same level (R383). -/
def farRetSame (rs imm : Word) : M Unit := do
  let s ← get
  let d ← returnCode rs s.cpl
  require (s.stkOk 0) (.ss 0)
  let off ← stkRead 0
  require (decide (off.toNat ≤ d.limit.toNat)) (.gp 0)
  loadCS rs d s.cpl off
  modify fun t => t.setReg16 .sp (s.gpr.sp + 4 + imm)

/-- FarRet to an outer level (R383). -/
def farRetOuter (rs imm : Word) : M Unit := do
  let s ← get
  let rpl := selRpl rs
  require (s.stkOk 0 && s.stkOk (4 + imm) && s.stkOk (6 + imm)) (.ss 0)
  let d ← returnCode rs rpl
  let nsp ← stkRead (4 + imm)
  let nss ← stkRead (6 + imm)
  let dss ← returnStack nss rpl
  let off ← stkRead 0
  require (decide (off.toNat ≤ d.limit.toNat)) (.gp 0)
  loadCS rs d rpl off
  commitStack nss dss (nsp + imm)
  modify fun t => (t.revalidate .ds).revalidate .es
  flush

/-- FarRet(imm) (R383). -/
def farRet (imm : Word) : M Unit := do
  let s ← get
  require (s.stkOk 2) (.ss 0)
  let rs ← stkRead 2
  require (!(selRpl rs).ult s.cpl) (.gp (selError rs))
  if selRpl rs = s.cpl then farRetSame rs imm else farRetOuter rs imm

/-! ### Far transfers in either mode (R369 to R375) -/

/-- JMP far (R370). -/
def jumpFar (sel off : Word) : M Unit := do
  let s ← get
  if s.pe then farJmp sel off else modify fun s => s.realFar sel off

/-- CALL far (R372). -/
def callFar (sel off : Word) : M Unit := do
  let s ← get
  if s.pe then farCall sel off
  else if s.gpr.sp == 1 || s.gpr.sp == 3 then raise .shutdown
  else do
    push16 s.cs.sel
    push16 s.ip
    modify fun s => s.realFar sel off

/-- RET far (R374, R375): in Real Address Mode nothing is popped unless both words can be. -/
def retFar (imm : Word) : M Unit := do
  let s ← get
  if s.pe then farRet imm
  else do
    require (s.stkOk 0) (violation s .ss)
    let off ← stkRead 0
    require (s.stkOk 2) (violation s .ss)
    let sel ← stkRead 2
    modify fun t => (t.realFar sel off).setReg16 .sp (s.gpr.sp + 4 + imm)

/-- Through a far pointer in memory (R371, R373). -/
def throughPointer (f : (sel off : Word) → M Unit) (ea : Ea) : M Unit := do
  let (off, sel) ← rdPair ea
  f sel off

/-! ### INT and INTO (R386 to R388) -/

/-- A software interrupt: delivery with the IP that follows as the return address. -/
def softInt (n : Byte) : M Unit := modify fun s => deliver n .software none s

/-- INTO (R388). -/
def intOnOverflow : M Unit := do
  let s ← get
  if s.flag .of then softInt 4 else pure ()

/-! ### Instructions -/

/-- JO cb (43_control_transfer.md R345). -/
def execJoCb (rel : BitVec 8) (s : State) : Result := runInstr (jumpIf (·.flag .of) rel) s

/-- JNO cb (43_control_transfer.md R346). -/
def execJnoCb (rel : BitVec 8) (s : State) : Result := runInstr (jumpIf (!·.flag .of) rel) s

/-- JB cb (43_control_transfer.md R347). -/
def execJbCb (rel : BitVec 8) (s : State) : Result := runInstr (jumpIf State.below rel) s

/-- JNB cb (43_control_transfer.md R348). -/
def execJnbCb (rel : BitVec 8) (s : State) : Result := runInstr (jumpIf (!·.below) rel) s

/-- JE cb (43_control_transfer.md R349). -/
def execJeCb (rel : BitVec 8) (s : State) : Result := runInstr (jumpIf (·.flag .zf) rel) s

/-- JNE cb (43_control_transfer.md R350). -/
def execJneCb (rel : BitVec 8) (s : State) : Result := runInstr (jumpIf (!·.flag .zf) rel) s

/-- JBE cb (43_control_transfer.md R351). -/
def execJbeCb (rel : BitVec 8) (s : State) : Result := runInstr (jumpIf State.belowEq rel) s

/-- JNBE cb (43_control_transfer.md R352). -/
def execJnbeCb (rel : BitVec 8) (s : State) : Result := runInstr (jumpIf (!·.belowEq) rel) s

/-- JS cb (43_control_transfer.md R353). -/
def execJsCb (rel : BitVec 8) (s : State) : Result := runInstr (jumpIf (·.flag .sf) rel) s

/-- JNS cb (43_control_transfer.md R354). -/
def execJnsCb (rel : BitVec 8) (s : State) : Result := runInstr (jumpIf (!·.flag .sf) rel) s

/-- JP cb (43_control_transfer.md R355). -/
def execJpCb (rel : BitVec 8) (s : State) : Result := runInstr (jumpIf (·.flag .pf) rel) s

/-- JNP cb (43_control_transfer.md R356). -/
def execJnpCb (rel : BitVec 8) (s : State) : Result := runInstr (jumpIf (!·.flag .pf) rel) s

/-- JL cb (43_control_transfer.md R357). -/
def execJlCb (rel : BitVec 8) (s : State) : Result := runInstr (jumpIf State.less rel) s

/-- JNL cb (43_control_transfer.md R358). -/
def execJnlCb (rel : BitVec 8) (s : State) : Result := runInstr (jumpIf (!·.less) rel) s

/-- JLE cb (43_control_transfer.md R359). -/
def execJleCb (rel : BitVec 8) (s : State) : Result := runInstr (jumpIf State.lessEq rel) s

/-- JNLE cb (43_control_transfer.md R360). -/
def execJnleCb (rel : BitVec 8) (s : State) : Result := runInstr (jumpIf (!·.lessEq) rel) s

/-- CALL cd (43_control_transfer.md R372). -/
def execCallCd (off : BitVec 16) (sel : BitVec 16) (s : State) : Result := runInstr (callFar sel off) s

/-- RET dw (43_control_transfer.md R368). -/
def execRetNearDw (imm : BitVec 16) (s : State) : Result := runInstr (nearRet imm) s

/-- RET (43_control_transfer.md R367). -/
def execRetNear (s : State) : Result := runInstr (nearRet 0) s

/-- RET dw (43_control_transfer.md R375). -/
def execRetFarDw (imm : BitVec 16) (s : State) : Result := runInstr (retFar imm) s

/-- RET (43_control_transfer.md R374). -/
def execRetFar (s : State) : Result := runInstr (retFar 0) s

/-- INT 3 (43_control_transfer.md R387). -/
def execInt3 (s : State) : Result := runInstr (softInt 3) s

/-- INT db (43_control_transfer.md R386). -/
def execIntDb (imm : BitVec 8) (s : State) : Result := runInstr (softInt imm) s

/-- INTO (43_control_transfer.md R388). -/
def execInto (s : State) : Result := runInstr intOnOverflow s

/-- IRET (43_control_transfer.md R389). -/
def execIret (s : State) : Result := runInstr iret s

/-- LOOPNE cb (43_control_transfer.md R364). -/
def execLoopneCb (rel : BitVec 8) (s : State) : Result := runInstr (loopIf (!·.flag .zf) rel) s

/-- LOOPE cb (43_control_transfer.md R363). -/
def execLoopeCb (rel : BitVec 8) (s : State) : Result := runInstr (loopIf (·.flag .zf) rel) s

/-- LOOP cb (43_control_transfer.md R362). -/
def execLoopCb (rel : BitVec 8) (s : State) : Result := runInstr (loopIf (fun _ => true) rel) s

/-- JCXZ cb (43_control_transfer.md R361). -/
def execJcxzCb (rel : BitVec 8) (s : State) : Result := runInstr (jumpIf (·.gpr.cx == 0) rel) s

/-- CALL cw (43_control_transfer.md R365). -/
def execCallCw (rel : BitVec 16) (s : State) : Result := runInstr (callRel16 rel) s

/-- JMP cw (43_control_transfer.md R342). -/
def execJmpCw (rel : BitVec 16) (s : State) : Result := runInstr (jumpRel16 rel) s

/-- JMP cd (43_control_transfer.md R370). -/
def execJmpCd (off : BitVec 16) (sel : BitVec 16) (s : State) : Result := runInstr (jumpFar sel off) s

/-- JMP cb (43_control_transfer.md R341). -/
def execJmpCb (rel : BitVec 8) (s : State) : Result := runInstr (jumpRel8 rel) s

/-- CALL ew (43_control_transfer.md R366). -/
def execCallEw (d : Rm Reg16) (s : State) : Result := runInstr (nearCallRm d) s

/-- CALL ed (43_control_transfer.md R373). -/
def execCallEd (ea : Ea) (s : State) : Result := runInstr (throughPointer callFar ea) s

/-- JMP ew (43_control_transfer.md R343). -/
def execJmpEw (d : Rm Reg16) (s : State) : Result := runInstr (nearJumpRm d) s

/-- JMP ed (43_control_transfer.md R371). -/
def execJmpEd (ea : Ea) (s : State) : Result := runInstr (throughPointer jumpFar ea) s

end Sys2Proof.Machine
end

