-- ==== Sys2Proof/Machine/DataMove.lean ====
section
/-! DEFINITION. Data movement (40_data_movement.md). -/

namespace Sys2Proof.Machine

/-! ### Stack -/

/-- PUSH of a word register (R238): the value is read before SP changes. -/
def pushReg (r : Reg16) : M Unit := do
  let s ← get
  push16 (s.reg16 r)

/-- PUSH of a segment register (R240). -/
def pushSeg (r : SegReg) : M Unit := do
  let s ← get
  push16 (s.seg r).sel

/-- PUSH of a register-or-memory operand (R239, D17). -/
def pushRm (d : Rm Reg16) : M Unit := do
  let v ← rd16 d
  push16 v

/-- POP into a word register (R242): SP ends with the popped word if it is the destination (D18). -/
def popReg (r : Reg16) : M Unit := do
  let v ← pop16
  modify fun s => s.setReg16 r v

/-- POP into a register-or-memory operand (R243, D17): the destination is checked before SP is updated. -/
def popRm : Rm Reg16 → M Unit
  | .reg r => popReg r
  | .mem ea => do
    let s ← get
    require (s.stackOk s.gpr.sp 2) (violation s .ss)
    let v ← load16 (s.ss.lin s.gpr.sp)
    writeSeg16 (s.eaSeg ea) (s.eaOff ea) v
    modify fun t => t.setReg16 .sp (s.gpr.sp + 2)

/-- POP into a segment register (R244). -/
def popSeg (r : SegReg) : M Unit := do
  let s ← get
  require (s.stackOk s.gpr.sp 2) (violation s .ss)
  let sel ← load16 (s.ss.lin s.gpr.sp)
  loadSeg r sel
  modify fun t => t.setReg16 .sp (s.gpr.sp + 2)

/-- The interrupt-inhibit latch after a load of SS (10_state.md R71). -/
def inhibitNext : M Unit := modify fun s => { s with inhibit := true }

/-- The stack test of PUSHA (R245; 20_memory.md R126, R127): in Real Address Mode an odd SP below 16 splits a word. -/
def checkPusha : M Unit := do
  let s ← get
  if s.pe then checkStackRoom 16
  else if s.gpr.sp == 1 || s.gpr.sp == 3 || s.gpr.sp == 5 then raise .shutdown
  else require (!(s.gpr.sp.getLsbD 0 && decide (s.gpr.sp.toNat < 16))) (.gp 0)

/-- PUSHA (R245). -/
def pushAll : M Unit := do
  let s ← get
  checkPusha
  push16 s.gpr.ax
  push16 s.gpr.cx
  push16 s.gpr.dx
  push16 s.gpr.bx
  push16 s.gpr.sp
  push16 s.gpr.bp
  push16 s.gpr.si
  push16 s.gpr.di

/-- POPA (R246): the word of SP is discarded. -/
def popAll : M Unit := do
  let s ← get
  require (s.stackOk s.gpr.sp 16) (violation s .ss)
  let di ← pop16
  let si ← pop16
  let bp ← pop16
  let _ ← pop16
  let bx ← pop16
  let dx ← pop16
  let cx ← pop16
  let ax ← pop16
  modify fun t => { t with gpr := { ax := ax, cx := cx, dx := dx, bx := bx, sp := t.gpr.sp, bp := bp, si := si, di := di } }

/-! ### Moves -/

def movToRm8 (d : Rm Reg8) (r : Reg8) : M Unit := do
  let s ← get
  wr8 d (s.reg8 r)

def movToRm16 (d : Rm Reg16) (r : Reg16) : M Unit := do
  let s ← get
  wr16 d (s.reg16 r)

def movFromRm8 (r : Reg8) (d : Rm Reg8) : M Unit := do
  let v ← rd8 d
  modify fun s => s.setReg8 r v

def movFromRm16 (r : Reg16) (d : Rm Reg16) : M Unit := do
  let v ← rd16 d
  modify fun s => s.setReg16 r v

/-- MOV ew,sreg (R235). -/
def storeSeg (d : Rm Reg16) (r : SegReg) : M Unit := do
  let s ← get
  wr16 d (s.seg r).sel

/-- MOV sreg,ew (R236). -/
def movSeg (r : SegReg) (d : Rm Reg16) : M Unit := do
  let v ← rd16 d
  loadSeg r v

/-- XCHG of bytes (R237). After a write protect fault the register is undefined (log 27). -/
def exchange8 (d : Rm Reg8) (r : Reg8) : M Unit := do
  let s ← get
  modify8 (do let u ← draw16; modify fun t => t.setReg8 r u.lo) d fun a => do
    modify fun t => t.setReg8 r a
    return s.reg8 r

/-- XCHG of words (R237). -/
def exchange16 (d : Rm Reg16) (r : Reg16) : M Unit := do
  let s ← get
  modify16 (do let u ← draw16; modify fun t => t.setReg16 r u) d fun a => do
    modify fun t => t.setReg16 r a
    return s.reg16 r

/-- XCHG AX,rw (R237). -/
def exchangeAx (r : Reg16) : M Unit :=
  modify fun s => (s.setReg16 .ax (s.reg16 r)).setReg16 r s.gpr.ax

/-- LDS and LES (R252, R253): the segment register first, then the general register. -/
def loadPointer (sr : SegReg) (r : Reg16) (ea : Ea) : M Unit := do
  let (off, sel) ← rdPair ea
  loadSeg sr sel
  modify fun s => s.setReg16 r off

/-- XLAT (R254). -/
def translate : M Unit := do
  let s ← get
  let v ← readSeg8 s.dataSeg (s.gpr.bx + (s.reg8 .al).setWidth 16)
  modify fun s => s.setReg8 .al v

/-- SAHF (R250). -/
def storeAh : M Unit := modify fun s =>
  let ah := s.reg8 .ah
  ((((s.setFlag .sf (ah.getLsbD 7)).setFlag .zf (ah.getLsbD 6)).setFlag .af (ah.getLsbD 4)).setFlag .pf
    (ah.getLsbD 2)).setFlag .cf (ah.getLsbD 0)

/-- PUSHF (R247). -/
def pushFlags : M Unit := do
  let s ← get
  push16 s.flags.word

/-- POPF (R248). -/
def popFlagsWord : M Unit := do
  let v ← pop16
  modify fun s => { s with flags := s.popFlags v }

/-- A load of AL or AX from a direct offset (R232). -/
def loadDirect8 (off : Word) : M Unit := do
  let s ← get
  let v ← readSeg8 s.dataSeg off
  modify fun s => s.setReg8 .al v

def loadDirect16 (off : Word) : M Unit := do
  let s ← get
  let v ← readSeg16 s.dataSeg off
  modify fun s => s.setReg16 .ax v

def storeDirect8 (off : Word) : M Unit := do
  let s ← get
  writeSeg8 s.dataSeg off (s.reg8 .al)

def storeDirect16 (off : Word) : M Unit := do
  let s ← get
  writeSeg16 s.dataSeg off s.gpr.ax

/-! ### Instructions -/

/-- PUSH ES (40_data_movement.md R240). -/
def execPushEs (s : State) : Result := runInstr (pushSeg .es) s

/-- POP ES (40_data_movement.md R244). -/
def execPopEs (s : State) : Result := runInstr (popSeg .es) s

/-- PUSH CS (40_data_movement.md R240). -/
def execPushCs (s : State) : Result := runInstr (pushSeg .cs) s

/-- PUSH SS (40_data_movement.md R240). -/
def execPushSs (s : State) : Result := runInstr (pushSeg .ss) s

/-- POP SS (40_data_movement.md R244). -/
def execPopSs (s : State) : Result := runInstr (popSeg .ss >>= fun _ => inhibitNext) s

/-- PUSH DS (40_data_movement.md R240). -/
def execPushDs (s : State) : Result := runInstr (pushSeg .ds) s

/-- POP DS (40_data_movement.md R244). -/
def execPopDs (s : State) : Result := runInstr (popSeg .ds) s

/-- PUSH rw (40_data_movement.md R238). -/
def execPushRw (r : Reg16) (s : State) : Result := runInstr (pushReg r) s

/-- POP rw (40_data_movement.md R242). -/
def execPopRw (r : Reg16) (s : State) : Result := runInstr (popReg r) s

/-- PUSHA (40_data_movement.md R245). -/
def execPusha (s : State) : Result := runInstr pushAll s

/-- POPA (40_data_movement.md R246). -/
def execPopa (s : State) : Result := runInstr popAll s

/-- PUSH dw (40_data_movement.md R241). -/
def execPushDw (imm : BitVec 16) (s : State) : Result := runInstr (push16 imm) s

/-- PUSH db (40_data_movement.md R241). -/
def execPushDb (imm : BitVec 8) (s : State) : Result := runInstr (push16 (imm.signExtend 16)) s

/-- XCHG eb,rb (40_data_movement.md R237). -/
def execXchgEbRb (d : Rm Reg8) (r : Reg8) (s : State) : Result := runInstr (exchange8 d r) s

/-- XCHG ew,rw (40_data_movement.md R237). -/
def execXchgEwRw (d : Rm Reg16) (r : Reg16) (s : State) : Result := runInstr (exchange16 d r) s

/-- MOV eb,rb (40_data_movement.md R231). -/
def execMovEbRb (d : Rm Reg8) (r : Reg8) (s : State) : Result := runInstr (movToRm8 d r) s

/-- MOV ew,rw (40_data_movement.md R231). -/
def execMovEwRw (d : Rm Reg16) (r : Reg16) (s : State) : Result := runInstr (movToRm16 d r) s

/-- MOV rb,eb (40_data_movement.md R231). -/
def execMovRbEb (r : Reg8) (d : Rm Reg8) (s : State) : Result := runInstr (movFromRm8 r d) s

/-- MOV rw,ew (40_data_movement.md R231). -/
def execMovRwEw (r : Reg16) (d : Rm Reg16) (s : State) : Result := runInstr (movFromRm16 r d) s

/-- MOV ew,sreg (40_data_movement.md R235). -/
def execMovEwSreg (d : Rm Reg16) (sr : SegReg) (s : State) : Result := runInstr (storeSeg d sr) s

/-- LEA rw,m (40_data_movement.md R251). -/
def execLeaRwM (r : Reg16) (ea : Ea) (s : State) : Result := runInstr (modify fun t => t.setReg16 r (t.eaOff ea)) s

/-- MOV ES,ew (40_data_movement.md R236). -/
def execMovEsEw (d : Rm Reg16) (s : State) : Result := runInstr (movSeg .es d) s

/-- MOV SS,ew (40_data_movement.md R236). -/
def execMovSsEw (d : Rm Reg16) (s : State) : Result := runInstr (movSeg .ss d >>= fun _ => inhibitNext) s

/-- MOV DS,ew (40_data_movement.md R236). -/
def execMovDsEw (d : Rm Reg16) (s : State) : Result := runInstr (movSeg .ds d) s

/-- POP mw (40_data_movement.md R243). -/
def execPopMw (d : Rm Reg16) (s : State) : Result := runInstr (popRm d) s

/-- XCHG AX,rw (40_data_movement.md R237). -/
def execXchgAxRw (r : Reg16) (s : State) : Result := runInstr (exchangeAx r) s

/-- CBW (40_data_movement.md R255). -/
def execCbw (s : State) : Result := runInstr (modify fun t => t.setReg16 .ax ((t.reg8 .al).signExtend 16)) s

/-- CWD (40_data_movement.md R256). -/
def execCwd (s : State) : Result :=
  runInstr (modify fun t => t.setReg16 .dx (if t.gpr.ax.msb then 0xFFFF else 0x0000)) s

/-- PUSHF (40_data_movement.md R247). -/
def execPushf (s : State) : Result := runInstr pushFlags s

/-- POPF (40_data_movement.md R248). -/
def execPopf (s : State) : Result := runInstr popFlagsWord s

/-- SAHF (40_data_movement.md R250). -/
def execSahf (s : State) : Result := runInstr storeAh s

/-- LAHF (40_data_movement.md R249). -/
def execLahf (s : State) : Result := runInstr (modify fun t => t.setReg8 .ah t.lowFlags) s

/-- MOV AL,xb (40_data_movement.md R232). -/
def execMovAlXb (off : BitVec 16) (s : State) : Result := runInstr (loadDirect8 off) s

/-- MOV AX,xw (40_data_movement.md R232). -/
def execMovAxXw (off : BitVec 16) (s : State) : Result := runInstr (loadDirect16 off) s

/-- MOV xb,AL (40_data_movement.md R232). -/
def execMovXbAl (off : BitVec 16) (s : State) : Result := runInstr (storeDirect8 off) s

/-- MOV xw,AX (40_data_movement.md R232). -/
def execMovXwAx (off : BitVec 16) (s : State) : Result := runInstr (storeDirect16 off) s

/-- MOV rb,db (40_data_movement.md R233). -/
def execMovRbDb (r : Reg8) (imm : BitVec 8) (s : State) : Result := runInstr (modify fun t => t.setReg8 r imm) s

/-- MOV rw,dw (40_data_movement.md R233). -/
def execMovRwDw (r : Reg16) (imm : BitVec 16) (s : State) : Result := runInstr (modify fun t => t.setReg16 r imm) s

/-- LES rw,ed (40_data_movement.md R253). -/
def execLesRwEd (r : Reg16) (ea : Ea) (s : State) : Result := runInstr (loadPointer .es r ea) s

/-- LDS rw,ed (40_data_movement.md R252). -/
def execLdsRwEd (r : Reg16) (ea : Ea) (s : State) : Result := runInstr (loadPointer .ds r ea) s

/-- MOV eb,db (40_data_movement.md R234). -/
def execMovEbDb (d : Rm Reg8) (imm : BitVec 8) (s : State) : Result := runInstr (wr8 d imm) s

/-- MOV ew,dw (40_data_movement.md R234). -/
def execMovEwDw (d : Rm Reg16) (imm : BitVec 16) (s : State) : Result := runInstr (wr16 d imm) s

/-- XLAT mb (40_data_movement.md R254). -/
def execXlat (s : State) : Result := runInstr translate s

/-- PUSH mw (40_data_movement.md R239). -/
def execPushMw (d : Rm Reg16) (s : State) : Result := runInstr (pushRm d) s

end Sys2Proof.Machine
end

