-- ==== Sys2Proof/Machine/NpxFormats.lean ====
section
/-! DEFINITION. The number formats of the 80287: fields and classes of temporary reals, exact values and their rounding,
and the exact part of the conversions (48_npx_architecture.md R540 to R557, R570). -/

namespace Sys2Proof.Machine

/-! ### Temporary reals (R543, R550) -/

/-- The classes of a register value (R550). -/
inductive RealClass where
  | zero | denormal | infinity | nan | normal | unnormal | pseudoZero
  deriving DecidableEq, Repr

/-- Sign bit. -/
def realSign (x : Reg80) : Bool := x.getLsbD 79

/-- Biased exponent field. -/
def realExp (x : Reg80) : Nat := (x.extractLsb' 64 15).toNat

/-- Significand, the integer bit in bit 63. -/
def realSig (x : Reg80) : Nat := (x.extractLsb' 0 64).toNat

/-- A temporary real from its fields. -/
def mkReal (neg : Bool) (exp sig : Nat) : Reg80 := BitVec.ofBool neg ++ BitVec.ofNat 15 exp ++ BitVec.ofNat 64 sig

/-- Class(x) (R550). -/
def classOf (x : Reg80) : RealClass :=
  if realExp x = 0 then (if realSig x = 0 then .zero else .denormal)
  else if realExp x = 0x7FFF then (if realSig x = 2 ^ 63 then .infinity else .nan)
  else if 2 ^ 63 ≤ realSig x then .normal
  else if realSig x = 0 then .pseudoZero else .unnormal

/-- TagOf(x) (R550, R551). -/
def tagOf (x : Reg80) : BitVec 2 :=
  match classOf x with
  | .zero => 1
  | .denormal | .infinity | .nan => 2
  | .normal | .unnormal | .pseudoZero => 0

/-- The biased exponent of the value: a denormal has the exponent of field 1 (R544). -/
def realEff (x : Reg80) : Nat := if realExp x = 0 then 1 else realExp x

/-- The true exponent (R543, R544). -/
def realTrue (x : Reg80) : Int := (realEff x : Int) - 16383

def realZero (neg : Bool) : Reg80 := mkReal neg 0 0
def realInfinity (neg : Bool) : Reg80 := mkReal neg 0x7FFF (2 ^ 63)

/-- Real indefinite (R557). -/
def realIndefinite : Reg80 := 0xFFFFC000000000000000

/-- The largest finite number (R578). -/
def realLargest (neg : Bool) : Reg80 := mkReal neg 0x7FFE (2 ^ 64 - 1)

/-- A register value with its sign bit replaced. -/
def withSign (x : Reg80) (neg : Bool) : Reg80 := BitVec.ofBool neg ++ x.extractLsb' 0 79

/-- The NaN with the larger absolute value, signs ignored, if one of the two is a NaN (R557). Of two NaNs that differ in
their signs alone it is the first operand, the destination: DESIGN CHOICE, the spec names none (log 54). -/
def largerNaN (a b : Reg80) : Reg80 :=
  if classOf a ≠ .nan then b
  else if classOf b ≠ .nan then a
  else if (a.extractLsb' 0 79).ult (b.extractLsb' 0 79) then b else a

/-! ### Exact values and rounding (R570) -/

/-- A magnitude: `n * 2^e`, or, if `more`, something strictly between that and `(n + 1) * 2^e`. -/
structure Exact where
  n : Nat
  e : Int
  more : Bool
  deriving DecidableEq, Repr

/-- The magnitude of a finite register value (R543, R544). -/
def magnitude (x : Reg80) : Exact := { n := realSig x, e := realTrue x - 63, more := false }

/-- How many zero bits a significand has before its leading one. -/
def leadingZeros (sig : Nat) : Nat := if sig = 0 then 64 else 63 - Nat.log2 sig

/-- CW.RC (10_state.md R62). -/
inductive Rounding where
  | nearest | down | up | chop
  deriving DecidableEq, Repr

def Rounding.ofBits (b : BitVec 2) : Rounding :=
  if b = 0 then .nearest else if b = 1 then .down else if b = 2 then .up else .chop

/-- The magnitude rounded to a multiple of `2^g`, as that multiple, and whether it changed (R570). `neg` is the
value's sign. -/
def roundTo (rc : Rounding) (neg : Bool) (x : Exact) (g : Int) : Nat × Bool :=
  if g ≤ x.e then (x.n <<< (x.e - g).toNat, x.more)
  else
    let d := (g - x.e).toNat
    let q := x.n >>> d
    let r := x.n % 2 ^ d
    let half := 2 ^ (d - 1)
    let inexact := r != 0 || x.more
    let away := match rc with
      | .nearest => decide (half < r) || (r == half && (x.more || q % 2 == 1))
      | .down => neg && inexact
      | .up => !neg && inexact
      | .chop => false
    (if away then q + 1 else q, inexact)

/-- A nonzero magnitude as a significand of 64 bits with `lz` leading zeros of which the top `p` bits are used, with its
true exponent and whether it changed (R553, R570, R571; log 46). -/
structure Rounded where
  exp : Int
  sig : Nat
  inexact : Bool
  deriving DecidableEq, Repr

def roundSig (rc : Rounding) (neg : Bool) (p lz : Nat) (x : Exact) : Rounded :=
  let te := x.e + Nat.log2 x.n + lz
  let r := roundTo rc neg x (te - 63 + (64 - p : Nat))
  let sig := r.1 * 2 ^ (64 - p)
  if sig = 2 ^ (64 - lz) ∧ lz < p then ⟨te + 1, sig / 2, r.2⟩ else ⟨te, sig, r.2⟩

/-- The square root of a natural number below `4^k`, rounded down, from the bits found so far. -/
def isqrt (n : Nat) : Nat → Nat → Nat
  | 0, r => r
  | k + 1, r => isqrt n k (if (r + 2 ^ k) * (r + 2 ^ k) ≤ n then r + 2 ^ k else r)

/-- The square root of a nonzero magnitude to more than 64 bits. -/
def sqrtExact (x : Exact) : Exact :=
  let k := if x.e % 2 = 0 then 66 else 67
  let n := x.n <<< k
  let r := isqrt n 66 0
  { n := r, e := (x.e - k) / 2, more := r * r != n }

/-- The quotient of two magnitudes to more than 64 bits. -/
def divExact (x y : Exact) : Exact :=
  let n := x.n <<< 128
  { n := n / y.n, e := x.e - y.e - 128, more := n % y.n != 0 }

def mulExact (x y : Exact) : Exact := { n := x.n * y.n, e := x.e + y.e, more := false }

/-- A magnitude in units of `2^e`, `e` not above its own. -/
def Exact.at (x : Exact) (e : Int) : Nat := x.n <<< (x.e - e).toNat

/-- A signed magnitude in units of `2^e`. -/
def signedAt (neg : Bool) (x : Exact) (e : Int) : Int := if neg then -(x.at e : Int) else (x.at e : Int)

/-! ### Integers and packed decimals (R541, R542) -/

/-- A nonzero or zero natural number below 2^64 with a sign, normalised. -/
def ofNatReal (neg : Bool) (n : Nat) : Reg80 :=
  if n = 0 then realZero neg else mkReal neg (16383 + Nat.log2 n) (n <<< (63 - Nat.log2 n))

/-- ToTempInt (R541), on the signed value. -/
def ofIntReal (v : Int) : Reg80 := ofNatReal (decide (v < 0)) v.natAbs

/-- The decimal value of `k` packed digits. -/
def bcdValue : Nat → Nat → Nat
  | 0, _ => 0
  | k + 1, v => v % 16 + 10 * bcdValue k (v / 16)

/-- Every one of `k` digits is at most 9. -/
def bcdValid : Nat → Nat → Bool
  | 0, _ => true
  | k + 1, v => decide (v % 16 ≤ 9) && bcdValid k (v / 16)

/-- `k` decimal digits, packed. -/
def bcdDigits : Nat → Nat → Nat
  | 0, _ => 0
  | k + 1, n => n % 10 + 16 * bcdDigits k (n / 10)

/-! ### Short and long reals (R543, R545) -/

/-- The widths of exponent and fraction. -/
structure RealFmt where
  exp : Nat
  frac : Nat
  deriving DecidableEq, Repr

def shortReal : RealFmt := ⟨8, 23⟩
def longReal : RealFmt := ⟨11, 52⟩

def RealFmt.bias (f : RealFmt) : Nat := 2 ^ (f.exp - 1) - 1

/-- The exponent field of all ones. -/
def RealFmt.ones (f : RealFmt) : Nat := 2 ^ f.exp - 1

/-- An encoding from sign, exponent field and fraction; a fraction of `2^frac` carries into the exponent. -/
def RealFmt.encode (f : RealFmt) (neg : Bool) (exp frac : Nat) : Nat :=
  (if neg then 2 ^ (f.exp + f.frac) else 0) + exp * 2 ^ f.frac + frac

/-- A numeric operand: its value, and whether the source was a denormal (R575). -/
structure NumOperand where
  val : Reg80
  den : Bool
  deriving DecidableEq, Repr

/-- ToTempShort and ToTempLong (R545). -/
def RealFmt.load (f : RealFmt) (v : Nat) : NumOperand :=
  let neg := v / 2 ^ (f.exp + f.frac) % 2 == 1
  let e := v / 2 ^ f.frac % 2 ^ f.exp
  let frac := v % 2 ^ f.frac * 2 ^ (63 - f.frac)
  if e = f.ones then ⟨mkReal neg 0x7FFF (2 ^ 63 + frac), false⟩
  else if e = 0 then
    (if frac = 0 then ⟨realZero neg, false⟩ else ⟨mkReal neg (1 + 16383 - f.bias) frac, true⟩)
  else ⟨mkReal neg (e + 16383 - f.bias) (2 ^ 63 + frac), false⟩

/-- A register value, or a temporary real in memory (ToTempTemp), as an operand. -/
def regOperand (x : Reg80) : NumOperand := ⟨x, classOf x == .denormal⟩

/-- A special value chopped to fit: exponent all ones or all zeros, and the top fraction bits (R546). -/
def RealFmt.chop (f : RealFmt) (x : Reg80) : Nat :=
  f.encode (realSign x) (if realExp x = 0 then 0 else f.ones) (realSig x % 2 ^ 63 / 2 ^ (63 - f.frac))

/-- The value denormalized to the smallest exponent and rounded (R579), and whether it changed. -/
def RealFmt.denormalize (f : RealFmt) (rc : Rounding) (x : Reg80) : Nat × Bool :=
  let r := roundTo rc (realSign x) (magnitude x) (1 - (f.bias : Int) - f.frac)
  (f.encode (realSign x) 0 r.1, r.2)

/-- The masked response to an overflow of the format (R578). -/
def RealFmt.overflow (f : RealFmt) (rc : Rounding) (neg : Bool) : Nat :=
  if (rc = .down ∧ neg = false) ∨ (rc = .up ∧ neg = true) then f.encode neg (f.ones - 1) (2 ^ f.frac - 1)
  else f.encode neg f.ones 0

/-- Real indefinite in the format (R557). -/
def RealFmt.indefinite (f : RealFmt) : Nat := f.encode true f.ones (2 ^ (f.frac - 1))

end Sys2Proof.Machine
end

