-- ==== Sys2Proof/Machine/NpxState.lean ====
section
/-! DEFINITION. The named operations over the 80287's state: the register stack and its tags, the status and control
words, numeric exceptions, and the delivery of results (10_state.md R59 to R66; 48_npx_architecture.md R551, R552, R571 to
R582, R616). -/

namespace Sys2Proof.Machine

/-! ### Registers, tags, status and control -/

/-- The 16-bit image of the status word (10_state.md R61): B, C3, ST, C2, C1, C0, ES, bit 6, PE UE OE ZE DE IE. -/
def StatusWord.word (w : StatusWord) : Word :=
  BitVec.ofBool w.es ++ BitVec.ofBool w.c3 ++ w.top ++ BitVec.ofBool w.c2 ++ BitVec.ofBool w.c1 ++ BitVec.ofBool w.c0 ++
    BitVec.ofBool w.es ++ BitVec.ofBool w.bit6 ++ w.exc

/-- The status word of an image; B is not held (R582). -/
def StatusWord.ofWord (w : Word) : StatusWord :=
  { c3 := w.getLsbD 14, c2 := w.getLsbD 10, c1 := w.getLsbD 9, c0 := w.getLsbD 8, top := w.extractLsb' 11 3
    es := w.getLsbD 7, bit6 := w.getLsbD 6, exc := w.extractLsb' 0 6 }

/-- The ST field (10_state.md R61). -/
def Npx.top (n : Npx) : BitVec 3 := n.sw.top

def Npx.setTop (n : Npx) (t : BitVec 3) : Npx :=
  { n with sw := { n.sw with top := t } }

/-- The physical register that ST(i) names (10_state.md R60). -/
def Npx.phys (n : Npx) (i : BitVec 3) : BitVec 3 := n.top + i

/-- R[k] (10_state.md R60). -/
def Npx.reg (n : Npx) (k : BitVec 3) : Reg80 :=
  if k = 0 then n.r0 else if k = 1 then n.r1 else if k = 2 then n.r2 else if k = 3 then n.r3
  else if k = 4 then n.r4 else if k = 5 then n.r5 else if k = 6 then n.r6 else n.r7

def Npx.setReg (n : Npx) (k : BitVec 3) (v : Reg80) : Npx :=
  if k = 0 then { n with r0 := v } else if k = 1 then { n with r1 := v } else if k = 2 then { n with r2 := v }
  else if k = 3 then { n with r3 := v } else if k = 4 then { n with r4 := v } else if k = 5 then { n with r5 := v }
  else if k = 6 then { n with r6 := v } else { n with r7 := v }

/-- tag(k), bits 2k+1..2k of the tag word (10_state.md R63; log 18). -/
def Npx.tag (n : Npx) (k : BitVec 3) : BitVec 2 := n.tw.extractLsb' (2 * k.toNat) 2

/-- A tag word from its tags. -/
def tagWord (f : BitVec 3 → BitVec 2) : Word := f 7 ++ f 6 ++ f 5 ++ f 4 ++ f 3 ++ f 2 ++ f 1 ++ f 0

def Npx.setTag (n : Npx) (k : BitVec 3) (t : BitVec 2) : Npx :=
  { n with tw := tagWord fun j => if j = k then t else n.tag j }

/-- Empty(k) (R551). -/
def Npx.empty (n : Npx) (k : BitVec 3) : Bool := n.tag k == 3

/-- `R[k] <- v; tag(k) <- TagOf(v)` (49_npx_instructions.md R624). -/
def Npx.put (n : Npx) (k : BitVec 3) (v : Reg80) : Npx := (n.setReg k v).setTag k (tagOf v)

/-- PopST() (R552). -/
def Npx.pop (n : Npx) : Npx := (n.setTag n.top 3).setTop (n.top + 1)

/-- Tags recomputed from the contents, empty kept (R551, D36). -/
def Npx.retag (n : Npx) : Npx := { n with tw := tagWord fun k => if n.tag k = 3 then 3 else tagOf (n.reg k) }

/-- Some flag of the status word is set whose mask is clear (R582). -/
def unmaskedFlag (exc : BitVec 6) (cw : Word) : Bool := exc &&& ~~~(cw.extractLsb' 0 6) != 0

/-- ES and B recomputed (R582, R533). -/
def Npx.fixES (n : Npx) : Npx :=
  { n with sw := { n.sw with es := unmaskedFlag n.sw.exc n.cw } }

/-- The control word loaded, all 16 bits (10_state.md R62), and ES recomputed. -/
def Npx.setCW (n : Npx) (cw : Word) : Npx := { n with cw := cw }.fixES

/-- C3, C2, C1, C0 (10_state.md R61). -/
def Npx.cond (n : Npx) : Bool × Bool × Bool × Bool :=
  (n.sw.c3, n.sw.c2, n.sw.c1, n.sw.c0)

def Npx.setCond (n : Npx) (c3 c2 c1 c0 : Bool) : Npx :=
  { n with sw := { n.sw with c3 := c3, c2 := c2, c1 := c1, c0 := c0 } }

def Npx.rounding (n : Npx) : Rounding := .ofBits (n.cw.extractLsb' 10 2)

/-- The significand bits that CW.PC asks for (R571; 01 as 11, D37). -/
def Npx.precision (n : Npx) : Nat :=
  if n.cw.extractLsb' 8 2 = 0 then 24 else if n.cw.extractLsb' 8 2 = 2 then 53 else 64

/-- CW.IC: affine (R556). -/
def Npx.affine (n : Npx) : Bool := n.cw.getLsbD 12

/-- The status word after RESET, FNINIT and FNSAVE: the condition code is undefined, bits 14 and 10 to 8 of `cc` (R616,
D40). The low byte is 00H, the reserved bit 6 in it: R539 says so of FNINIT, 10_state.md R78 makes RESET identical to it and
49_npx_instructions.md R710 makes FNSAVE initialize as it does. -/
def StatusWord.undefCond (cc : Word) : StatusWord :=
  { StatusWord.clear with c3 := cc.getLsbD 14, c2 := cc.getLsbD 10, c1 := cc.getLsbD 9, c0 := cc.getLsbD 8 }

/-- FINIT: everything but the registers, the pointers and the mode (49_npx_instructions.md R700). -/
def Npx.init (n : Npx) (cc : Word) : Npx := { n with cw := 0x037F, sw := .undefCond cc, tw := 0xFFFF }

/-! ### Numeric exceptions (R572 to R581) -/

/-- The exceptions, flag and mask in the same bit (R572). -/
inductive NumExc where
  | invalid | denormalized | zeroDivide | overflow | underflow | precision
  deriving DecidableEq, Repr

def NumExc.bit : NumExc → Nat
  | .invalid => 0 | .denormalized => 1 | .zeroDivide => 2 | .overflow => 3 | .underflow => 4 | .precision => 5

def Npx.masked (n : Npx) (e : NumExc) : Bool := n.cw.getLsbD e.bit

/-- The flag set, and ES recomputed (R573, R582). -/
def Npx.flag (n : Npx) (e : NumExc) : Npx :=
  { n with sw := { n.sw with exc := n.sw.exc ||| BitVec.twoPow 6 e.bit } }.fixES

/-- The ERROR input: the 80287's ES bit, inactive with no 80287 (10_state.md R66; 45_flag_io_misc.md R465, D28). -/
def State.npxError (s : State) : Bool := s.npxPresent && s.npx.sw.es

/-! ### Numeric operations -/

/-- What a numeric operation works on: the 80287, and the count of undefined values drawn. It reaches nothing else of
the machine (R530). -/
structure Numeric where
  npx : Npx
  undef : Nat
  deriving DecidableEq, Repr

/-- A numeric operation: it goes on with a value, or an unmasked exception ends it (R581). -/
abbrev N := OptionT (StateM Numeric)

/-- A numeric operation run: its value, if it was not ended, and the 80287 after it. -/
def N.runFrom {α : Type} (x : N α) (n : Npx) (undef : Nat) : Option α × Numeric := Id.run (StateT.run x.run ⟨n, undef⟩)

/-- An undefined register value. DESIGN CHOICE: UNDEF of 93_implementation_defined.md draws a tag too, and
48_npx_architecture.md R551 ties the tag to the value: the register it is put in is tagged as the value drawn, so that it
is not empty (log 61). -/
def anyReal : N Reg80 := do
  let t ← get
  set { t with undef := t.undef + 1 }
  return Config.undef80 t.undef

def anyBit : N Bool := do
  let t ← get
  set { t with undef := t.undef + 1 }
  return Config.undefBit t.undef

def anyWord : N Word := do
  let t ← get
  set { t with undef := t.undef + 1 }
  return Config.undef16 t.undef

/-- The 80287's state. -/
def theNpx : N Npx := do
  let t ← get
  return t.npx

def changeNpx (f : Npx → Npx) : N Unit := modify fun t => { t with npx := f t.npx }

/-- Signal(e) for an exception that is found before anything is written: unmasked it ends the instruction (R573,
R581). -/
def signal (e : NumExc) : N Unit := do
  changeNpx fun n => n.flag e
  let n ← theNpx
  if n.masked e then pure () else failure

/-- Signal(P): the instruction goes on whether or not it is masked (R580, R581). -/
def signalPrecision (inexact : Bool) : N Unit := changeNpx fun n => if inexact then n.flag .precision else n

/-- Signal(e) if the condition holds. -/
def signalIf (c : Bool) (e : NumExc) : N Unit := if c then signal e else pure ()

/-- Signal(e) now if it is unmasked: D before the other invalid operations (R574). -/
def signalUnmasked (c : Bool) (e : NumExc) : N Unit := do
  let n ← theNpx
  signalIf (c && !n.masked e) e

/-- Src(ST(i)) (49_npx_instructions.md R624). -/
def source (i : BitVec 3) : N Reg80 := do
  let n ← theNpx
  if n.empty (n.phys i) then do
    signal .invalid
    return realIndefinite
  else return n.reg (n.phys i)

/-- PutReg of ST(i). -/
def putST (i : BitVec 3) (v : Reg80) : N Unit := changeNpx fun n => n.put (n.phys i) v

def popST : N Unit := changeNpx Npx.pop

/-- The register a push would write is not empty (R552). -/
def Npx.pushOverflows (n : Npx) : Bool := !n.empty (n.top - 1)

/-- ST moves down and the new top is written. -/
def Npx.push (n : Npx) (v : Reg80) : Npx := (n.setTop (n.top - 1)).put (n.top - 1) v

/-- The stack fault of a push: the answer is whether the new top gets real indefinite instead of the value (R552). -/
def stackRoom : N Bool := do
  let n ← theNpx
  if n.pushOverflows then do
    signal .invalid
    return false
  else return true

/-- PushST(v) (R552). -/
def pushST (v : Reg80) : N Unit := do
  let ok ← stackRoom
  changeNpx fun n => n.push (if ok then v else realIndefinite)

/-! ### Delivery of results (R578 to R580) -/

/-- An overflow of a register result (R578, U36). `sig` is the result's significand, `inexact` whether the masked
response signals P (R580). -/
def overflowResult (inexact neg : Bool) (sig : Nat) : N Reg80 := do
  changeNpx fun n => n.flag .overflow
  let n ← theNpx
  if !n.masked .overflow then anyReal
  else do
    signalPrecision inexact
    let finite := (n.rounding = .up ∧ neg = true) ∨ (n.rounding = .down ∧ neg = false)
    return (if finite then (if 2 ^ 63 ≤ sig then realLargest neg else mkReal neg 0x7FFE sig) else realInfinity neg)

/-- An underflow of a register result: the magnitude denormalized and rounded to 64 bits (R579, U36), and whether that
changed it. -/
def underflowResult (neg : Bool) (x : Exact) : N (Reg80 × Bool) := do
  changeNpx fun n => n.flag .underflow
  let n ← theNpx
  if !n.masked .underflow then do
    let v ← anyReal
    return (v, false)
  else do
    let r := roundTo n.rounding neg x (-16382 - 63)
    return (mkReal neg 0 r.1, r.2)

/-- A nonzero exact result rounded to `p` bits and delivered with `lz` leading zeros (49_npx_instructions.md R640 steps 8
to 10). -/
def deliverReal80 (p lz : Nat) (neg : Bool) (x : Exact) : N Reg80 := do
  let n ← theNpx
  let r := roundSig n.rounding neg p lz x
  if 16383 < r.exp then overflowResult true neg r.sig
  else if r.exp < -16382 then do
    let v ← underflowResult neg x
    signalPrecision v.2
    return v.1
  else do
    signalPrecision r.inexact
    return mkReal neg (r.exp + 16383).toNat r.sig

/-- A pseudo-zero result with the given true exponent (R554). Below the exponent range it is a true zero, with no U:
DESIGN CHOICE, the spec is silent (log 55). -/
def deliverPseudoZero (neg : Bool) (te : Int) : N Reg80 :=
  if 16383 < te then overflowResult true neg 0
  else return (if te < -16382 then realZero neg else mkReal neg (te + 16383).toNat 0)

/-- The invalid operation of an arithmetic instruction: real indefinite, or the NaN (R577, R557). -/
def invalidResult (v : Reg80) : N Reg80 := do
  signal .invalid
  return v

end Sys2Proof.Machine
end

