-- ==== Sys2Proof/Machine/FlagIo.lean ====
section
/-! DEFINITION. Prefixes (30_encoding.md R182), flag control, I/O, HLT, NOP and WAIT (45_flag_io_misc.md). -/

namespace Sys2Proof.Machine

/-- A prefix byte: it changes nothing but what the next byte is decoded with (30_encoding.md R182, R183; D15). -/
def prefixStep (f : Prefixes → Prefixes) (s : State) : Result :=
  .next { s with pfx := { f s.pfx with count := s.pfx.count + 1 } }

def flagTo (f : Flag) (b : Bool) : M Unit := modify fun s => s.setFlag f b

/-- STI (R457, D27). -/
def enableInterrupts : M Unit := do
  ioPriv
  modify fun s => { s.setFlag .if_ true with stiShadow := s.stiShadow || !s.flag .if_ }

/-- HLT (R463). -/
def halt : M Unit := do
  let s ← get
  require (!s.pe || s.cpl == 0) (.gp 0)
  modify fun s => { s with run := .halted }

/-- WAIT (R465): the 80287 is never busy at an instruction boundary (48_npx_architecture.md R533). -/
def waitNpx : M Unit := do
  let s ← get
  require (!(s.mp && s.ts)) .nm
  require (s.em || !s.npxError) .mf

def inByte (port : Word) : M Unit := do
  ioPriv
  let v ← ioRead8 port
  modify fun s => s.setReg8 .al v

def inWord (port : Word) : M Unit := do
  ioPriv
  let v ← ioRead16 port
  modify fun s => s.setReg16 .ax v

def outByte (port : Word) : M Unit := do
  ioPriv
  let s ← get
  ioWrite8 port (s.reg8 .al)

def outWord (port : Word) : M Unit := do
  ioPriv
  let s ← get
  ioWrite16 port s.gpr.ax

/-- The port in DX (R459, R461). -/
def withDx (f : Word → M Unit) : M Unit := do
  let s ← get
  f s.gpr.dx

/-! ### Instructions -/

/-- ES: prefix (30_encoding.md R182). -/
def execPfxEs (s : State) : Result := prefixStep (fun p => { p with seg := some .es }) s

/-- CS: prefix (30_encoding.md R182). -/
def execPfxCs (s : State) : Result := prefixStep (fun p => { p with seg := some .cs }) s

/-- SS: prefix (30_encoding.md R182). -/
def execPfxSs (s : State) : Result := prefixStep (fun p => { p with seg := some .ss }) s

/-- DS: prefix (30_encoding.md R182). -/
def execPfxDs (s : State) : Result := prefixStep (fun p => { p with seg := some .ds }) s

/-- NOP (45_flag_io_misc.md R464). -/
def execNop (s : State) : Result := runInstr (pure ()) s

/-- WAIT (45_flag_io_misc.md R465). -/
def execWait (s : State) : Result := runInstr waitNpx s

/-- IN AL,db (45_flag_io_misc.md R458). -/
def execInAlDb (imm : BitVec 8) (s : State) : Result := runInstr (inByte (imm.setWidth 16)) s

/-- IN AX,db (45_flag_io_misc.md R458). -/
def execInAxDb (imm : BitVec 8) (s : State) : Result := runInstr (inWord (imm.setWidth 16)) s

/-- OUT db,AL (45_flag_io_misc.md R460). -/
def execOutDbAl (imm : BitVec 8) (s : State) : Result := runInstr (outByte (imm.setWidth 16)) s

/-- OUT db,AX (45_flag_io_misc.md R460). -/
def execOutDbAx (imm : BitVec 8) (s : State) : Result := runInstr (outWord (imm.setWidth 16)) s

/-- IN AL,DX (45_flag_io_misc.md R459). -/
def execInAlDx (s : State) : Result := runInstr (withDx inByte) s

/-- IN AX,DX (45_flag_io_misc.md R459). -/
def execInAxDx (s : State) : Result := runInstr (withDx inWord) s

/-- OUT DX,AL (45_flag_io_misc.md R461). -/
def execOutDxAl (s : State) : Result := runInstr (withDx outByte) s

/-- OUT DX,AX (45_flag_io_misc.md R461). -/
def execOutDxAx (s : State) : Result := runInstr (withDx outWord) s

/-- LOCK prefix (45_flag_io_misc.md R466). -/
def execPfxLock (s : State) : Result := prefixStep (fun p => { p with lock := true }) s

/-- REPNE prefix (44_string.md R436). -/
def execPfxRepne (s : State) : Result := prefixStep (fun p => { p with rep := some .repne }) s

/-- REP prefix (44_string.md R435). -/
def execPfxRep (s : State) : Result := prefixStep (fun p => { p with rep := some .rep }) s

/-- HLT (45_flag_io_misc.md R463). -/
def execHlt (s : State) : Result := runInstr halt s

/-- CMC (45_flag_io_misc.md R452). -/
def execCmc (s : State) : Result := runInstr (modify fun t => t.setFlag .cf !t.flag .cf) s

/-- CLC (45_flag_io_misc.md R451). -/
def execClc (s : State) : Result := runInstr (flagTo .cf false) s

/-- STC (45_flag_io_misc.md R453). -/
def execStc (s : State) : Result := runInstr (flagTo .cf true) s

/-- CLI (45_flag_io_misc.md R456). -/
def execCli (s : State) : Result := runInstr (ioPriv >>= fun _ => flagTo .if_ false) s

/-- STI (45_flag_io_misc.md R457). -/
def execSti (s : State) : Result := runInstr enableInterrupts s

/-- CLD (45_flag_io_misc.md R454). -/
def execCld (s : State) : Result := runInstr (flagTo .df false) s

/-- STD (45_flag_io_misc.md R455). -/
def execStd (s : State) : Result := runInstr (flagTo .df true) s

end Sys2Proof.Machine
end

