-- ==== Sys2Proof/Machine/HighLevel.lean ====
section
/-! DEFINITION. ENTER, LEAVE and BOUND (46_extended.md). -/

namespace Sys2Proof.Machine

/-- ENTER's display: each word is read at SS:[BP], with BP moving down, and pushed (R480). -/
def copyDisplay : Nat → M Unit
  | 0 => pure ()
  | k + 1 => do
    modify fun s => s.setReg16 .bp (s.gpr.bp - 2)
    let s ← get
    let v ← readSeg16 .ss s.gpr.bp
    push16 v
    copyDisplay k

/-- The display words below BP can all be read, `k` of them. -/
def State.displayOk (s : State) : Nat → Bool
  | 0 => true
  | k + 1 => s.displayOk k && s.stackOk (s.gpr.bp - BitVec.ofNat 16 (2 * (k + 1))) 2

/-- ENTER (R480). Protected Mode tests the whole block first, Real Address Mode does not (D29). -/
def enter (size : Word) (levelByte : Byte) : M Unit := do
  let s ← get
  let level := levelByte.toNat % 32
  let words := if level = 0 then 1 else level + 1
  require (!s.pe || s.stackRoom (2 * words + size.toNat)) (violation s .ss)
  require (s.displayOk (level - 1)) (violation s .ss)
  push16 s.gpr.bp
  let t ← get
  let frame := t.gpr.sp
  if level = 0 then pure ()
  else do
    copyDisplay (level - 1)
    push16 frame
  modify fun t => (t.setReg16 .bp frame).setReg16 .sp (t.gpr.sp - size)

/-- LEAVE (R482). -/
def leaveFrame : M Unit := do
  let s ← get
  require (s.stackOk s.gpr.bp 2) (violation s .ss)
  let v ← load16 (s.ss.lin s.gpr.bp)
  modify fun t => (t.setReg16 .sp (s.gpr.bp + 2)).setReg16 .bp v

/-- BOUND (R483): signed limits, both inclusive. -/
def bound (r : Reg16) (ea : Ea) : M Unit := do
  let (lo, hi) ← rdPair ea
  let s ← get
  require (lo.sle (s.reg16 r) && (s.reg16 r).sle hi) .br

/-! ### Instructions -/

/-- BOUND rw,md (46_extended.md R483). -/
def execBoundRwMd (r : Reg16) (ea : Ea) (s : State) : Result := runInstr (bound r ea) s

/-- ENTER dw,db (46_extended.md R480). -/
def execEnterDwDb (size : BitVec 16) (level : BitVec 8) (s : State) : Result := runInstr (enter size level) s

/-- LEAVE (46_extended.md R482). -/
def execLeave (s : State) : Result := runInstr leaveFrame s

end Sys2Proof.Machine
end

