-- ==== Sys2Proof/Machine/Logic.lean ====
section
/-! DEFINITION. Logical, shift and rotate instructions (42_logical_shift_rotate.md). -/

namespace Sys2Proof.Machine

/-! ### Boolean operations (R310 to R315) -/

/-- Logic(N, r): CF and OF are cleared, AF is undefined (R310). -/
def logicFlags {n : Nat} (r : BitVec n) : M Unit := do
  modify fun s => ((s.setFlag .cf false).setFlag .of false).setResultFlags r
  undefFlag .af

def opAnd {n : Nat} (a b : BitVec n) : M (BitVec n) := do
  logicFlags (a &&& b)
  return a &&& b

def opOr {n : Nat} (a b : BitVec n) : M (BitVec n) := do
  logicFlags (a ||| b)
  return a ||| b

def opXor {n : Nat} (a b : BitVec n) : M (BitVec n) := do
  logicFlags (a ^^^ b)
  return a ^^^ b

/-- TEST: the result is discarded (R314). -/
def opTest {n : Nat} (a b : BitVec n) : M Unit := logicFlags (a &&& b)

/-- NOT: no flags (R315). -/
def opNot {n : Nat} (a : BitVec n) : M (BitVec n) := return ~~~a

/-! ### Shifts and rotates (R316 to R326) -/

/-- The seven operations (R316). -/
inductive Shift where
  | rol | ror | rcl | rcr | sal | shr | sar
  deriving DecidableEq, Repr

/-- Bit 0 set to `b` in a value whose bit 0 is 0, or the top bit in one whose top bit is 0. -/
def bitAt {n : Nat} (i : Nat) (b : Bool) : BitVec n := if b then BitVec.twoPow n i else 0

/-- Step(v, cf): one single-bit shift or rotate (R320 to R326). -/
def Shift.step {n : Nat} (k : Shift) (v : BitVec n) (cf : Bool) : BitVec n × Bool :=
  match k with
  | .rol => (v <<< 1 ||| bitAt 0 v.msb, v.msb)
  | .ror => (v >>> 1 ||| bitAt (n - 1) (v.getLsbD 0), v.getLsbD 0)
  | .rcl => (v <<< 1 ||| bitAt 0 cf, v.msb)
  | .rcr => (v >>> 1 ||| bitAt (n - 1) cf, v.getLsbD 0)
  | .sal => (v <<< 1, v.msb)
  | .shr => (v >>> 1, v.getLsbD 0)
  | .sar => (v.sshiftRight 1, v.getLsbD 0)

/-- Step repeated (R317). -/
def Shift.iterate {n : Nat} (k : Shift) : Nat → BitVec n → Bool → BitVec n × Bool
  | 0, v, cf => (v, cf)
  | c + 1, v, cf =>
    let r := k.step v cf
    k.iterate c r.1 r.2

/-- A shift, not a rotate: SF, ZF and PF are written, AF is undefined (R318). -/
def Shift.isShift : Shift → Bool
  | .sal | .shr | .sar => true
  | .rol | .ror | .rcl | .rcr => false

/-- OF after a count of 1 (R318). -/
def Shift.overflow {n : Nat} (k : Shift) (r : BitVec n) (cf : Bool) : Bool :=
  match k with
  | .sal | .rol | .rcl => cf ^^ r.msb
  | .shr | .sar | .ror | .rcr => r.msb ^^ r.getLsbD (n - 2)

/-- A shift or rotate by `raw`, of which five bits count (R317). The flags are those of R318; with a count of 0 the
operand and all flags but OF are unchanged (D19). -/
def opShift {n : Nat} (k : Shift) (raw : Byte) (v : BitVec n) : M (BitVec n) := do
  let s ← get
  let c := raw.toNat % 32
  let r := k.iterate c v (s.flag .cf)
  if c = 0 then undefFlag .of
  else do
    modify fun s => s.setFlag .cf r.2
    if k.isShift then do
      modify fun s => s.setResultFlags r.1
      undefFlag .af
    if c = 1 then modify fun s => s.setFlag .of (k.overflow r.1 r.2)
    else undefFlag .of
  return r.1

/-- What a write protect fault loses: CF for RCL and RCR (60_exceptions.md R760). -/
def Shift.lost : Shift → M Unit
  | .rcl | .rcr => carryLost
  | .rol | .ror | .sal | .shr | .sar => nothingLost

def shift8 (k : Shift) (d : Rm Reg8) (raw : Byte) : M Unit := modify8 k.lost d (opShift k raw)

def shift16 (k : Shift) (d : Rm Reg16) (raw : Byte) : M Unit := modify16 k.lost d (opShift k raw)

/-- A shift by CL. -/
def shiftCl8 (k : Shift) (d : Rm Reg8) : M Unit := do
  let s ← get
  shift8 k d (s.reg8 .cl)

def shiftCl16 (k : Shift) (d : Rm Reg16) : M Unit := do
  let s ← get
  shift16 k d (s.reg8 .cl)

/-! ### Instructions -/

/-- OR eb,rb (42_logical_shift_rotate.md R312). -/
def execOrEbRb (d : Rm Reg8) (r : Reg8) (s : State) : Result := runInstr (ebRb nothingLost opOr d r) s

/-- OR ew,rw (42_logical_shift_rotate.md R312). -/
def execOrEwRw (d : Rm Reg16) (r : Reg16) (s : State) : Result := runInstr (ewRw nothingLost opOr d r) s

/-- OR rb,eb (42_logical_shift_rotate.md R312). -/
def execOrRbEb (r : Reg8) (d : Rm Reg8) (s : State) : Result := runInstr (rbEb opOr r d) s

/-- OR rw,ew (42_logical_shift_rotate.md R312). -/
def execOrRwEw (r : Reg16) (d : Rm Reg16) (s : State) : Result := runInstr (rwEw opOr r d) s

/-- OR AL,db (42_logical_shift_rotate.md R312). -/
def execOrAlDb (imm : BitVec 8) (s : State) : Result := runInstr (ebDb nothingLost opOr (.reg .al) imm) s

/-- OR AX,dw (42_logical_shift_rotate.md R312). -/
def execOrAxDw (imm : BitVec 16) (s : State) : Result := runInstr (ewDw nothingLost opOr (.reg .ax) imm) s

/-- AND eb,rb (42_logical_shift_rotate.md R311). -/
def execAndEbRb (d : Rm Reg8) (r : Reg8) (s : State) : Result := runInstr (ebRb nothingLost opAnd d r) s

/-- AND ew,rw (42_logical_shift_rotate.md R311). -/
def execAndEwRw (d : Rm Reg16) (r : Reg16) (s : State) : Result := runInstr (ewRw nothingLost opAnd d r) s

/-- AND rb,eb (42_logical_shift_rotate.md R311). -/
def execAndRbEb (r : Reg8) (d : Rm Reg8) (s : State) : Result := runInstr (rbEb opAnd r d) s

/-- AND rw,ew (42_logical_shift_rotate.md R311). -/
def execAndRwEw (r : Reg16) (d : Rm Reg16) (s : State) : Result := runInstr (rwEw opAnd r d) s

/-- AND AL,db (42_logical_shift_rotate.md R311). -/
def execAndAlDb (imm : BitVec 8) (s : State) : Result := runInstr (ebDb nothingLost opAnd (.reg .al) imm) s

/-- AND AX,dw (42_logical_shift_rotate.md R311). -/
def execAndAxDw (imm : BitVec 16) (s : State) : Result := runInstr (ewDw nothingLost opAnd (.reg .ax) imm) s

/-- XOR eb,rb (42_logical_shift_rotate.md R313). -/
def execXorEbRb (d : Rm Reg8) (r : Reg8) (s : State) : Result := runInstr (ebRb nothingLost opXor d r) s

/-- XOR ew,rw (42_logical_shift_rotate.md R313). -/
def execXorEwRw (d : Rm Reg16) (r : Reg16) (s : State) : Result := runInstr (ewRw nothingLost opXor d r) s

/-- XOR rb,eb (42_logical_shift_rotate.md R313). -/
def execXorRbEb (r : Reg8) (d : Rm Reg8) (s : State) : Result := runInstr (rbEb opXor r d) s

/-- XOR rw,ew (42_logical_shift_rotate.md R313). -/
def execXorRwEw (r : Reg16) (d : Rm Reg16) (s : State) : Result := runInstr (rwEw opXor r d) s

/-- XOR AL,db (42_logical_shift_rotate.md R313). -/
def execXorAlDb (imm : BitVec 8) (s : State) : Result := runInstr (ebDb nothingLost opXor (.reg .al) imm) s

/-- XOR AX,dw (42_logical_shift_rotate.md R313). -/
def execXorAxDw (imm : BitVec 16) (s : State) : Result := runInstr (ewDw nothingLost opXor (.reg .ax) imm) s

/-- OR eb,db (42_logical_shift_rotate.md R312). -/
def execOrEbDb (d : Rm Reg8) (imm : BitVec 8) (s : State) : Result := runInstr (ebDb nothingLost opOr d imm) s

/-- AND eb,db (42_logical_shift_rotate.md R311). -/
def execAndEbDb (d : Rm Reg8) (imm : BitVec 8) (s : State) : Result := runInstr (ebDb nothingLost opAnd d imm) s

/-- XOR eb,db (42_logical_shift_rotate.md R313). -/
def execXorEbDb (d : Rm Reg8) (imm : BitVec 8) (s : State) : Result := runInstr (ebDb nothingLost opXor d imm) s

/-- OR ew,dw (42_logical_shift_rotate.md R312). -/
def execOrEwDw (d : Rm Reg16) (imm : BitVec 16) (s : State) : Result := runInstr (ewDw nothingLost opOr d imm) s

/-- AND ew,dw (42_logical_shift_rotate.md R311). -/
def execAndEwDw (d : Rm Reg16) (imm : BitVec 16) (s : State) : Result := runInstr (ewDw nothingLost opAnd d imm) s

/-- XOR ew,dw (42_logical_shift_rotate.md R313). -/
def execXorEwDw (d : Rm Reg16) (imm : BitVec 16) (s : State) : Result := runInstr (ewDw nothingLost opXor d imm) s

/-- TEST eb,rb (42_logical_shift_rotate.md R314). -/
def execTestEbRb (d : Rm Reg8) (r : Reg8) (s : State) : Result := runInstr (cmpEbRb opTest d r) s

/-- TEST ew,rw (42_logical_shift_rotate.md R314). -/
def execTestEwRw (d : Rm Reg16) (r : Reg16) (s : State) : Result := runInstr (cmpEwRw opTest d r) s

/-- TEST AL,db (42_logical_shift_rotate.md R314). -/
def execTestAlDb (imm : BitVec 8) (s : State) : Result := runInstr (cmpEbDb opTest (.reg .al) imm) s

/-- TEST AX,dw (42_logical_shift_rotate.md R314). -/
def execTestAxDw (imm : BitVec 16) (s : State) : Result := runInstr (cmpEwDw opTest (.reg .ax) imm) s

/-- ROL eb,db (42_logical_shift_rotate.md R323). -/
def execRolEbDb (d : Rm Reg8) (imm : BitVec 8) (s : State) : Result := runInstr (shift8 .rol d imm) s

/-- ROR eb,db (42_logical_shift_rotate.md R324). -/
def execRorEbDb (d : Rm Reg8) (imm : BitVec 8) (s : State) : Result := runInstr (shift8 .ror d imm) s

/-- RCL eb,db (42_logical_shift_rotate.md R325). -/
def execRclEbDb (d : Rm Reg8) (imm : BitVec 8) (s : State) : Result := runInstr (shift8 .rcl d imm) s

/-- RCR eb,db (42_logical_shift_rotate.md R326). -/
def execRcrEbDb (d : Rm Reg8) (imm : BitVec 8) (s : State) : Result := runInstr (shift8 .rcr d imm) s

/-- SAL eb,db (42_logical_shift_rotate.md R320). -/
def execSalEbDb (d : Rm Reg8) (imm : BitVec 8) (s : State) : Result := runInstr (shift8 .sal d imm) s

/-- SHR eb,db (42_logical_shift_rotate.md R321). -/
def execShrEbDb (d : Rm Reg8) (imm : BitVec 8) (s : State) : Result := runInstr (shift8 .shr d imm) s

/-- SAR eb,db (42_logical_shift_rotate.md R322). -/
def execSarEbDb (d : Rm Reg8) (imm : BitVec 8) (s : State) : Result := runInstr (shift8 .sar d imm) s

/-- ROL ew,db (42_logical_shift_rotate.md R323). -/
def execRolEwDb (d : Rm Reg16) (imm : BitVec 8) (s : State) : Result := runInstr (shift16 .rol d imm) s

/-- ROR ew,db (42_logical_shift_rotate.md R324). -/
def execRorEwDb (d : Rm Reg16) (imm : BitVec 8) (s : State) : Result := runInstr (shift16 .ror d imm) s

/-- RCL ew,db (42_logical_shift_rotate.md R325). -/
def execRclEwDb (d : Rm Reg16) (imm : BitVec 8) (s : State) : Result := runInstr (shift16 .rcl d imm) s

/-- RCR ew,db (42_logical_shift_rotate.md R326). -/
def execRcrEwDb (d : Rm Reg16) (imm : BitVec 8) (s : State) : Result := runInstr (shift16 .rcr d imm) s

/-- SAL ew,db (42_logical_shift_rotate.md R320). -/
def execSalEwDb (d : Rm Reg16) (imm : BitVec 8) (s : State) : Result := runInstr (shift16 .sal d imm) s

/-- SHR ew,db (42_logical_shift_rotate.md R321). -/
def execShrEwDb (d : Rm Reg16) (imm : BitVec 8) (s : State) : Result := runInstr (shift16 .shr d imm) s

/-- SAR ew,db (42_logical_shift_rotate.md R322). -/
def execSarEwDb (d : Rm Reg16) (imm : BitVec 8) (s : State) : Result := runInstr (shift16 .sar d imm) s

/-- ROL eb,1 (42_logical_shift_rotate.md R323). -/
def execRolEb1 (d : Rm Reg8) (s : State) : Result := runInstr (shift8 .rol d 1) s

/-- ROR eb,1 (42_logical_shift_rotate.md R324). -/
def execRorEb1 (d : Rm Reg8) (s : State) : Result := runInstr (shift8 .ror d 1) s

/-- RCL eb,1 (42_logical_shift_rotate.md R325). -/
def execRclEb1 (d : Rm Reg8) (s : State) : Result := runInstr (shift8 .rcl d 1) s

/-- RCR eb,1 (42_logical_shift_rotate.md R326). -/
def execRcrEb1 (d : Rm Reg8) (s : State) : Result := runInstr (shift8 .rcr d 1) s

/-- SAL eb,1 (42_logical_shift_rotate.md R320). -/
def execSalEb1 (d : Rm Reg8) (s : State) : Result := runInstr (shift8 .sal d 1) s

/-- SHR eb,1 (42_logical_shift_rotate.md R321). -/
def execShrEb1 (d : Rm Reg8) (s : State) : Result := runInstr (shift8 .shr d 1) s

/-- SAR eb,1 (42_logical_shift_rotate.md R322). -/
def execSarEb1 (d : Rm Reg8) (s : State) : Result := runInstr (shift8 .sar d 1) s

/-- ROL ew,1 (42_logical_shift_rotate.md R323). -/
def execRolEw1 (d : Rm Reg16) (s : State) : Result := runInstr (shift16 .rol d 1) s

/-- ROR ew,1 (42_logical_shift_rotate.md R324). -/
def execRorEw1 (d : Rm Reg16) (s : State) : Result := runInstr (shift16 .ror d 1) s

/-- RCL ew,1 (42_logical_shift_rotate.md R325). -/
def execRclEw1 (d : Rm Reg16) (s : State) : Result := runInstr (shift16 .rcl d 1) s

/-- RCR ew,1 (42_logical_shift_rotate.md R326). -/
def execRcrEw1 (d : Rm Reg16) (s : State) : Result := runInstr (shift16 .rcr d 1) s

/-- SAL ew,1 (42_logical_shift_rotate.md R320). -/
def execSalEw1 (d : Rm Reg16) (s : State) : Result := runInstr (shift16 .sal d 1) s

/-- SHR ew,1 (42_logical_shift_rotate.md R321). -/
def execShrEw1 (d : Rm Reg16) (s : State) : Result := runInstr (shift16 .shr d 1) s

/-- SAR ew,1 (42_logical_shift_rotate.md R322). -/
def execSarEw1 (d : Rm Reg16) (s : State) : Result := runInstr (shift16 .sar d 1) s

/-- ROL eb,CL (42_logical_shift_rotate.md R323). -/
def execRolEbCl (d : Rm Reg8) (s : State) : Result := runInstr (shiftCl8 .rol d) s

/-- ROR eb,CL (42_logical_shift_rotate.md R324). -/
def execRorEbCl (d : Rm Reg8) (s : State) : Result := runInstr (shiftCl8 .ror d) s

/-- RCL eb,CL (42_logical_shift_rotate.md R325). -/
def execRclEbCl (d : Rm Reg8) (s : State) : Result := runInstr (shiftCl8 .rcl d) s

/-- RCR eb,CL (42_logical_shift_rotate.md R326). -/
def execRcrEbCl (d : Rm Reg8) (s : State) : Result := runInstr (shiftCl8 .rcr d) s

/-- SAL eb,CL (42_logical_shift_rotate.md R320). -/
def execSalEbCl (d : Rm Reg8) (s : State) : Result := runInstr (shiftCl8 .sal d) s

/-- SHR eb,CL (42_logical_shift_rotate.md R321). -/
def execShrEbCl (d : Rm Reg8) (s : State) : Result := runInstr (shiftCl8 .shr d) s

/-- SAR eb,CL (42_logical_shift_rotate.md R322). -/
def execSarEbCl (d : Rm Reg8) (s : State) : Result := runInstr (shiftCl8 .sar d) s

/-- ROL ew,CL (42_logical_shift_rotate.md R323). -/
def execRolEwCl (d : Rm Reg16) (s : State) : Result := runInstr (shiftCl16 .rol d) s

/-- ROR ew,CL (42_logical_shift_rotate.md R324). -/
def execRorEwCl (d : Rm Reg16) (s : State) : Result := runInstr (shiftCl16 .ror d) s

/-- RCL ew,CL (42_logical_shift_rotate.md R325). -/
def execRclEwCl (d : Rm Reg16) (s : State) : Result := runInstr (shiftCl16 .rcl d) s

/-- RCR ew,CL (42_logical_shift_rotate.md R326). -/
def execRcrEwCl (d : Rm Reg16) (s : State) : Result := runInstr (shiftCl16 .rcr d) s

/-- SAL ew,CL (42_logical_shift_rotate.md R320). -/
def execSalEwCl (d : Rm Reg16) (s : State) : Result := runInstr (shiftCl16 .sal d) s

/-- SHR ew,CL (42_logical_shift_rotate.md R321). -/
def execShrEwCl (d : Rm Reg16) (s : State) : Result := runInstr (shiftCl16 .shr d) s

/-- SAR ew,CL (42_logical_shift_rotate.md R322). -/
def execSarEwCl (d : Rm Reg16) (s : State) : Result := runInstr (shiftCl16 .sar d) s

/-- TEST eb,db (42_logical_shift_rotate.md R314). -/
def execTestEbDb (d : Rm Reg8) (imm : BitVec 8) (s : State) : Result := runInstr (cmpEbDb opTest d imm) s

/-- NOT eb (42_logical_shift_rotate.md R315). -/
def execNotEb (d : Rm Reg8) (s : State) : Result := runInstr (modify8 nothingLost d opNot) s

/-- TEST ew,dw (42_logical_shift_rotate.md R314). -/
def execTestEwDw (d : Rm Reg16) (imm : BitVec 16) (s : State) : Result := runInstr (cmpEwDw opTest d imm) s

/-- NOT ew (42_logical_shift_rotate.md R315). -/
def execNotEw (d : Rm Reg16) (s : State) : Result := runInstr (modify16 nothingLost d opNot) s

end Sys2Proof.Machine
end

