-- ==== Sys2Proof/WellFormed.lean ====
section
/-! DEFINITION. Which terms of `Instr` are instructions: the checks that the types of Syntax.lean leave open. -/

namespace Sys2Proof

/-- mod = 00 with r/m = 110 is the direct address: there is no `[BP]` without displacement (30_encoding.md R190). -/
def Ea.wf : Ea → Bool
  | .noDisp b => b != .bp
  | .direct _ => true
  | .disp8 _ _ => true
  | .disp16 _ _ => true

def Rm.wf {R : Type} : Rm R → Bool
  | .reg _ => true
  | .mem ea => ea.wf

/-- Opcode (bits TTT) and /n of the memory forms that are reserved (49_npx_instructions.md R621, R622). -/
def escReservedMem : List (Nat × Nat) :=
  [(1, 1), (3, 1), (3, 4), (3, 6), (5, 1), (5, 5), (7, 1)]

/-- TTT and bits 5-3 of the second byte, for the register forms reserved whatever bits 2-0 are. -/
def escReservedGroup : List (Nat × Nat) :=
  [(2, 0), (2, 1), (2, 2), (2, 3), (2, 4), (2, 5), (2, 6), (2, 7), (3, 0), (3, 1), (3, 2), (3, 3), (3, 5), (3, 6), (3, 7), (5, 4), (5, 5), (5, 6), (5, 7), (7, 5), (7, 6), (7, 7)]

/-- TTT, bits 5-3 and bits 2-0 of the other reserved register forms. -/
def escReservedReg : List (Nat × Nat × Nat) :=
  [(1, 2, 1), (1, 2, 2), (1, 2, 3), (1, 2, 4), (1, 2, 5), (1, 2, 6), (1, 2, 7), (1, 4, 2), (1, 4, 3), (1, 4, 6), (1, 4, 7), (1, 5, 7), (1, 6, 5), (1, 7, 3), (1, 7, 6), (1, 7, 7), (3, 4, 5), (3, 4, 6), (3, 4, 7), (6, 3, 0), (6, 3, 2), (6, 3, 3), (6, 3, 4), (6, 3, 5), (6, 3, 6), (6, 3, 7), (7, 4, 1), (7, 4, 2), (7, 4, 3), (7, 4, 4), (7, 4, 5), (7, 4, 6), (7, 4, 7)]

/-- An ESC encoding that no other row of the table describes. -/
def escIsReserved (x g : BitVec 3) : Rm (BitVec 3) → Bool
  | .mem _ => escReservedMem.contains (x.toNat, g.toNat)
  | .reg i => escReservedGroup.contains (x.toNat, g.toNat) || escReservedReg.contains (x.toNat, g.toNat, i.toNat)

/-- Well-formed instructions: those that an encoding stands for. -/
def Instr.wf : Instr → Bool
  | .addEbRb d _ => d.wf
  | .addEwRw d _ => d.wf
  | .addRbEb _ d => d.wf
  | .addRwEw _ d => d.wf
  | .addAlDb _ => true
  | .addAxDw _ => true
  | .pushEs => true
  | .popEs => true
  | .orEbRb d _ => d.wf
  | .orEwRw d _ => d.wf
  | .orRbEb _ d => d.wf
  | .orRwEw _ d => d.wf
  | .orAlDb _ => true
  | .orAxDw _ => true
  | .pushCs => true
  | .sldtEw d => d.wf
  | .strEw d => d.wf
  | .lldtEw d => d.wf
  | .ltrEw d => d.wf
  | .verrEw d => d.wf
  | .verwEw d => d.wf
  | .sgdtM ea => ea.wf
  | .sidtM ea => ea.wf
  | .lgdtM ea => ea.wf
  | .lidtM ea => ea.wf
  | .smswEw d => d.wf
  | .lmswEw d => d.wf
  | .larRwEw _ d => d.wf
  | .lslRwEw _ d => d.wf
  | .clts => true
  | .adcEbRb d _ => d.wf
  | .adcEwRw d _ => d.wf
  | .adcRbEb _ d => d.wf
  | .adcRwEw _ d => d.wf
  | .adcAlDb _ => true
  | .adcAxDw _ => true
  | .pushSs => true
  | .popSs => true
  | .sbbEbRb d _ => d.wf
  | .sbbEwRw d _ => d.wf
  | .sbbRbEb _ d => d.wf
  | .sbbRwEw _ d => d.wf
  | .sbbAlDb _ => true
  | .sbbAxDw _ => true
  | .pushDs => true
  | .popDs => true
  | .andEbRb d _ => d.wf
  | .andEwRw d _ => d.wf
  | .andRbEb _ d => d.wf
  | .andRwEw _ d => d.wf
  | .andAlDb _ => true
  | .andAxDw _ => true
  | .pfxEs => true
  | .daa => true
  | .subEbRb d _ => d.wf
  | .subEwRw d _ => d.wf
  | .subRbEb _ d => d.wf
  | .subRwEw _ d => d.wf
  | .subAlDb _ => true
  | .subAxDw _ => true
  | .pfxCs => true
  | .das => true
  | .xorEbRb d _ => d.wf
  | .xorEwRw d _ => d.wf
  | .xorRbEb _ d => d.wf
  | .xorRwEw _ d => d.wf
  | .xorAlDb _ => true
  | .xorAxDw _ => true
  | .pfxSs => true
  | .aaa => true
  | .cmpEbRb d _ => d.wf
  | .cmpEwRw d _ => d.wf
  | .cmpRbEb _ d => d.wf
  | .cmpRwEw _ d => d.wf
  | .cmpAlDb _ => true
  | .cmpAxDw _ => true
  | .pfxDs => true
  | .aas => true
  | .incRw _ => true
  | .decRw _ => true
  | .pushRw _ => true
  | .popRw _ => true
  | .pusha => true
  | .popa => true
  | .boundRwMd _ ea => ea.wf
  | .arplEwRw d _ => d.wf
  | .pushDw _ => true
  | .imulRwEwDw _ d _ => d.wf
  | .pushDb _ => true
  | .imulRwEwDb _ d _ => d.wf
  | .insb => true
  | .insw => true
  | .outsb => true
  | .outsw => true
  | .joCb _ => true
  | .jnoCb _ => true
  | .jbCb _ => true
  | .jnbCb _ => true
  | .jeCb _ => true
  | .jneCb _ => true
  | .jbeCb _ => true
  | .jnbeCb _ => true
  | .jsCb _ => true
  | .jnsCb _ => true
  | .jpCb _ => true
  | .jnpCb _ => true
  | .jlCb _ => true
  | .jnlCb _ => true
  | .jleCb _ => true
  | .jnleCb _ => true
  | .addEbDb d _ => d.wf
  | .orEbDb d _ => d.wf
  | .adcEbDb d _ => d.wf
  | .sbbEbDb d _ => d.wf
  | .andEbDb d _ => d.wf
  | .subEbDb d _ => d.wf
  | .xorEbDb d _ => d.wf
  | .cmpEbDb d _ => d.wf
  | .addEwDw d _ => d.wf
  | .orEwDw d _ => d.wf
  | .adcEwDw d _ => d.wf
  | .sbbEwDw d _ => d.wf
  | .andEwDw d _ => d.wf
  | .subEwDw d _ => d.wf
  | .xorEwDw d _ => d.wf
  | .cmpEwDw d _ => d.wf
  | .addEwDb d _ => d.wf
  | .adcEwDb d _ => d.wf
  | .sbbEwDb d _ => d.wf
  | .subEwDb d _ => d.wf
  | .cmpEwDb d _ => d.wf
  | .testEbRb d _ => d.wf
  | .testEwRw d _ => d.wf
  | .xchgEbRb d _ => d.wf
  | .xchgEwRw d _ => d.wf
  | .movEbRb d _ => d.wf
  | .movEwRw d _ => d.wf
  | .movRbEb _ d => d.wf
  | .movRwEw _ d => d.wf
  | .movEwSreg d _ => d.wf
  | .leaRwM _ ea => ea.wf
  | .movEsEw d => d.wf
  | .movSsEw d => d.wf
  | .movDsEw d => d.wf
  | .popMw d => d.wf
  | .nop => true
  | .xchgAxRw r => r != .ax
  | .cbw => true
  | .cwd => true
  | .callCd _ _ => true
  | .wait => true
  | .pushf => true
  | .popf => true
  | .sahf => true
  | .lahf => true
  | .movAlXb _ => true
  | .movAxXw _ => true
  | .movXbAl _ => true
  | .movXwAx _ => true
  | .movsb => true
  | .movsw => true
  | .cmpsb => true
  | .cmpsw => true
  | .testAlDb _ => true
  | .testAxDw _ => true
  | .stosb => true
  | .stosw => true
  | .lodsb => true
  | .lodsw => true
  | .scasb => true
  | .scasw => true
  | .movRbDb _ _ => true
  | .movRwDw _ _ => true
  | .rolEbDb d _ => d.wf
  | .rorEbDb d _ => d.wf
  | .rclEbDb d _ => d.wf
  | .rcrEbDb d _ => d.wf
  | .salEbDb d _ => d.wf
  | .shrEbDb d _ => d.wf
  | .sarEbDb d _ => d.wf
  | .rolEwDb d _ => d.wf
  | .rorEwDb d _ => d.wf
  | .rclEwDb d _ => d.wf
  | .rcrEwDb d _ => d.wf
  | .salEwDb d _ => d.wf
  | .shrEwDb d _ => d.wf
  | .sarEwDb d _ => d.wf
  | .retNearDw _ => true
  | .retNear => true
  | .lesRwEd _ ea => ea.wf
  | .ldsRwEd _ ea => ea.wf
  | .movEbDb d _ => d.wf
  | .movEwDw d _ => d.wf
  | .enterDwDb _ _ => true
  | .leave => true
  | .retFarDw _ => true
  | .retFar => true
  | .int3 => true
  | .intDb _ => true
  | .into => true
  | .iret => true
  | .rolEb1 d => d.wf
  | .rorEb1 d => d.wf
  | .rclEb1 d => d.wf
  | .rcrEb1 d => d.wf
  | .salEb1 d => d.wf
  | .shrEb1 d => d.wf
  | .sarEb1 d => d.wf
  | .rolEw1 d => d.wf
  | .rorEw1 d => d.wf
  | .rclEw1 d => d.wf
  | .rcrEw1 d => d.wf
  | .salEw1 d => d.wf
  | .shrEw1 d => d.wf
  | .sarEw1 d => d.wf
  | .rolEbCl d => d.wf
  | .rorEbCl d => d.wf
  | .rclEbCl d => d.wf
  | .rcrEbCl d => d.wf
  | .salEbCl d => d.wf
  | .shrEbCl d => d.wf
  | .sarEbCl d => d.wf
  | .rolEwCl d => d.wf
  | .rorEwCl d => d.wf
  | .rclEwCl d => d.wf
  | .rcrEwCl d => d.wf
  | .salEwCl d => d.wf
  | .shrEwCl d => d.wf
  | .sarEwCl d => d.wf
  | .aam => true
  | .aad => true
  | .xlat => true
  | .loopneCb _ => true
  | .loopeCb _ => true
  | .loopCb _ => true
  | .jcxzCb _ => true
  | .inAlDb _ => true
  | .inAxDb _ => true
  | .outDbAl _ => true
  | .outDbAx _ => true
  | .callCw _ => true
  | .jmpCw _ => true
  | .jmpCd _ _ => true
  | .jmpCb _ => true
  | .inAlDx => true
  | .inAxDx => true
  | .outDxAl => true
  | .outDxAx => true
  | .pfxLock => true
  | .pfxRepne => true
  | .pfxRep => true
  | .hlt => true
  | .cmc => true
  | .testEbDb d _ => d.wf
  | .notEb d => d.wf
  | .negEb d => d.wf
  | .mulEb d => d.wf
  | .imulEb d => d.wf
  | .divEb d => d.wf
  | .idivEb d => d.wf
  | .testEwDw d _ => d.wf
  | .notEw d => d.wf
  | .negEw d => d.wf
  | .mulEw d => d.wf
  | .imulEw d => d.wf
  | .divEw d => d.wf
  | .idivEw d => d.wf
  | .clc => true
  | .stc => true
  | .cli => true
  | .sti => true
  | .cld => true
  | .std => true
  | .incEb d => d.wf
  | .decEb d => d.wf
  | .incEw d => d.wf
  | .decEw d => d.wf
  | .callEw d => d.wf
  | .callEd ea => ea.wf
  | .jmpEw d => d.wf
  | .jmpEd ea => ea.wf
  | .pushMw d => d.wf
  | .faddM32real ea => ea.wf
  | .fmulM32real ea => ea.wf
  | .fcomM32real ea => ea.wf
  | .fcompM32real ea => ea.wf
  | .fsubM32real ea => ea.wf
  | .fsubrM32real ea => ea.wf
  | .fdivM32real ea => ea.wf
  | .fdivrM32real ea => ea.wf
  | .faddStSti _ => true
  | .fmulStSti _ => true
  | .fcomSti _ => true
  | .fcompSti _ => true
  | .fsubStSti _ => true
  | .fsubrStSti _ => true
  | .fdivStSti _ => true
  | .fdivrStSti _ => true
  | .fldM32real ea => ea.wf
  | .fstM32real ea => ea.wf
  | .fstpM32real ea => ea.wf
  | .fldenvM14byte ea => ea.wf
  | .fldcwM2byte ea => ea.wf
  | .fnstenvM14byte ea => ea.wf
  | .fnstcwM2byte ea => ea.wf
  | .fldSti _ => true
  | .fxchSti _ => true
  | .fnop => true
  | .fstpStiD9 _ => true
  | .fchs => true
  | .fabs => true
  | .ftst => true
  | .fxam => true
  | .fld1 => true
  | .fldl2t => true
  | .fldl2e => true
  | .fldpi => true
  | .fldlg2 => true
  | .fldln2 => true
  | .fldz => true
  | .f2xm1 => true
  | .fyl2x => true
  | .fptan => true
  | .fpatan => true
  | .fxtract => true
  | .fdecstp => true
  | .fincstp => true
  | .fprem => true
  | .fyl2xp1 => true
  | .fsqrt => true
  | .frndint => true
  | .fscale => true
  | .fiaddM32int ea => ea.wf
  | .fimulM32int ea => ea.wf
  | .ficomM32int ea => ea.wf
  | .ficompM32int ea => ea.wf
  | .fisubM32int ea => ea.wf
  | .fisubrM32int ea => ea.wf
  | .fidivM32int ea => ea.wf
  | .fidivrM32int ea => ea.wf
  | .fildM32int ea => ea.wf
  | .fistM32int ea => ea.wf
  | .fistpM32int ea => ea.wf
  | .fldM80real ea => ea.wf
  | .fstpM80real ea => ea.wf
  | .fneni => true
  | .fndisi => true
  | .fnclex => true
  | .fninit => true
  | .fsetpm => true
  | .faddM64real ea => ea.wf
  | .fmulM64real ea => ea.wf
  | .fcomM64real ea => ea.wf
  | .fcompM64real ea => ea.wf
  | .fsubM64real ea => ea.wf
  | .fsubrM64real ea => ea.wf
  | .fdivM64real ea => ea.wf
  | .fdivrM64real ea => ea.wf
  | .faddStiSt _ => true
  | .fmulStiSt _ => true
  | .fcomStiDC _ => true
  | .fcompStiDC _ => true
  | .fsubrStiSt _ => true
  | .fsubStiSt _ => true
  | .fdivrStiSt _ => true
  | .fdivStiSt _ => true
  | .fldM64real ea => ea.wf
  | .fstM64real ea => ea.wf
  | .fstpM64real ea => ea.wf
  | .frstorM94byte ea => ea.wf
  | .fnsaveM94byte ea => ea.wf
  | .fnstswM2byte ea => ea.wf
  | .ffreeSti _ => true
  | .fxchStiDD _ => true
  | .fstSti _ => true
  | .fstpSti _ => true
  | .fiaddM16int ea => ea.wf
  | .fimulM16int ea => ea.wf
  | .ficomM16int ea => ea.wf
  | .ficompM16int ea => ea.wf
  | .fisubM16int ea => ea.wf
  | .fisubrM16int ea => ea.wf
  | .fidivM16int ea => ea.wf
  | .fidivrM16int ea => ea.wf
  | .faddpStiSt _ => true
  | .fmulpStiSt _ => true
  | .fcompStiDE _ => true
  | .fcompp => true
  | .fsubrpStiSt _ => true
  | .fsubpStiSt _ => true
  | .fdivrpStiSt _ => true
  | .fdivpStiSt _ => true
  | .fildM16int ea => ea.wf
  | .fistM16int ea => ea.wf
  | .fistpM16int ea => ea.wf
  | .fbldM80dec ea => ea.wf
  | .fildM64int ea => ea.wf
  | .fbstpM80dec ea => ea.wf
  | .fistpM64int ea => ea.wf
  | .ffreeStiDF _ => true
  | .fxchStiDF _ => true
  | .fstpStiDFD0 _ => true
  | .fstpStiDFD8 _ => true
  | .fnstswAx => true
  | .escReserved x g d => d.wf && escIsReserved x g d

end Sys2Proof
end

