-- ==== Sys2Proof/Decode.lean ====
section
/-! DEFINITION. Decoding, total on every byte sequence (30_encoding.md R180 to R203; 49_npx_instructions.md R621), and
after it the encoder, written from the same encoding tables. -/

namespace Sys2Proof

/- Lean's code generator represents at most 244 constructors with fields in one type, and `Instr` has more, so it makes no
code for the definitions that build one. Nothing in this file needs code: the kernel evaluates all of it. -/
noncomputable section

/-! ### Register numbers -/

def Reg16.ofCode (c : BitVec 3) : Reg16 :=
  match c.toNat with
  | 0 => .ax | 1 => .cx | 2 => .dx | 3 => .bx | 4 => .sp | 5 => .bp | 6 => .si | _ => .di

def Reg16.code : Reg16 → BitVec 3
  | .ax => 0 | .cx => 1 | .dx => 2 | .bx => 3 | .sp => 4 | .bp => 5 | .si => 6 | .di => 7

def Reg8.ofCode (c : BitVec 3) : Reg8 :=
  match c.toNat with
  | 0 => .al | 1 => .cl | 2 => .dl | 3 => .bl | 4 => .ah | 5 => .ch | 6 => .dh | _ => .bh

def Reg8.code : Reg8 → BitVec 3
  | .al => 0 | .cl => 1 | .dl => 2 | .bl => 3 | .ah => 4 | .ch => 5 | .dh => 6 | .bh => 7

def SegReg.ofCode (c : BitVec 2) : SegReg :=
  match c.toNat with
  | 0 => .es | 1 => .cs | 2 => .ss | _ => .ds

def SegReg.code : SegReg → BitVec 2
  | .es => 0 | .cs => 1 | .ss => 2 | .ds => 3

def EaBase.ofCode (c : BitVec 3) : EaBase :=
  match c.toNat with
  | 0 => .bxSi | 1 => .bxDi | 2 => .bpSi | 3 => .bpDi | 4 => .si | 5 => .di | 6 => .bp | _ => .bx

def EaBase.code : EaBase → BitVec 3
  | .bxSi => 0 | .bxDi => 1 | .bpSi => 2 | .bpDi => 3 | .si => 4 | .di => 5 | .bp => 6 | .bx => 7

/-! ### Reading an instruction's bytes -/

/-- Why no instruction is read. -/
inductive DecodeError where
  /-- an encoding that no page describes: #UD (R200) -/
  | undefinedOpcode
  /-- 8FH /1 to /7 and FFH /7: exception 13 (R200) -/
  | general
  /-- the bytes end before the instruction does -/
  | short
  deriving DecidableEq, Repr

/-- What `decode` reads from a byte sequence. -/
inductive Decoded where
  /-- an instruction (or one prefix byte) and how many bytes it takes -/
  | ok (i : Instr) (length : Nat)
  | error (e : DecodeError)
  deriving DecidableEq, Repr

/-- A reader of the bytes that follow. -/
abbrev Parse := EStateM DecodeError (List Byte)

def nextByte : Parse Byte
  | [] => .error .short []
  | b :: rest => .ok b rest

/-- A displacement or immediate word, low byte first (R180). -/
def nextWord : Parse Word := do
  let lo ← nextByte
  let hi ← nextByte
  return Word.of hi lo

/-- The ModRM byte (R189). -/
structure ModRm where
  mod : BitVec 2
  reg : BitVec 3
  rm : BitVec 3
  deriving DecidableEq, Repr

def ModRm.ofByte (b : Byte) : ModRm :=
  ⟨b.extractLsb' 6 2, b.extractLsb' 3 3, b.extractLsb' 0 3⟩

def nextModRm : Parse ModRm := do
  let b ← nextByte
  return ModRm.ofByte b

/-- The memory operand that a ModRM byte with mod ≠ 11 begins (R189, R190). A form that needs memory refuses
mod = 11 before it reads on (R200 case 5). -/
def nextEa (m : ModRm) : Parse Ea :=
  match m.mod.toNat with
  | 0 => if m.rm = 6 then do
      let d ← nextWord
      return .direct d
    else return .noDisp (EaBase.ofCode m.rm)
  | 1 => do
    let d ← nextByte
    return .disp8 (EaBase.ofCode m.rm) d
  | 2 => do
    let d ← nextWord
    return .disp16 (EaBase.ofCode m.rm) d
  | _ => throw .undefinedOpcode

/-- The register-or-memory operand of a ModRM byte (R189). -/
def nextRm {R : Type} (ofCode : BitVec 3 → R) (m : ModRm) : Parse (Rm R) :=
  if m.mod = 3 then return .reg (ofCode m.rm)
  else do
    let ea ← nextEa m
    return .mem ea

/-! ### Operand shapes -/

def rm8 (m : ModRm) (k : Rm Reg8 → Instr) : Parse Instr := do
  let d ← nextRm Reg8.ofCode m
  return k d

def rm16 (m : ModRm) (k : Rm Reg16 → Instr) : Parse Instr := do
  let d ← nextRm Reg16.ofCode m
  return k d

def rm8Imm8 (m : ModRm) (k : Rm Reg8 → Byte → Instr) : Parse Instr := do
  let d ← nextRm Reg8.ofCode m
  let v ← nextByte
  return k d v

def rm16Imm16 (m : ModRm) (k : Rm Reg16 → Word → Instr) : Parse Instr := do
  let d ← nextRm Reg16.ofCode m
  let v ← nextWord
  return k d v

def rm16Imm8 (m : ModRm) (k : Rm Reg16 → Byte → Instr) : Parse Instr := do
  let d ← nextRm Reg16.ofCode m
  let v ← nextByte
  return k d v

def memOnly (m : ModRm) (k : Ea → Instr) : Parse Instr := do
  let ea ← nextEa m
  return k ea

/-- `/r` forms: the r/m operand and the register of the reg field. -/
def rm8Reg (k : Rm Reg8 → Reg8 → Instr) : Parse Instr := do
  let m ← nextModRm
  rm8 m (fun d => k d (Reg8.ofCode m.reg))

def rm16Reg (k : Rm Reg16 → Reg16 → Instr) : Parse Instr := do
  let m ← nextModRm
  rm16 m (fun d => k d (Reg16.ofCode m.reg))

def regMem (k : Reg16 → Ea → Instr) : Parse Instr := do
  let m ← nextModRm
  memOnly m (k (Reg16.ofCode m.reg))

def imm8 (k : Byte → Instr) : Parse Instr := do
  let v ← nextByte
  return k v

def imm16 (k : Word → Instr) : Parse Instr := do
  let v ← nextWord
  return k v

/-- A far pointer in the instruction: offset, then selector (R195). -/
def farPtr (k : Word → Word → Instr) : Parse Instr := do
  let off ← nextWord
  let sel ← nextWord
  return k off sel

/-- 8FH /1 to /7 and FFH /7: the ModRM byte and its displacement are fetched, then exception 13 (R200). -/
def generalFault (m : ModRm) : Parse Instr := do
  let _ ← nextRm Reg16.ofCode m
  throw .general

def undefinedOp : Parse Instr := throw .undefinedOpcode

/-- ESC with a memory operand: TTT and /n select (49_npx_instructions.md R621). -/
def escMem (x g : Nat) (ea : Ea) : Instr :=
  match x, g with
  | 0, 0 => .faddM32real ea
  | 0, 1 => .fmulM32real ea
  | 0, 2 => .fcomM32real ea
  | 0, 3 => .fcompM32real ea
  | 0, 4 => .fsubM32real ea
  | 0, 5 => .fsubrM32real ea
  | 0, 6 => .fdivM32real ea
  | 0, 7 => .fdivrM32real ea
  | 1, 0 => .fldM32real ea
  | 1, 2 => .fstM32real ea
  | 1, 3 => .fstpM32real ea
  | 1, 4 => .fldenvM14byte ea
  | 1, 5 => .fldcwM2byte ea
  | 1, 6 => .fnstenvM14byte ea
  | 1, 7 => .fnstcwM2byte ea
  | 2, 0 => .fiaddM32int ea
  | 2, 1 => .fimulM32int ea
  | 2, 2 => .ficomM32int ea
  | 2, 3 => .ficompM32int ea
  | 2, 4 => .fisubM32int ea
  | 2, 5 => .fisubrM32int ea
  | 2, 6 => .fidivM32int ea
  | 2, 7 => .fidivrM32int ea
  | 3, 0 => .fildM32int ea
  | 3, 2 => .fistM32int ea
  | 3, 3 => .fistpM32int ea
  | 3, 5 => .fldM80real ea
  | 3, 7 => .fstpM80real ea
  | 4, 0 => .faddM64real ea
  | 4, 1 => .fmulM64real ea
  | 4, 2 => .fcomM64real ea
  | 4, 3 => .fcompM64real ea
  | 4, 4 => .fsubM64real ea
  | 4, 5 => .fsubrM64real ea
  | 4, 6 => .fdivM64real ea
  | 4, 7 => .fdivrM64real ea
  | 5, 0 => .fldM64real ea
  | 5, 2 => .fstM64real ea
  | 5, 3 => .fstpM64real ea
  | 5, 4 => .frstorM94byte ea
  | 5, 6 => .fnsaveM94byte ea
  | 5, 7 => .fnstswM2byte ea
  | 6, 0 => .fiaddM16int ea
  | 6, 1 => .fimulM16int ea
  | 6, 2 => .ficomM16int ea
  | 6, 3 => .ficompM16int ea
  | 6, 4 => .fisubM16int ea
  | 6, 5 => .fisubrM16int ea
  | 6, 6 => .fidivM16int ea
  | 6, 7 => .fidivrM16int ea
  | 7, 0 => .fildM16int ea
  | 7, 2 => .fistM16int ea
  | 7, 3 => .fistpM16int ea
  | 7, 4 => .fbldM80dec ea
  | 7, 5 => .fildM64int ea
  | 7, 6 => .fbstpM80dec ea
  | 7, 7 => .fistpM64int ea
  | _, _ => .escReserved (BitVec.ofNat 3 x) (BitVec.ofNat 3 g) (.mem ea)

/-- ESC with mod = 11: TTT, bits 5-3 and, where a row names no ST(i), bits 2-0 select (R621). -/
def escReg (x g : Nat) (i : BitVec 3) : Instr :=
  match x, g, i.toNat with
  | 0, 0, _ => .faddStSti i
  | 0, 1, _ => .fmulStSti i
  | 0, 2, _ => .fcomSti i
  | 0, 3, _ => .fcompSti i
  | 0, 4, _ => .fsubStSti i
  | 0, 5, _ => .fsubrStSti i
  | 0, 6, _ => .fdivStSti i
  | 0, 7, _ => .fdivrStSti i
  | 1, 0, _ => .fldSti i
  | 1, 1, _ => .fxchSti i
  | 1, 2, 0 => .fnop
  | 1, 3, _ => .fstpStiD9 i
  | 1, 4, 0 => .fchs
  | 1, 4, 1 => .fabs
  | 1, 4, 4 => .ftst
  | 1, 4, 5 => .fxam
  | 1, 5, 0 => .fld1
  | 1, 5, 1 => .fldl2t
  | 1, 5, 2 => .fldl2e
  | 1, 5, 3 => .fldpi
  | 1, 5, 4 => .fldlg2
  | 1, 5, 5 => .fldln2
  | 1, 5, 6 => .fldz
  | 1, 6, 0 => .f2xm1
  | 1, 6, 1 => .fyl2x
  | 1, 6, 2 => .fptan
  | 1, 6, 3 => .fpatan
  | 1, 6, 4 => .fxtract
  | 1, 6, 6 => .fdecstp
  | 1, 6, 7 => .fincstp
  | 1, 7, 0 => .fprem
  | 1, 7, 1 => .fyl2xp1
  | 1, 7, 2 => .fsqrt
  | 1, 7, 4 => .frndint
  | 1, 7, 5 => .fscale
  | 3, 4, 0 => .fneni
  | 3, 4, 1 => .fndisi
  | 3, 4, 2 => .fnclex
  | 3, 4, 3 => .fninit
  | 3, 4, 4 => .fsetpm
  | 4, 0, _ => .faddStiSt i
  | 4, 1, _ => .fmulStiSt i
  | 4, 2, _ => .fcomStiDC i
  | 4, 3, _ => .fcompStiDC i
  | 4, 4, _ => .fsubrStiSt i
  | 4, 5, _ => .fsubStiSt i
  | 4, 6, _ => .fdivrStiSt i
  | 4, 7, _ => .fdivStiSt i
  | 5, 0, _ => .ffreeSti i
  | 5, 1, _ => .fxchStiDD i
  | 5, 2, _ => .fstSti i
  | 5, 3, _ => .fstpSti i
  | 6, 0, _ => .faddpStiSt i
  | 6, 1, _ => .fmulpStiSt i
  | 6, 2, _ => .fcompStiDE i
  | 6, 3, 1 => .fcompp
  | 6, 4, _ => .fsubrpStiSt i
  | 6, 5, _ => .fsubpStiSt i
  | 6, 6, _ => .fdivrpStiSt i
  | 6, 7, _ => .fdivpStiSt i
  | 7, 0, _ => .ffreeStiDF i
  | 7, 1, _ => .fxchStiDF i
  | 7, 2, _ => .fstpStiDFD0 i
  | 7, 3, _ => .fstpStiDFD8 i
  | 7, 4, 0 => .fnstswAx
  | _, _, _ => .escReserved (BitVec.ofNat 3 x) (BitVec.ofNat 3 g) (.reg i)

/-- The ESC opcodes D8H + x (R201): every second byte is an instruction. -/
def decodeEsc (x : Nat) : Parse Instr := do
  let m ← nextModRm
  let d ← nextRm id m
  match d with
  | .mem ea => return escMem x m.reg.toNat ea
  | .reg i => return escReg x m.reg.toNat i

/-- The second opcode byte after 0FH (R198). -/
def decodeTwoByte : Parse Instr := do
  let b ← nextByte
  match b.toNat with
  | 0 => do
    let m ← nextModRm
    match m.reg.toNat with
    | 0 => rm16 m .sldtEw
    | 1 => rm16 m .strEw
    | 2 => rm16 m .lldtEw
    | 3 => rm16 m .ltrEw
    | 4 => rm16 m .verrEw
    | 5 => rm16 m .verwEw
    | 6 => undefinedOp
    | _ => undefinedOp
  | 1 => do
    let m ← nextModRm
    match m.reg.toNat with
    | 0 => memOnly m .sgdtM
    | 1 => memOnly m .sidtM
    | 2 => memOnly m .lgdtM
    | 3 => memOnly m .lidtM
    | 4 => rm16 m .smswEw
    | 5 => undefinedOp
    | 6 => rm16 m .lmswEw
    | _ => undefinedOp
  | 2 => rm16Reg (fun d r => .larRwEw r d)
  | 3 => rm16Reg (fun d r => .lslRwEw r d)
  | 6 => pure .clts
  | _ => undefinedOp

/-- First opcode bytes 00H to 0FH, by their low digit (R197, R199). -/
def decodeRow0 (lo : Nat) : Parse Instr :=
  match lo with
  | 0 => rm8Reg .addEbRb
  | 1 => rm16Reg .addEwRw
  | 2 => rm8Reg (fun d r => .addRbEb r d)
  | 3 => rm16Reg (fun d r => .addRwEw r d)
  | 4 => imm8 .addAlDb
  | 5 => imm16 .addAxDw
  | 6 => pure .pushEs
  | 7 => pure .popEs
  | 8 => rm8Reg .orEbRb
  | 9 => rm16Reg .orEwRw
  | 10 => rm8Reg (fun d r => .orRbEb r d)
  | 11 => rm16Reg (fun d r => .orRwEw r d)
  | 12 => imm8 .orAlDb
  | 13 => imm16 .orAxDw
  | 14 => pure .pushCs
  | _ => decodeTwoByte

/-- First opcode bytes 10H to 1FH, by their low digit (R197, R199). -/
def decodeRow1 (lo : Nat) : Parse Instr :=
  match lo with
  | 0 => rm8Reg .adcEbRb
  | 1 => rm16Reg .adcEwRw
  | 2 => rm8Reg (fun d r => .adcRbEb r d)
  | 3 => rm16Reg (fun d r => .adcRwEw r d)
  | 4 => imm8 .adcAlDb
  | 5 => imm16 .adcAxDw
  | 6 => pure .pushSs
  | 7 => pure .popSs
  | 8 => rm8Reg .sbbEbRb
  | 9 => rm16Reg .sbbEwRw
  | 10 => rm8Reg (fun d r => .sbbRbEb r d)
  | 11 => rm16Reg (fun d r => .sbbRwEw r d)
  | 12 => imm8 .sbbAlDb
  | 13 => imm16 .sbbAxDw
  | 14 => pure .pushDs
  | _ => pure .popDs

/-- First opcode bytes 20H to 2FH, by their low digit (R197, R199). -/
def decodeRow2 (lo : Nat) : Parse Instr :=
  match lo with
  | 0 => rm8Reg .andEbRb
  | 1 => rm16Reg .andEwRw
  | 2 => rm8Reg (fun d r => .andRbEb r d)
  | 3 => rm16Reg (fun d r => .andRwEw r d)
  | 4 => imm8 .andAlDb
  | 5 => imm16 .andAxDw
  | 6 => pure .pfxEs
  | 7 => pure .daa
  | 8 => rm8Reg .subEbRb
  | 9 => rm16Reg .subEwRw
  | 10 => rm8Reg (fun d r => .subRbEb r d)
  | 11 => rm16Reg (fun d r => .subRwEw r d)
  | 12 => imm8 .subAlDb
  | 13 => imm16 .subAxDw
  | 14 => pure .pfxCs
  | _ => pure .das

/-- First opcode bytes 30H to 3FH, by their low digit (R197, R199). -/
def decodeRow3 (lo : Nat) : Parse Instr :=
  match lo with
  | 0 => rm8Reg .xorEbRb
  | 1 => rm16Reg .xorEwRw
  | 2 => rm8Reg (fun d r => .xorRbEb r d)
  | 3 => rm16Reg (fun d r => .xorRwEw r d)
  | 4 => imm8 .xorAlDb
  | 5 => imm16 .xorAxDw
  | 6 => pure .pfxSs
  | 7 => pure .aaa
  | 8 => rm8Reg .cmpEbRb
  | 9 => rm16Reg .cmpEwRw
  | 10 => rm8Reg (fun d r => .cmpRbEb r d)
  | 11 => rm16Reg (fun d r => .cmpRwEw r d)
  | 12 => imm8 .cmpAlDb
  | 13 => imm16 .cmpAxDw
  | 14 => pure .pfxDs
  | _ => pure .aas

/-- First opcode bytes 40H to 4FH, by their low digit (R197, R199). -/
def decodeRow4 (lo : Nat) : Parse Instr :=
  match lo with
  | 0 => pure (.incRw .ax)
  | 1 => pure (.incRw .cx)
  | 2 => pure (.incRw .dx)
  | 3 => pure (.incRw .bx)
  | 4 => pure (.incRw .sp)
  | 5 => pure (.incRw .bp)
  | 6 => pure (.incRw .si)
  | 7 => pure (.incRw .di)
  | 8 => pure (.decRw .ax)
  | 9 => pure (.decRw .cx)
  | 10 => pure (.decRw .dx)
  | 11 => pure (.decRw .bx)
  | 12 => pure (.decRw .sp)
  | 13 => pure (.decRw .bp)
  | 14 => pure (.decRw .si)
  | _ => pure (.decRw .di)

/-- First opcode bytes 50H to 5FH, by their low digit (R197, R199). -/
def decodeRow5 (lo : Nat) : Parse Instr :=
  match lo with
  | 0 => pure (.pushRw .ax)
  | 1 => pure (.pushRw .cx)
  | 2 => pure (.pushRw .dx)
  | 3 => pure (.pushRw .bx)
  | 4 => pure (.pushRw .sp)
  | 5 => pure (.pushRw .bp)
  | 6 => pure (.pushRw .si)
  | 7 => pure (.pushRw .di)
  | 8 => pure (.popRw .ax)
  | 9 => pure (.popRw .cx)
  | 10 => pure (.popRw .dx)
  | 11 => pure (.popRw .bx)
  | 12 => pure (.popRw .sp)
  | 13 => pure (.popRw .bp)
  | 14 => pure (.popRw .si)
  | _ => pure (.popRw .di)

/-- First opcode bytes 60H to 6FH, by their low digit (R197, R199). -/
def decodeRow6 (lo : Nat) : Parse Instr :=
  match lo with
  | 0 => pure .pusha
  | 1 => pure .popa
  | 2 => regMem .boundRwMd
  | 3 => rm16Reg .arplEwRw
  | 4 => undefinedOp
  | 5 => undefinedOp
  | 6 => undefinedOp
  | 7 => undefinedOp
  | 8 => imm16 .pushDw
  | 9 => do
      let m ← nextModRm
      rm16Imm16 m (.imulRwEwDw (Reg16.ofCode m.reg))
  | 10 => imm8 .pushDb
  | 11 => do
      let m ← nextModRm
      rm16Imm8 m (.imulRwEwDb (Reg16.ofCode m.reg))
  | 12 => pure .insb
  | 13 => pure .insw
  | 14 => pure .outsb
  | _ => pure .outsw

/-- First opcode bytes 70H to 7FH, by their low digit (R197, R199). -/
def decodeRow7 (lo : Nat) : Parse Instr :=
  match lo with
  | 0 => imm8 .joCb
  | 1 => imm8 .jnoCb
  | 2 => imm8 .jbCb
  | 3 => imm8 .jnbCb
  | 4 => imm8 .jeCb
  | 5 => imm8 .jneCb
  | 6 => imm8 .jbeCb
  | 7 => imm8 .jnbeCb
  | 8 => imm8 .jsCb
  | 9 => imm8 .jnsCb
  | 10 => imm8 .jpCb
  | 11 => imm8 .jnpCb
  | 12 => imm8 .jlCb
  | 13 => imm8 .jnlCb
  | 14 => imm8 .jleCb
  | _ => imm8 .jnleCb

/-- First opcode bytes 80H to 8FH, by their low digit (R197, R199). -/
def decodeRow8 (lo : Nat) : Parse Instr :=
  match lo with
  | 0 => do
      let m ← nextModRm
      match m.reg.toNat with
      | 0 => rm8Imm8 m .addEbDb
      | 1 => rm8Imm8 m .orEbDb
      | 2 => rm8Imm8 m .adcEbDb
      | 3 => rm8Imm8 m .sbbEbDb
      | 4 => rm8Imm8 m .andEbDb
      | 5 => rm8Imm8 m .subEbDb
      | 6 => rm8Imm8 m .xorEbDb
      | _ => rm8Imm8 m .cmpEbDb
  | 1 => do
      let m ← nextModRm
      match m.reg.toNat with
      | 0 => rm16Imm16 m .addEwDw
      | 1 => rm16Imm16 m .orEwDw
      | 2 => rm16Imm16 m .adcEwDw
      | 3 => rm16Imm16 m .sbbEwDw
      | 4 => rm16Imm16 m .andEwDw
      | 5 => rm16Imm16 m .subEwDw
      | 6 => rm16Imm16 m .xorEwDw
      | _ => rm16Imm16 m .cmpEwDw
  | 2 => undefinedOp
  | 3 => do
      let m ← nextModRm
      match m.reg.toNat with
      | 0 => rm16Imm8 m .addEwDb
      | 1 => undefinedOp
      | 2 => rm16Imm8 m .adcEwDb
      | 3 => rm16Imm8 m .sbbEwDb
      | 4 => undefinedOp
      | 5 => rm16Imm8 m .subEwDb
      | 6 => undefinedOp
      | _ => rm16Imm8 m .cmpEwDb
  | 4 => rm8Reg .testEbRb
  | 5 => rm16Reg .testEwRw
  | 6 => rm8Reg .xchgEbRb
  | 7 => rm16Reg .xchgEwRw
  | 8 => rm8Reg .movEbRb
  | 9 => rm16Reg .movEwRw
  | 10 => rm8Reg (fun d r => .movRbEb r d)
  | 11 => rm16Reg (fun d r => .movRwEw r d)
  | 12 => do
      let m ← nextModRm
      if m.reg.toNat < 4 then rm16 m (fun d => .movEwSreg d (SegReg.ofCode (m.reg.extractLsb' 0 2)))
      else undefinedOp
  | 13 => regMem .leaRwM
  | 14 => do
      let m ← nextModRm
      match m.reg.toNat with
      | 0 => rm16 m .movEsEw
      | 1 => undefinedOp
      | 2 => rm16 m .movSsEw
      | 3 => rm16 m .movDsEw
      | 4 => undefinedOp
      | 5 => undefinedOp
      | 6 => undefinedOp
      | _ => undefinedOp
  | _ => do
      let m ← nextModRm
      match m.reg.toNat with
      | 0 => rm16 m .popMw
      | 1 => generalFault m
      | 2 => generalFault m
      | 3 => generalFault m
      | 4 => generalFault m
      | 5 => generalFault m
      | 6 => generalFault m
      | _ => generalFault m

/-- First opcode bytes 90H to 9FH, by their low digit (R197, R199). -/
def decodeRow9 (lo : Nat) : Parse Instr :=
  match lo with
  | 0 => pure .nop
  | 1 => pure (.xchgAxRw .cx)
  | 2 => pure (.xchgAxRw .dx)
  | 3 => pure (.xchgAxRw .bx)
  | 4 => pure (.xchgAxRw .sp)
  | 5 => pure (.xchgAxRw .bp)
  | 6 => pure (.xchgAxRw .si)
  | 7 => pure (.xchgAxRw .di)
  | 8 => pure .cbw
  | 9 => pure .cwd
  | 10 => farPtr .callCd
  | 11 => pure .wait
  | 12 => pure .pushf
  | 13 => pure .popf
  | 14 => pure .sahf
  | _ => pure .lahf

/-- First opcode bytes A0H to AFH, by their low digit (R197, R199). -/
def decodeRowA (lo : Nat) : Parse Instr :=
  match lo with
  | 0 => imm16 .movAlXb
  | 1 => imm16 .movAxXw
  | 2 => imm16 .movXbAl
  | 3 => imm16 .movXwAx
  | 4 => pure .movsb
  | 5 => pure .movsw
  | 6 => pure .cmpsb
  | 7 => pure .cmpsw
  | 8 => imm8 .testAlDb
  | 9 => imm16 .testAxDw
  | 10 => pure .stosb
  | 11 => pure .stosw
  | 12 => pure .lodsb
  | 13 => pure .lodsw
  | 14 => pure .scasb
  | _ => pure .scasw

/-- First opcode bytes B0H to BFH, by their low digit (R197, R199). -/
def decodeRowB (lo : Nat) : Parse Instr :=
  match lo with
  | 0 => imm8 (.movRbDb .al)
  | 1 => imm8 (.movRbDb .cl)
  | 2 => imm8 (.movRbDb .dl)
  | 3 => imm8 (.movRbDb .bl)
  | 4 => imm8 (.movRbDb .ah)
  | 5 => imm8 (.movRbDb .ch)
  | 6 => imm8 (.movRbDb .dh)
  | 7 => imm8 (.movRbDb .bh)
  | 8 => imm16 (.movRwDw .ax)
  | 9 => imm16 (.movRwDw .cx)
  | 10 => imm16 (.movRwDw .dx)
  | 11 => imm16 (.movRwDw .bx)
  | 12 => imm16 (.movRwDw .sp)
  | 13 => imm16 (.movRwDw .bp)
  | 14 => imm16 (.movRwDw .si)
  | _ => imm16 (.movRwDw .di)

/-- First opcode bytes C0H to CFH, by their low digit (R197, R199). -/
def decodeRowC (lo : Nat) : Parse Instr :=
  match lo with
  | 0 => do
      let m ← nextModRm
      match m.reg.toNat with
      | 0 => rm8Imm8 m .rolEbDb
      | 1 => rm8Imm8 m .rorEbDb
      | 2 => rm8Imm8 m .rclEbDb
      | 3 => rm8Imm8 m .rcrEbDb
      | 4 => rm8Imm8 m .salEbDb
      | 5 => rm8Imm8 m .shrEbDb
      | 6 => undefinedOp
      | _ => rm8Imm8 m .sarEbDb
  | 1 => do
      let m ← nextModRm
      match m.reg.toNat with
      | 0 => rm16Imm8 m .rolEwDb
      | 1 => rm16Imm8 m .rorEwDb
      | 2 => rm16Imm8 m .rclEwDb
      | 3 => rm16Imm8 m .rcrEwDb
      | 4 => rm16Imm8 m .salEwDb
      | 5 => rm16Imm8 m .shrEwDb
      | 6 => undefinedOp
      | _ => rm16Imm8 m .sarEwDb
  | 2 => imm16 .retNearDw
  | 3 => pure .retNear
  | 4 => regMem .lesRwEd
  | 5 => regMem .ldsRwEd
  | 6 => do
      let m ← nextModRm
      match m.reg.toNat with
      | 0 => rm8Imm8 m .movEbDb
      | 1 => undefinedOp
      | 2 => undefinedOp
      | 3 => undefinedOp
      | 4 => undefinedOp
      | 5 => undefinedOp
      | 6 => undefinedOp
      | _ => undefinedOp
  | 7 => do
      let m ← nextModRm
      match m.reg.toNat with
      | 0 => rm16Imm16 m .movEwDw
      | 1 => undefinedOp
      | 2 => undefinedOp
      | 3 => undefinedOp
      | 4 => undefinedOp
      | 5 => undefinedOp
      | 6 => undefinedOp
      | _ => undefinedOp
  | 8 => do
      let size ← nextWord
      let level ← nextByte
      return .enterDwDb size level
  | 9 => pure .leave
  | 10 => imm16 .retFarDw
  | 11 => pure .retFar
  | 12 => pure .int3
  | 13 => imm8 .intDb
  | 14 => pure .into
  | _ => pure .iret

/-- First opcode bytes D0H to DFH, by their low digit (R197, R199). -/
def decodeRowD (lo : Nat) : Parse Instr :=
  match lo with
  | 0 => do
      let m ← nextModRm
      match m.reg.toNat with
      | 0 => rm8 m .rolEb1
      | 1 => rm8 m .rorEb1
      | 2 => rm8 m .rclEb1
      | 3 => rm8 m .rcrEb1
      | 4 => rm8 m .salEb1
      | 5 => rm8 m .shrEb1
      | 6 => undefinedOp
      | _ => rm8 m .sarEb1
  | 1 => do
      let m ← nextModRm
      match m.reg.toNat with
      | 0 => rm16 m .rolEw1
      | 1 => rm16 m .rorEw1
      | 2 => rm16 m .rclEw1
      | 3 => rm16 m .rcrEw1
      | 4 => rm16 m .salEw1
      | 5 => rm16 m .shrEw1
      | 6 => undefinedOp
      | _ => rm16 m .sarEw1
  | 2 => do
      let m ← nextModRm
      match m.reg.toNat with
      | 0 => rm8 m .rolEbCl
      | 1 => rm8 m .rorEbCl
      | 2 => rm8 m .rclEbCl
      | 3 => rm8 m .rcrEbCl
      | 4 => rm8 m .salEbCl
      | 5 => rm8 m .shrEbCl
      | 6 => undefinedOp
      | _ => rm8 m .sarEbCl
  | 3 => do
      let m ← nextModRm
      match m.reg.toNat with
      | 0 => rm16 m .rolEwCl
      | 1 => rm16 m .rorEwCl
      | 2 => rm16 m .rclEwCl
      | 3 => rm16 m .rcrEwCl
      | 4 => rm16 m .salEwCl
      | 5 => rm16 m .shrEwCl
      | 6 => undefinedOp
      | _ => rm16 m .sarEwCl
  | 4 => do
      let v ← nextByte
      if v = 0x0A then return .aam else undefinedOp
  | 5 => do
      let v ← nextByte
      if v = 0x0A then return .aad else undefinedOp
  | 6 => undefinedOp
  | 7 => pure .xlat
  | 8 => decodeEsc 0
  | 9 => decodeEsc 1
  | 10 => decodeEsc 2
  | 11 => decodeEsc 3
  | 12 => decodeEsc 4
  | 13 => decodeEsc 5
  | 14 => decodeEsc 6
  | _ => decodeEsc 7

/-- First opcode bytes E0H to EFH, by their low digit (R197, R199). -/
def decodeRowE (lo : Nat) : Parse Instr :=
  match lo with
  | 0 => imm8 .loopneCb
  | 1 => imm8 .loopeCb
  | 2 => imm8 .loopCb
  | 3 => imm8 .jcxzCb
  | 4 => imm8 .inAlDb
  | 5 => imm8 .inAxDb
  | 6 => imm8 .outDbAl
  | 7 => imm8 .outDbAx
  | 8 => imm16 .callCw
  | 9 => imm16 .jmpCw
  | 10 => farPtr .jmpCd
  | 11 => imm8 .jmpCb
  | 12 => pure .inAlDx
  | 13 => pure .inAxDx
  | 14 => pure .outDxAl
  | _ => pure .outDxAx

/-- First opcode bytes F0H to FFH, by their low digit (R197, R199). -/
def decodeRowF (lo : Nat) : Parse Instr :=
  match lo with
  | 0 => pure .pfxLock
  | 1 => undefinedOp
  | 2 => pure .pfxRepne
  | 3 => pure .pfxRep
  | 4 => pure .hlt
  | 5 => pure .cmc
  | 6 => do
      let m ← nextModRm
      match m.reg.toNat with
      | 0 => rm8Imm8 m .testEbDb
      | 1 => undefinedOp
      | 2 => rm8 m .notEb
      | 3 => rm8 m .negEb
      | 4 => rm8 m .mulEb
      | 5 => rm8 m .imulEb
      | 6 => rm8 m .divEb
      | _ => rm8 m .idivEb
  | 7 => do
      let m ← nextModRm
      match m.reg.toNat with
      | 0 => rm16Imm16 m .testEwDw
      | 1 => undefinedOp
      | 2 => rm16 m .notEw
      | 3 => rm16 m .negEw
      | 4 => rm16 m .mulEw
      | 5 => rm16 m .imulEw
      | 6 => rm16 m .divEw
      | _ => rm16 m .idivEw
  | 8 => pure .clc
  | 9 => pure .stc
  | 10 => pure .cli
  | 11 => pure .sti
  | 12 => pure .cld
  | 13 => pure .std
  | 14 => do
      let m ← nextModRm
      match m.reg.toNat with
      | 0 => rm8 m .incEb
      | 1 => rm8 m .decEb
      | 2 => undefinedOp
      | 3 => undefinedOp
      | 4 => undefinedOp
      | 5 => undefinedOp
      | 6 => undefinedOp
      | _ => undefinedOp
  | _ => do
      let m ← nextModRm
      match m.reg.toNat with
      | 0 => rm16 m .incEw
      | 1 => rm16 m .decEw
      | 2 => rm16 m .callEw
      | 3 => memOnly m .callEd
      | 4 => rm16 m .jmpEw
      | 5 => memOnly m .jmpEd
      | 6 => rm16 m .pushMw
      | _ => generalFault m

/-- The opcode maps (R197, R203): one prefix byte or one instruction without its prefixes. -/
def decodeFirst : Parse Instr := do
  let b ← nextByte
  match b.toNat / 16 with
  | 0 => decodeRow0 (b.toNat % 16)
  | 1 => decodeRow1 (b.toNat % 16)
  | 2 => decodeRow2 (b.toNat % 16)
  | 3 => decodeRow3 (b.toNat % 16)
  | 4 => decodeRow4 (b.toNat % 16)
  | 5 => decodeRow5 (b.toNat % 16)
  | 6 => decodeRow6 (b.toNat % 16)
  | 7 => decodeRow7 (b.toNat % 16)
  | 8 => decodeRow8 (b.toNat % 16)
  | 9 => decodeRow9 (b.toNat % 16)
  | 10 => decodeRowA (b.toNat % 16)
  | 11 => decodeRowB (b.toNat % 16)
  | 12 => decodeRowC (b.toNat % 16)
  | 13 => decodeRowD (b.toNat % 16)
  | 14 => decodeRowE (b.toNat % 16)
  | _ => decodeRowF (b.toNat % 16)

/-- Read one prefix byte or one instruction from the front of `bs`. -/
def decode (bs : List Byte) : Decoded :=
  match decodeFirst bs with
  | .ok i rest => .ok i (bs.length - rest.length)
  | .error e _ => .error e

/-! ### Encoding -/

/-- A word in memory order. -/
def wordBytes (w : Word) : List Byte := [w.lo, w.hi]

/-- The ModRM byte and displacement of a memory operand, `g` in the reg field (R189, R190). -/
def encodeEa (g : BitVec 3) : Ea → List Byte
  | .noDisp b => [(0 : BitVec 2) ++ g ++ b.code]
  | .direct d => ((0 : BitVec 2) ++ g ++ (6 : BitVec 3)) :: wordBytes d
  | .disp8 b d => [(1 : BitVec 2) ++ g ++ b.code, d]
  | .disp16 b d => ((2 : BitVec 2) ++ g ++ b.code) :: wordBytes d

def encodeRm {R : Type} (code : R → BitVec 3) (g : BitVec 3) : Rm R → List Byte
  | .reg r => [(3 : BitVec 2) ++ g ++ code r]
  | .mem ea => encodeEa g ea

/-- The second byte of an ESC that names `ST(i)`. -/
def encodeSti (g i : BitVec 3) : List Byte := [(3 : BitVec 2) ++ g ++ i]

/-- The bytes of an instruction (30_encoding.md R180, R197 to R199; 49_npx_instructions.md R621). -/
def encode : Instr → List Byte
  | .addEbRb d r => 0x00 :: encodeRm Reg8.code r.code d
  | .addEwRw d r => 0x01 :: encodeRm Reg16.code r.code d
  | .addRbEb r d => 0x02 :: encodeRm Reg8.code r.code d
  | .addRwEw r d => 0x03 :: encodeRm Reg16.code r.code d
  | .addAlDb imm => 0x04 :: [imm]
  | .addAxDw imm => 0x05 :: wordBytes imm
  | .pushEs => [0x06]
  | .popEs => [0x07]
  | .orEbRb d r => 0x08 :: encodeRm Reg8.code r.code d
  | .orEwRw d r => 0x09 :: encodeRm Reg16.code r.code d
  | .orRbEb r d => 0x0A :: encodeRm Reg8.code r.code d
  | .orRwEw r d => 0x0B :: encodeRm Reg16.code r.code d
  | .orAlDb imm => 0x0C :: [imm]
  | .orAxDw imm => 0x0D :: wordBytes imm
  | .pushCs => [0x0E]
  | .sldtEw d => 0x0F :: 0x00 :: encodeRm Reg16.code 0 d
  | .strEw d => 0x0F :: 0x00 :: encodeRm Reg16.code 1 d
  | .lldtEw d => 0x0F :: 0x00 :: encodeRm Reg16.code 2 d
  | .ltrEw d => 0x0F :: 0x00 :: encodeRm Reg16.code 3 d
  | .verrEw d => 0x0F :: 0x00 :: encodeRm Reg16.code 4 d
  | .verwEw d => 0x0F :: 0x00 :: encodeRm Reg16.code 5 d
  | .sgdtM ea => 0x0F :: 0x01 :: encodeEa 0 ea
  | .sidtM ea => 0x0F :: 0x01 :: encodeEa 1 ea
  | .lgdtM ea => 0x0F :: 0x01 :: encodeEa 2 ea
  | .lidtM ea => 0x0F :: 0x01 :: encodeEa 3 ea
  | .smswEw d => 0x0F :: 0x01 :: encodeRm Reg16.code 4 d
  | .lmswEw d => 0x0F :: 0x01 :: encodeRm Reg16.code 6 d
  | .larRwEw r d => 0x0F :: 0x02 :: encodeRm Reg16.code r.code d
  | .lslRwEw r d => 0x0F :: 0x03 :: encodeRm Reg16.code r.code d
  | .clts => [0x0F, 0x06]
  | .adcEbRb d r => 0x10 :: encodeRm Reg8.code r.code d
  | .adcEwRw d r => 0x11 :: encodeRm Reg16.code r.code d
  | .adcRbEb r d => 0x12 :: encodeRm Reg8.code r.code d
  | .adcRwEw r d => 0x13 :: encodeRm Reg16.code r.code d
  | .adcAlDb imm => 0x14 :: [imm]
  | .adcAxDw imm => 0x15 :: wordBytes imm
  | .pushSs => [0x16]
  | .popSs => [0x17]
  | .sbbEbRb d r => 0x18 :: encodeRm Reg8.code r.code d
  | .sbbEwRw d r => 0x19 :: encodeRm Reg16.code r.code d
  | .sbbRbEb r d => 0x1A :: encodeRm Reg8.code r.code d
  | .sbbRwEw r d => 0x1B :: encodeRm Reg16.code r.code d
  | .sbbAlDb imm => 0x1C :: [imm]
  | .sbbAxDw imm => 0x1D :: wordBytes imm
  | .pushDs => [0x1E]
  | .popDs => [0x1F]
  | .andEbRb d r => 0x20 :: encodeRm Reg8.code r.code d
  | .andEwRw d r => 0x21 :: encodeRm Reg16.code r.code d
  | .andRbEb r d => 0x22 :: encodeRm Reg8.code r.code d
  | .andRwEw r d => 0x23 :: encodeRm Reg16.code r.code d
  | .andAlDb imm => 0x24 :: [imm]
  | .andAxDw imm => 0x25 :: wordBytes imm
  | .pfxEs => [0x26]
  | .daa => [0x27]
  | .subEbRb d r => 0x28 :: encodeRm Reg8.code r.code d
  | .subEwRw d r => 0x29 :: encodeRm Reg16.code r.code d
  | .subRbEb r d => 0x2A :: encodeRm Reg8.code r.code d
  | .subRwEw r d => 0x2B :: encodeRm Reg16.code r.code d
  | .subAlDb imm => 0x2C :: [imm]
  | .subAxDw imm => 0x2D :: wordBytes imm
  | .pfxCs => [0x2E]
  | .das => [0x2F]
  | .xorEbRb d r => 0x30 :: encodeRm Reg8.code r.code d
  | .xorEwRw d r => 0x31 :: encodeRm Reg16.code r.code d
  | .xorRbEb r d => 0x32 :: encodeRm Reg8.code r.code d
  | .xorRwEw r d => 0x33 :: encodeRm Reg16.code r.code d
  | .xorAlDb imm => 0x34 :: [imm]
  | .xorAxDw imm => 0x35 :: wordBytes imm
  | .pfxSs => [0x36]
  | .aaa => [0x37]
  | .cmpEbRb d r => 0x38 :: encodeRm Reg8.code r.code d
  | .cmpEwRw d r => 0x39 :: encodeRm Reg16.code r.code d
  | .cmpRbEb r d => 0x3A :: encodeRm Reg8.code r.code d
  | .cmpRwEw r d => 0x3B :: encodeRm Reg16.code r.code d
  | .cmpAlDb imm => 0x3C :: [imm]
  | .cmpAxDw imm => 0x3D :: wordBytes imm
  | .pfxDs => [0x3E]
  | .aas => [0x3F]
  | .incRw r => [(0x08 : BitVec 5) ++ r.code]
  | .decRw r => [(0x09 : BitVec 5) ++ r.code]
  | .pushRw r => [(0x0A : BitVec 5) ++ r.code]
  | .popRw r => [(0x0B : BitVec 5) ++ r.code]
  | .pusha => [0x60]
  | .popa => [0x61]
  | .boundRwMd r ea => 0x62 :: encodeEa r.code ea
  | .arplEwRw d r => 0x63 :: encodeRm Reg16.code r.code d
  | .pushDw imm => 0x68 :: wordBytes imm
  | .imulRwEwDw r d imm => 0x69 :: (encodeRm Reg16.code r.code d ++ wordBytes imm)
  | .pushDb imm => 0x6A :: [imm]
  | .imulRwEwDb r d imm => 0x6B :: (encodeRm Reg16.code r.code d ++ [imm])
  | .insb => [0x6C]
  | .insw => [0x6D]
  | .outsb => [0x6E]
  | .outsw => [0x6F]
  | .joCb rel => 0x70 :: [rel]
  | .jnoCb rel => 0x71 :: [rel]
  | .jbCb rel => 0x72 :: [rel]
  | .jnbCb rel => 0x73 :: [rel]
  | .jeCb rel => 0x74 :: [rel]
  | .jneCb rel => 0x75 :: [rel]
  | .jbeCb rel => 0x76 :: [rel]
  | .jnbeCb rel => 0x77 :: [rel]
  | .jsCb rel => 0x78 :: [rel]
  | .jnsCb rel => 0x79 :: [rel]
  | .jpCb rel => 0x7A :: [rel]
  | .jnpCb rel => 0x7B :: [rel]
  | .jlCb rel => 0x7C :: [rel]
  | .jnlCb rel => 0x7D :: [rel]
  | .jleCb rel => 0x7E :: [rel]
  | .jnleCb rel => 0x7F :: [rel]
  | .addEbDb d imm => 0x80 :: (encodeRm Reg8.code 0 d ++ [imm])
  | .orEbDb d imm => 0x80 :: (encodeRm Reg8.code 1 d ++ [imm])
  | .adcEbDb d imm => 0x80 :: (encodeRm Reg8.code 2 d ++ [imm])
  | .sbbEbDb d imm => 0x80 :: (encodeRm Reg8.code 3 d ++ [imm])
  | .andEbDb d imm => 0x80 :: (encodeRm Reg8.code 4 d ++ [imm])
  | .subEbDb d imm => 0x80 :: (encodeRm Reg8.code 5 d ++ [imm])
  | .xorEbDb d imm => 0x80 :: (encodeRm Reg8.code 6 d ++ [imm])
  | .cmpEbDb d imm => 0x80 :: (encodeRm Reg8.code 7 d ++ [imm])
  | .addEwDw d imm => 0x81 :: (encodeRm Reg16.code 0 d ++ wordBytes imm)
  | .orEwDw d imm => 0x81 :: (encodeRm Reg16.code 1 d ++ wordBytes imm)
  | .adcEwDw d imm => 0x81 :: (encodeRm Reg16.code 2 d ++ wordBytes imm)
  | .sbbEwDw d imm => 0x81 :: (encodeRm Reg16.code 3 d ++ wordBytes imm)
  | .andEwDw d imm => 0x81 :: (encodeRm Reg16.code 4 d ++ wordBytes imm)
  | .subEwDw d imm => 0x81 :: (encodeRm Reg16.code 5 d ++ wordBytes imm)
  | .xorEwDw d imm => 0x81 :: (encodeRm Reg16.code 6 d ++ wordBytes imm)
  | .cmpEwDw d imm => 0x81 :: (encodeRm Reg16.code 7 d ++ wordBytes imm)
  | .addEwDb d imm => 0x83 :: (encodeRm Reg16.code 0 d ++ [imm])
  | .adcEwDb d imm => 0x83 :: (encodeRm Reg16.code 2 d ++ [imm])
  | .sbbEwDb d imm => 0x83 :: (encodeRm Reg16.code 3 d ++ [imm])
  | .subEwDb d imm => 0x83 :: (encodeRm Reg16.code 5 d ++ [imm])
  | .cmpEwDb d imm => 0x83 :: (encodeRm Reg16.code 7 d ++ [imm])
  | .testEbRb d r => 0x84 :: encodeRm Reg8.code r.code d
  | .testEwRw d r => 0x85 :: encodeRm Reg16.code r.code d
  | .xchgEbRb d r => 0x86 :: encodeRm Reg8.code r.code d
  | .xchgEwRw d r => 0x87 :: encodeRm Reg16.code r.code d
  | .movEbRb d r => 0x88 :: encodeRm Reg8.code r.code d
  | .movEwRw d r => 0x89 :: encodeRm Reg16.code r.code d
  | .movRbEb r d => 0x8A :: encodeRm Reg8.code r.code d
  | .movRwEw r d => 0x8B :: encodeRm Reg16.code r.code d
  | .movEwSreg d sr => 0x8C :: encodeRm Reg16.code ((0 : BitVec 1) ++ sr.code) d
  | .leaRwM r ea => 0x8D :: encodeEa r.code ea
  | .movEsEw d => 0x8E :: encodeRm Reg16.code 0 d
  | .movSsEw d => 0x8E :: encodeRm Reg16.code 2 d
  | .movDsEw d => 0x8E :: encodeRm Reg16.code 3 d
  | .popMw d => 0x8F :: encodeRm Reg16.code 0 d
  | .nop => [0x90]
  | .xchgAxRw r => [(0x12 : BitVec 5) ++ r.code]
  | .cbw => [0x98]
  | .cwd => [0x99]
  | .callCd off sel => 0x9A :: (wordBytes off ++ wordBytes sel)
  | .wait => [0x9B]
  | .pushf => [0x9C]
  | .popf => [0x9D]
  | .sahf => [0x9E]
  | .lahf => [0x9F]
  | .movAlXb off => 0xA0 :: wordBytes off
  | .movAxXw off => 0xA1 :: wordBytes off
  | .movXbAl off => 0xA2 :: wordBytes off
  | .movXwAx off => 0xA3 :: wordBytes off
  | .movsb => [0xA4]
  | .movsw => [0xA5]
  | .cmpsb => [0xA6]
  | .cmpsw => [0xA7]
  | .testAlDb imm => 0xA8 :: [imm]
  | .testAxDw imm => 0xA9 :: wordBytes imm
  | .stosb => [0xAA]
  | .stosw => [0xAB]
  | .lodsb => [0xAC]
  | .lodsw => [0xAD]
  | .scasb => [0xAE]
  | .scasw => [0xAF]
  | .movRbDb r imm => ((0x16 : BitVec 5) ++ r.code) :: [imm]
  | .movRwDw r imm => ((0x17 : BitVec 5) ++ r.code) :: wordBytes imm
  | .rolEbDb d imm => 0xC0 :: (encodeRm Reg8.code 0 d ++ [imm])
  | .rorEbDb d imm => 0xC0 :: (encodeRm Reg8.code 1 d ++ [imm])
  | .rclEbDb d imm => 0xC0 :: (encodeRm Reg8.code 2 d ++ [imm])
  | .rcrEbDb d imm => 0xC0 :: (encodeRm Reg8.code 3 d ++ [imm])
  | .salEbDb d imm => 0xC0 :: (encodeRm Reg8.code 4 d ++ [imm])
  | .shrEbDb d imm => 0xC0 :: (encodeRm Reg8.code 5 d ++ [imm])
  | .sarEbDb d imm => 0xC0 :: (encodeRm Reg8.code 7 d ++ [imm])
  | .rolEwDb d imm => 0xC1 :: (encodeRm Reg16.code 0 d ++ [imm])
  | .rorEwDb d imm => 0xC1 :: (encodeRm Reg16.code 1 d ++ [imm])
  | .rclEwDb d imm => 0xC1 :: (encodeRm Reg16.code 2 d ++ [imm])
  | .rcrEwDb d imm => 0xC1 :: (encodeRm Reg16.code 3 d ++ [imm])
  | .salEwDb d imm => 0xC1 :: (encodeRm Reg16.code 4 d ++ [imm])
  | .shrEwDb d imm => 0xC1 :: (encodeRm Reg16.code 5 d ++ [imm])
  | .sarEwDb d imm => 0xC1 :: (encodeRm Reg16.code 7 d ++ [imm])
  | .retNearDw imm => 0xC2 :: wordBytes imm
  | .retNear => [0xC3]
  | .lesRwEd r ea => 0xC4 :: encodeEa r.code ea
  | .ldsRwEd r ea => 0xC5 :: encodeEa r.code ea
  | .movEbDb d imm => 0xC6 :: (encodeRm Reg8.code 0 d ++ [imm])
  | .movEwDw d imm => 0xC7 :: (encodeRm Reg16.code 0 d ++ wordBytes imm)
  | .enterDwDb size level => 0xC8 :: (wordBytes size ++ [level])
  | .leave => [0xC9]
  | .retFarDw imm => 0xCA :: wordBytes imm
  | .retFar => [0xCB]
  | .int3 => [0xCC]
  | .intDb imm => 0xCD :: [imm]
  | .into => [0xCE]
  | .iret => [0xCF]
  | .rolEb1 d => 0xD0 :: encodeRm Reg8.code 0 d
  | .rorEb1 d => 0xD0 :: encodeRm Reg8.code 1 d
  | .rclEb1 d => 0xD0 :: encodeRm Reg8.code 2 d
  | .rcrEb1 d => 0xD0 :: encodeRm Reg8.code 3 d
  | .salEb1 d => 0xD0 :: encodeRm Reg8.code 4 d
  | .shrEb1 d => 0xD0 :: encodeRm Reg8.code 5 d
  | .sarEb1 d => 0xD0 :: encodeRm Reg8.code 7 d
  | .rolEw1 d => 0xD1 :: encodeRm Reg16.code 0 d
  | .rorEw1 d => 0xD1 :: encodeRm Reg16.code 1 d
  | .rclEw1 d => 0xD1 :: encodeRm Reg16.code 2 d
  | .rcrEw1 d => 0xD1 :: encodeRm Reg16.code 3 d
  | .salEw1 d => 0xD1 :: encodeRm Reg16.code 4 d
  | .shrEw1 d => 0xD1 :: encodeRm Reg16.code 5 d
  | .sarEw1 d => 0xD1 :: encodeRm Reg16.code 7 d
  | .rolEbCl d => 0xD2 :: encodeRm Reg8.code 0 d
  | .rorEbCl d => 0xD2 :: encodeRm Reg8.code 1 d
  | .rclEbCl d => 0xD2 :: encodeRm Reg8.code 2 d
  | .rcrEbCl d => 0xD2 :: encodeRm Reg8.code 3 d
  | .salEbCl d => 0xD2 :: encodeRm Reg8.code 4 d
  | .shrEbCl d => 0xD2 :: encodeRm Reg8.code 5 d
  | .sarEbCl d => 0xD2 :: encodeRm Reg8.code 7 d
  | .rolEwCl d => 0xD3 :: encodeRm Reg16.code 0 d
  | .rorEwCl d => 0xD3 :: encodeRm Reg16.code 1 d
  | .rclEwCl d => 0xD3 :: encodeRm Reg16.code 2 d
  | .rcrEwCl d => 0xD3 :: encodeRm Reg16.code 3 d
  | .salEwCl d => 0xD3 :: encodeRm Reg16.code 4 d
  | .shrEwCl d => 0xD3 :: encodeRm Reg16.code 5 d
  | .sarEwCl d => 0xD3 :: encodeRm Reg16.code 7 d
  | .aam => [0xD4, 0x0A]
  | .aad => [0xD5, 0x0A]
  | .xlat => [0xD7]
  | .loopneCb rel => 0xE0 :: [rel]
  | .loopeCb rel => 0xE1 :: [rel]
  | .loopCb rel => 0xE2 :: [rel]
  | .jcxzCb rel => 0xE3 :: [rel]
  | .inAlDb imm => 0xE4 :: [imm]
  | .inAxDb imm => 0xE5 :: [imm]
  | .outDbAl imm => 0xE6 :: [imm]
  | .outDbAx imm => 0xE7 :: [imm]
  | .callCw rel => 0xE8 :: wordBytes rel
  | .jmpCw rel => 0xE9 :: wordBytes rel
  | .jmpCd off sel => 0xEA :: (wordBytes off ++ wordBytes sel)
  | .jmpCb rel => 0xEB :: [rel]
  | .inAlDx => [0xEC]
  | .inAxDx => [0xED]
  | .outDxAl => [0xEE]
  | .outDxAx => [0xEF]
  | .pfxLock => [0xF0]
  | .pfxRepne => [0xF2]
  | .pfxRep => [0xF3]
  | .hlt => [0xF4]
  | .cmc => [0xF5]
  | .testEbDb d imm => 0xF6 :: (encodeRm Reg8.code 0 d ++ [imm])
  | .notEb d => 0xF6 :: encodeRm Reg8.code 2 d
  | .negEb d => 0xF6 :: encodeRm Reg8.code 3 d
  | .mulEb d => 0xF6 :: encodeRm Reg8.code 4 d
  | .imulEb d => 0xF6 :: encodeRm Reg8.code 5 d
  | .divEb d => 0xF6 :: encodeRm Reg8.code 6 d
  | .idivEb d => 0xF6 :: encodeRm Reg8.code 7 d
  | .testEwDw d imm => 0xF7 :: (encodeRm Reg16.code 0 d ++ wordBytes imm)
  | .notEw d => 0xF7 :: encodeRm Reg16.code 2 d
  | .negEw d => 0xF7 :: encodeRm Reg16.code 3 d
  | .mulEw d => 0xF7 :: encodeRm Reg16.code 4 d
  | .imulEw d => 0xF7 :: encodeRm Reg16.code 5 d
  | .divEw d => 0xF7 :: encodeRm Reg16.code 6 d
  | .idivEw d => 0xF7 :: encodeRm Reg16.code 7 d
  | .clc => [0xF8]
  | .stc => [0xF9]
  | .cli => [0xFA]
  | .sti => [0xFB]
  | .cld => [0xFC]
  | .std => [0xFD]
  | .incEb d => 0xFE :: encodeRm Reg8.code 0 d
  | .decEb d => 0xFE :: encodeRm Reg8.code 1 d
  | .incEw d => 0xFF :: encodeRm Reg16.code 0 d
  | .decEw d => 0xFF :: encodeRm Reg16.code 1 d
  | .callEw d => 0xFF :: encodeRm Reg16.code 2 d
  | .callEd ea => 0xFF :: encodeEa 3 ea
  | .jmpEw d => 0xFF :: encodeRm Reg16.code 4 d
  | .jmpEd ea => 0xFF :: encodeEa 5 ea
  | .pushMw d => 0xFF :: encodeRm Reg16.code 6 d
  | .faddM32real ea => 0xD8 :: encodeEa 0 ea
  | .fmulM32real ea => 0xD8 :: encodeEa 1 ea
  | .fcomM32real ea => 0xD8 :: encodeEa 2 ea
  | .fcompM32real ea => 0xD8 :: encodeEa 3 ea
  | .fsubM32real ea => 0xD8 :: encodeEa 4 ea
  | .fsubrM32real ea => 0xD8 :: encodeEa 5 ea
  | .fdivM32real ea => 0xD8 :: encodeEa 6 ea
  | .fdivrM32real ea => 0xD8 :: encodeEa 7 ea
  | .faddStSti i => 0xD8 :: encodeSti 0 i
  | .fmulStSti i => 0xD8 :: encodeSti 1 i
  | .fcomSti i => 0xD8 :: encodeSti 2 i
  | .fcompSti i => 0xD8 :: encodeSti 3 i
  | .fsubStSti i => 0xD8 :: encodeSti 4 i
  | .fsubrStSti i => 0xD8 :: encodeSti 5 i
  | .fdivStSti i => 0xD8 :: encodeSti 6 i
  | .fdivrStSti i => 0xD8 :: encodeSti 7 i
  | .fldM32real ea => 0xD9 :: encodeEa 0 ea
  | .fstM32real ea => 0xD9 :: encodeEa 2 ea
  | .fstpM32real ea => 0xD9 :: encodeEa 3 ea
  | .fldenvM14byte ea => 0xD9 :: encodeEa 4 ea
  | .fldcwM2byte ea => 0xD9 :: encodeEa 5 ea
  | .fnstenvM14byte ea => 0xD9 :: encodeEa 6 ea
  | .fnstcwM2byte ea => 0xD9 :: encodeEa 7 ea
  | .fldSti i => 0xD9 :: encodeSti 0 i
  | .fxchSti i => 0xD9 :: encodeSti 1 i
  | .fnop => [0xD9, 0xD0]
  | .fstpStiD9 i => 0xD9 :: encodeSti 3 i
  | .fchs => [0xD9, 0xE0]
  | .fabs => [0xD9, 0xE1]
  | .ftst => [0xD9, 0xE4]
  | .fxam => [0xD9, 0xE5]
  | .fld1 => [0xD9, 0xE8]
  | .fldl2t => [0xD9, 0xE9]
  | .fldl2e => [0xD9, 0xEA]
  | .fldpi => [0xD9, 0xEB]
  | .fldlg2 => [0xD9, 0xEC]
  | .fldln2 => [0xD9, 0xED]
  | .fldz => [0xD9, 0xEE]
  | .f2xm1 => [0xD9, 0xF0]
  | .fyl2x => [0xD9, 0xF1]
  | .fptan => [0xD9, 0xF2]
  | .fpatan => [0xD9, 0xF3]
  | .fxtract => [0xD9, 0xF4]
  | .fdecstp => [0xD9, 0xF6]
  | .fincstp => [0xD9, 0xF7]
  | .fprem => [0xD9, 0xF8]
  | .fyl2xp1 => [0xD9, 0xF9]
  | .fsqrt => [0xD9, 0xFA]
  | .frndint => [0xD9, 0xFC]
  | .fscale => [0xD9, 0xFD]
  | .fiaddM32int ea => 0xDA :: encodeEa 0 ea
  | .fimulM32int ea => 0xDA :: encodeEa 1 ea
  | .ficomM32int ea => 0xDA :: encodeEa 2 ea
  | .ficompM32int ea => 0xDA :: encodeEa 3 ea
  | .fisubM32int ea => 0xDA :: encodeEa 4 ea
  | .fisubrM32int ea => 0xDA :: encodeEa 5 ea
  | .fidivM32int ea => 0xDA :: encodeEa 6 ea
  | .fidivrM32int ea => 0xDA :: encodeEa 7 ea
  | .fildM32int ea => 0xDB :: encodeEa 0 ea
  | .fistM32int ea => 0xDB :: encodeEa 2 ea
  | .fistpM32int ea => 0xDB :: encodeEa 3 ea
  | .fldM80real ea => 0xDB :: encodeEa 5 ea
  | .fstpM80real ea => 0xDB :: encodeEa 7 ea
  | .fneni => [0xDB, 0xE0]
  | .fndisi => [0xDB, 0xE1]
  | .fnclex => [0xDB, 0xE2]
  | .fninit => [0xDB, 0xE3]
  | .fsetpm => [0xDB, 0xE4]
  | .faddM64real ea => 0xDC :: encodeEa 0 ea
  | .fmulM64real ea => 0xDC :: encodeEa 1 ea
  | .fcomM64real ea => 0xDC :: encodeEa 2 ea
  | .fcompM64real ea => 0xDC :: encodeEa 3 ea
  | .fsubM64real ea => 0xDC :: encodeEa 4 ea
  | .fsubrM64real ea => 0xDC :: encodeEa 5 ea
  | .fdivM64real ea => 0xDC :: encodeEa 6 ea
  | .fdivrM64real ea => 0xDC :: encodeEa 7 ea
  | .faddStiSt i => 0xDC :: encodeSti 0 i
  | .fmulStiSt i => 0xDC :: encodeSti 1 i
  | .fcomStiDC i => 0xDC :: encodeSti 2 i
  | .fcompStiDC i => 0xDC :: encodeSti 3 i
  | .fsubrStiSt i => 0xDC :: encodeSti 4 i
  | .fsubStiSt i => 0xDC :: encodeSti 5 i
  | .fdivrStiSt i => 0xDC :: encodeSti 6 i
  | .fdivStiSt i => 0xDC :: encodeSti 7 i
  | .fldM64real ea => 0xDD :: encodeEa 0 ea
  | .fstM64real ea => 0xDD :: encodeEa 2 ea
  | .fstpM64real ea => 0xDD :: encodeEa 3 ea
  | .frstorM94byte ea => 0xDD :: encodeEa 4 ea
  | .fnsaveM94byte ea => 0xDD :: encodeEa 6 ea
  | .fnstswM2byte ea => 0xDD :: encodeEa 7 ea
  | .ffreeSti i => 0xDD :: encodeSti 0 i
  | .fxchStiDD i => 0xDD :: encodeSti 1 i
  | .fstSti i => 0xDD :: encodeSti 2 i
  | .fstpSti i => 0xDD :: encodeSti 3 i
  | .fiaddM16int ea => 0xDE :: encodeEa 0 ea
  | .fimulM16int ea => 0xDE :: encodeEa 1 ea
  | .ficomM16int ea => 0xDE :: encodeEa 2 ea
  | .ficompM16int ea => 0xDE :: encodeEa 3 ea
  | .fisubM16int ea => 0xDE :: encodeEa 4 ea
  | .fisubrM16int ea => 0xDE :: encodeEa 5 ea
  | .fidivM16int ea => 0xDE :: encodeEa 6 ea
  | .fidivrM16int ea => 0xDE :: encodeEa 7 ea
  | .faddpStiSt i => 0xDE :: encodeSti 0 i
  | .fmulpStiSt i => 0xDE :: encodeSti 1 i
  | .fcompStiDE i => 0xDE :: encodeSti 2 i
  | .fcompp => [0xDE, 0xD9]
  | .fsubrpStiSt i => 0xDE :: encodeSti 4 i
  | .fsubpStiSt i => 0xDE :: encodeSti 5 i
  | .fdivrpStiSt i => 0xDE :: encodeSti 6 i
  | .fdivpStiSt i => 0xDE :: encodeSti 7 i
  | .fildM16int ea => 0xDF :: encodeEa 0 ea
  | .fistM16int ea => 0xDF :: encodeEa 2 ea
  | .fistpM16int ea => 0xDF :: encodeEa 3 ea
  | .fbldM80dec ea => 0xDF :: encodeEa 4 ea
  | .fildM64int ea => 0xDF :: encodeEa 5 ea
  | .fbstpM80dec ea => 0xDF :: encodeEa 6 ea
  | .fistpM64int ea => 0xDF :: encodeEa 7 ea
  | .ffreeStiDF i => 0xDF :: encodeSti 0 i
  | .fxchStiDF i => 0xDF :: encodeSti 1 i
  | .fstpStiDFD0 i => 0xDF :: encodeSti 2 i
  | .fstpStiDFD8 i => 0xDF :: encodeSti 3 i
  | .fnstswAx => [0xDF, 0xE0]
  | .escReserved x g d => ((27 : BitVec 5) ++ x) :: encodeRm id g d

/-! ### The opcode table's numbers -/

/-- The `n` bytes of the number `w`, the first byte most significant, as spec/opcode_table.json numbers them
(30_encoding.md R206; DESIGN CHOICE, log 11). -/
def tableBytes : (n w : Nat) → List Byte
  | 0, _ => []
  | n + 1, w => tableBytes n (w / 256) ++ [BitVec.ofNat 8 (w % 256)]

/-- The longest instruction (R181). -/
def maxLength : Nat := 10

/-- The bytes of an instruction of `nbits` bits `w`, with zeros after them. -/
def tableImage (nbits w : Nat) : List Byte :=
  tableBytes (nbits / 8) w ++ List.replicate (maxLength - nbits / 8) 0

/-- The instruction the decoder reads from a word of the opcode table. -/
def decodeTableWord (nbits w : Nat) : Option Instr :=
  match decode (tableImage nbits w) with
  | .ok i _ => some i
  | .error _ => none

end

end Sys2Proof
end

