-- ==== Sys2Proof/Machine/Npx.lean ====
section
/-! DEFINITION. How an ESC instruction runs (48_npx_architecture.md R530 to R539), the exception pointers and the memory
images (R590 to R594). -/

namespace Sys2Proof.Machine

/-! ### The two processors -/

/-- A numeric operation as part of an instruction: it changes the 80287 and nothing else, and answers nothing if an
unmasked exception ended it (R573, R581). -/
def numeric {α : Type} (x : N α) : M (Option α) := do
  let s ← get
  let r := x.runFrom s.npx s.undef
  set { s with npx := r.2.npx, undef := r.2.undef }
  return r.1

/-- Steps 2 and 3 of Esc() (R535): #NM, and #MF if the instruction is error-checking. -/
def escTest (check : Bool) : M Unit := do
  let s ← get
  require (!s.em && !s.ts) .nm
  require (!check || !s.npxError) .mf

/-- With no 80287 nothing is transferred and nothing changes (R539, D35). -/
def whenPresent (x : M Unit) : M Unit := do
  let s ← get
  if s.npxPresent then x else pure ()

/-! ### The exception pointers (R590 to R592) -/

/-- The 20-bit physical address of the Real-Address format (R592). -/
def address20 (base : PhysAddr) (off : Word) : BitVec 20 := (base + off.setWidth 24).extractLsb' 0 20

/-- A pointer: selector and offset in Protected mode (R591), the two words of a 20-bit address in Real-Address mode
(R592; log 38). -/
def pointerWords (prot : Bool) (sel : Word) (base : PhysAddr) (off : Word) : BitVec 32 :=
  if prot then sel ++ off
  else (address20 base off).extractLsb' 16 4 ++ (0 : BitVec 12) ++ (address20 base off).extractLsb' 0 16

/-- Step 5 of Esc(): the instruction pointer and the opcode, and the operand pointer of a memory form (R535, R590). -/
def State.latch (s : State) (op : BitVec 11) (mem : Option Ea) : State :=
  let prot := s.npx.protectedMode
  let n := { s.npx with ip := pointerWords prot s.cs.sel (s.cs.sel.setWidth 24 <<< 4) s.curIP, opcode := op }
  match mem with
  | none => { s with npx := n }
  | some ea =>
    let c := s.seg (s.eaSeg ea)
    { s with npx := { n with op := pointerWords prot c.sel c.base (s.eaOff ea) } }

/-- The opcode of a memory form: the low three bits of the first byte and the second byte (R590). -/
def memOpcode (ttt g : BitVec 3) (ea : Ea) : BitVec 11 := ttt ++ (encodeEa g ea).headD 0

/-- The opcode of a register form. -/
def regOpcode (ttt : BitVec 3) (second : Byte) : BitVec 11 := ttt ++ second

/-- The opcode of a form that names ST(i). -/
def stiOpcode (ttt : BitVec 3) (second : Byte) (i : BitVec 3) : BitVec 11 := ttt ++ (second + i.setWidth 8)

/-! ### The data channel (R535 to R537, R540) -/

/-- All of the 80287's state but the pointers is lost (R537, U17; log 41). -/
def loseNpx : N Unit := do
  let r0 ← anyReal
  let r1 ← anyReal
  let r2 ← anyReal
  let r3 ← anyReal
  let r4 ← anyReal
  let r5 ← anyReal
  let r6 ← anyReal
  let r7 ← anyReal
  let cw ← anyWord
  let sw ← anyWord
  let tw ← anyWord
  let mode ← anyBit
  changeNpx fun n =>
    { n with
      r0 := r0, r1 := r1, r2 := r2, r3 := r3, r4 := r4, r5 := r5, r6 := r6, r7 := r7
      cw := cw, sw := .ofWord sw, tw := tw, protectedMode := mode }.fixES

/-- #MP (R537). -/
def overrun {α : Type} : M α := do
  let _ ← numeric loseNpx
  raise .px9

/-- Words of a numeric operand read at ascending offsets, each tested against the limit. -/
def getWords (r : SegReg) : Nat → Nat → M (List Word)
  | 0, _ => return []
  | k + 1, off => do
    let s ← get
    if (s.seg r).inLimit off 2 then do
      let w ← load16 ((s.seg r).lin (BitVec.ofNat 16 off))
      let rest ← getWords r k (off + 2)
      return w :: rest
    else overrun

/-- Words of a numeric operand written at ascending offsets, each tested against the limit. -/
def putWords (r : SegReg) : Nat → List Word → M Unit
  | _, [] => return ()
  | off, w :: rest => do
    let s ← get
    if (s.seg r).inLimit off 2 then do
      modify fun s => s.setMem16 ((s.seg r).lin (BitVec.ofNat 16 off)) w
      putWords r (off + 2) rest
    else overrun

/-- The number that words at ascending addresses stand for (R540). -/
def wordsValue : List Word → Nat
  | [] => 0
  | w :: rest => w.toNat + 65536 * wordsValue rest

/-- `k` words of a number, the least significant first. -/
def valueWords : Nat → Nat → List Word
  | 0, _ => []
  | k + 1, v => BitVec.ofNat 16 v :: valueWords k (v / 65536)

/-! ### Esc() (R535), by what the instruction does with memory -/

/-- A numeric instruction with no memory operand. -/
def escReg (op : BitVec 11) (x : N Unit) : M Unit := do
  escTest true
  whenPresent do
    modify fun s => s.latch op none
    let _ ← numeric x

/-- A numeric instruction that reads an operand of `k` words. -/
def escLoad (op : BitVec 11) (ea : Ea) (k : Nat) (x : Nat → N Unit) : M Unit := do
  escTest true
  let s ← get
  checkRead (s.eaSeg ea) (s.eaOff ea) 2
  whenPresent do
    modify fun s => s.latch op (some ea)
    let ws ← getWords (s.eaSeg ea) k (s.eaOff ea).toNat
    let _ ← numeric (x (wordsValue ws))

/-- A numeric instruction that writes an operand of `k` words, unless an unmasked exception stops it (R581). -/
def escStore (op : BitVec 11) (ea : Ea) (k : Nat) (x : N Nat) : M Unit := do
  escTest true
  let s ← get
  checkWrite (s.eaSeg ea) (s.eaOff ea) 2
  whenPresent do
    modify fun s => s.latch op (some ea)
    let v ← numeric x
    match v with
    | none => pure ()
    | some v => putWords (s.eaSeg ea) (s.eaOff ea).toNat (valueWords k v)

/-- A processor control instruction with no memory operand: the pointers stay (R590). -/
def escControl (check : Bool) (x : N Unit) : M Unit := do
  escTest check
  whenPresent do
    let _ ← numeric x

/-- A processor control instruction that loads state: FLDCW, FLDENV, FRSTOR. -/
def escLoadState (ea : Ea) (k : Nat) (f : List Word → Npx → Npx) : M Unit := do
  escTest true
  let s ← get
  checkRead (s.eaSeg ea) (s.eaOff ea) 2
  whenPresent do
    let ws ← getWords (s.eaSeg ea) k (s.eaOff ea).toNat
    modify fun s => { s with npx := f ws s.npx }

/-- A processor control instruction that stores state: FNSTCW, FNSTSW, FNSTENV, FNSAVE, none of them error-checking
(R534). `absent` is what the operand gets with no 80287 (R539, D35). -/
def escStoreState (ea : Ea) (absent : List Word) (image : Npx → List Word) (after : N Unit) : M Unit := do
  escTest false
  let s ← get
  checkWrite (s.eaSeg ea) (s.eaOff ea) 2
  if s.npxPresent then do
    putWords (s.eaSeg ea) (s.eaOff ea).toNat (image s.npx)
    let _ ← numeric after
  else putWords (s.eaSeg ea) (s.eaOff ea).toNat absent

/-! ### Memory images (R591 to R594) -/

/-- The environment in the format of the 80287's mode (R591, R592). -/
def Npx.envWords (n : Npx) : List Word :=
  let ip2 : Word := n.ip.extractLsb' 16 16
  let op2 : Word := n.op.extractLsb' 16 16
  [n.cw, n.sw.word, n.tw, n.ip.extractLsb' 0 16,
    if n.protectedMode then ip2 else (ip2 &&& 0xF000) ||| n.opcode.setWidth 16,
    n.op.extractLsb' 0 16,
    if n.protectedMode then op2 else op2 &&& 0xF000]

/-- EnvRead without the tags' correction: what the image's format lacks becomes 0 (R593, D38). -/
def Npx.envLoad (n : Npx) (ws : List Word) : Npx :=
  let ip2 := wordAt ws 4
  let op2 := wordAt ws 6
  { n with
    cw := wordAt ws 0, sw := .ofWord (wordAt ws 1), tw := wordAt ws 2
    ip := (if n.protectedMode then ip2 else ip2 &&& 0xF000) ++ wordAt ws 3
    opcode := if n.protectedMode then 0 else ip2.extractLsb' 0 11
    op := (if n.protectedMode then op2 else op2 &&& 0xF000) ++ wordAt ws 5 }.fixES

/-- FLDENV (49_npx_instructions.md R709). -/
def Npx.loadEnv (ws : List Word) (n : Npx) : Npx := (n.envLoad ws).retag

/-- The five words of ST(i) (R594). -/
def Npx.stWords (n : Npx) (i : BitVec 3) : List Word := valueWords 5 (n.reg (n.phys i)).toNat

/-- The image of FSAVE: the environment, then ST(0) to ST(7) (R594, D39). -/
def Npx.saveWords (n : Npx) : List Word :=
  n.envWords ++ n.stWords 0 ++ n.stWords 1 ++ n.stWords 2 ++ n.stWords 3 ++ n.stWords 4 ++ n.stWords 5 ++
    n.stWords 6 ++ n.stWords 7

/-- The register at five words of the image. -/
def Npx.loadST (n : Npx) (ws : List Word) (i : BitVec 3) : Npx :=
  n.setReg (n.phys i) (BitVec.ofNat 80 (wordsValue ((ws.drop (7 + 5 * i.toNat)).take 5)))

/-- FRSTOR (49_npx_instructions.md R711). -/
def Npx.loadAll (ws : List Word) (n : Npx) : Npx :=
  let n := n.envLoad ws
  let n := (((n.loadST ws 0).loadST ws 1).loadST ws 2).loadST ws 3
  ((((n.loadST ws 4).loadST ws 5).loadST ws 6).loadST ws 7).retag

end Sys2Proof.Machine
end

