-- ==== Sys2Proof/Machine/NpxArith.lean ====
section
/-! DEFINITION. 80287 arithmetic, comparison and transcendental instructions (49_npx_instructions.md R640 to R685). -/

namespace Sys2Proof.Machine

/-! ### The four operations (R640) -/

/-- The six operations of R640, on the destination `a` and the source `b`. -/
inductive ArithOp where
  | add | sub | subr | mul | div | divr
  deriving DecidableEq, Repr

/-- A denormal replaced by the equivalent unnormal (48_npx_architecture.md R553). -/
def equivalent (x : Reg80) : Reg80 :=
  if classOf x = .denormal then mkReal (realSign x) 1 (realSig x) else x

def NumOperand.negated (x : NumOperand) : NumOperand := { x with val := withSign x.val !realSign x.val }

/-- Unnormal in the sense of R553: pseudo-zeros too. -/
def unnormalClass (x : Reg80) : Bool := classOf x == .unnormal || classOf x == .pseudoZero

/-- The sign of an exact zero sum (48_npx_architecture.md R555). -/
def sumZeroSign (rc : Rounding) (a b : Bool) : Bool := if a = b then a else rc == .down

/-- The sum of two finite operands of which none is a true zero or one at least is not zero (R640 step 8;
48_npx_architecture.md R553: the larger operand governs the normalization). If the absolute values are equal and the
leading zeros are not, the first operand of the sum governs: the destination, and in a reversed subtraction the source.
DESIGN CHOICE: the spec names none (log 56). -/
def sumFinite (a b : Reg80) : N Reg80 := do
  let n ← theNpx
  let x := magnitude a
  let y := magnitude b
  let e := min x.e y.e
  let r := signedAt (realSign a) x e + signedAt (realSign b) y e
  let lz := leadingZeros (if y.at e ≤ x.at e then realSig a else realSig b)
  if x.n = 0 ∧ y.n = 0 then
    return mkReal (sumZeroSign n.rounding (realSign a) (realSign b)) (max (realExp a) (realExp b)) 0
  else if r = 0 then return realZero (n.rounding == .down)
  else deliverReal80 n.precision lz (decide (r < 0)) ⟨r.natAbs, e, false⟩

/-- Addition after step 3 of R640; a subtraction is the addition of the negated operand. -/
def addReal (a b : NumOperand) : N Reg80 := do
  let n ← theNpx
  let za := classOf a.val == .zero
  let zb := classOf b.val == .zero
  if classOf a.val = .infinity ∧ classOf b.val = .infinity then
    (if n.affine && realSign a.val == realSign b.val then return a.val else invalidResult realIndefinite)
  else do
    signalIf (a.den || b.den) .denormalized
    if classOf a.val = .infinity then return a.val
    else if classOf b.val = .infinity then return b.val
    else if za && zb then return realZero (sumZeroSign n.rounding (realSign a.val) (realSign b.val))
    else if za && classOf b.val != .pseudoZero then return equivalent b.val
    else if zb && classOf a.val != .pseudoZero then return equivalent a.val
    else sumFinite a.val b.val

/-- Multiplication after step 3 of R640. -/
def mulReal (a b : NumOperand) : N Reg80 := do
  let n ← theNpx
  let neg := realSign a.val != realSign b.val
  let ia := classOf a.val == .infinity
  let ib := classOf b.val == .infinity
  let za := classOf a.val == .zero
  let zb := classOf b.val == .zero
  if (ia && zb) || (za && ib) then invalidResult realIndefinite
  else do
    signalIf (a.den || b.den) .denormalized
    if ia || ib then return realInfinity neg
    else if za || zb then return realZero neg
    else if realSig a.val = 0 ∨ realSig b.val = 0 then deliverPseudoZero neg (realTrue a.val + realTrue b.val)
    else
      deliverReal80 n.precision (leadingZeros (realSig a.val) + leadingZeros (realSig b.val)) neg
        (mulExact (magnitude a.val) (magnitude b.val))

/-- The quotient `a / b` after step 3 of R640. -/
def divReal (a b : NumOperand) : N Reg80 := do
  let n ← theNpx
  let neg := realSign a.val != realSign b.val
  let ia := classOf a.val == .infinity
  let ib := classOf b.val == .infinity
  let za := classOf a.val == .zero
  let zb := classOf b.val == .zero
  if (ia && ib) || (za && zb) || b.den || unnormalClass b.val then invalidResult realIndefinite
  else if zb && !ia then do
    signal .zeroDivide
    return realInfinity neg
  else do
    signalIf a.den .denormalized
    if ia then return realInfinity neg
    else if ib || za then return realZero neg
    else if realSig a.val = 0 then deliverPseudoZero neg (realTrue a.val - realTrue b.val)
    else
      deliverReal80 n.precision (leadingZeros (realSig a.val)) neg (divExact (magnitude a.val) (magnitude b.val))

/-- Arith(op, a, b) (R640). -/
def arith (op : ArithOp) (a b : NumOperand) : N Reg80 := do
  signalUnmasked (a.den || b.den) .denormalized
  if classOf a.val = .nan ∨ classOf b.val = .nan then invalidResult (largerNaN a.val b.val)
  else
    match op with
    | .add => addReal a b
    | .sub => addReal a b.negated
    | .subr => addReal b a.negated
    | .mul => mulReal a b
    | .div => divReal a b
    | .divr => divReal b a

/-- ST(d) ← Arith(op, ST(d), ST(s)) (R641). -/
def arithST (op : ArithOp) (d s : BitVec 3) : N Unit := do
  let a ← source d
  let b ← source s
  let v ← arith op (regOperand a) (regOperand b)
  putST d v

/-- The same, and a pop (R641). -/
def arithPop (op : ArithOp) (d : BitVec 3) : N Unit := do
  arithST op d 0
  popST

/-- ST ← Arith(op, ST, memory) (R641). -/
def arithMem (op : ArithOp) (b : NumOperand) : N Unit := do
  let a ← source 0
  let v ← arith op (regOperand a) b
  putST 0 v

/-- An integer memory operand (R644). -/
def intNum (bits v : Nat) : NumOperand := ⟨ofIntReal (BitVec.ofNat bits v).toInt, false⟩

/-! ### Comparison (R670) -/

/-- C3, C2 and C0; C1 is not affected (48_npx_architecture.md R616). -/
def setCompare (c3 c2 c0 : Bool) : N Unit :=
  changeNpx fun n => n.setCond c3 c2 (n.sw.c1) c0

/-- Not comparable: written even if the invalid operation is unmasked (R670, D40). -/
def notComparable : N Unit := do
  setCompare true true true
  signal .invalid

/-- A finite value or an affine infinity against another: the order of their values, zeros of all kinds equal. -/
def orderOf (a b : Reg80) : Ordering :=
  let key := fun x : Reg80 =>
    if classOf x = .infinity then (if realSign x then (-1 : Int) else 1) else 0
  match compare (key a) (key b) with
  | .eq =>
    if classOf a = .infinity then .eq
    else
      let e := min (magnitude a).e (magnitude b).e
      compare (signedAt (realSign a) (magnitude a) e) (signedAt (realSign b) (magnitude b) e)
  | o => o

/-- Compare(a, b) (R670). Its step 2 signals D, masked or not, before the I of steps 3 and 4; the general order of
48_npx_architecture.md R574 and of R624 puts that I before a masked D, and an unmasked I would then leave DE clear.
DESIGN CHOICE: R670's own order (log 57). -/
def compareReal (a b : NumOperand) : N Unit := do
  let n ← theNpx
  signalIf (a.den || b.den || classOf a.val == .unnormal || classOf b.val == .unnormal) .denormalized
  let ia := classOf a.val == .infinity
  let ib := classOf b.val == .infinity
  if classOf a.val = .nan ∨ classOf b.val = .nan then notComparable
  else if !n.affine && ia && ib then setCompare true false false
  else if !n.affine && (ia || ib) then notComparable
  else
    match orderOf a.val b.val with
    | .gt => setCompare false false false
    | .lt => setCompare false false true
    | .eq => setCompare true false false

/-- ST against ST(i) (R671). -/
def compareST (i : BitVec 3) : N Unit := do
  let a ← source 0
  let b ← source i
  compareReal (regOperand a) (regOperand b)

/-- ST against a memory operand (R671, R674), or against +0 (R676). -/
def compareMem (b : NumOperand) : N Unit := do
  let a ← source 0
  compareReal (regOperand a) b

/-- A comparison, and a pop, which an unmasked exception suppresses (R672). -/
def comparePop (x : N Unit) : N Unit := do
  x
  popST

/-- FXAM: C3, C2 and C0 of a class (48_npx_architecture.md R616). -/
def examCode : RealClass → Bool × Bool × Bool
  | .unnormal | .pseudoZero => (false, false, false)
  | .nan => (false, false, true)
  | .normal => (false, true, false)
  | .infinity => (false, true, true)
  | .zero => (true, false, false)
  | .denormal => (true, true, false)

/-- FXAM (R677). -/
def examine : N Unit := do
  let n ← theNpx
  let x := n.reg n.top
  if n.empty n.top then do
    let c2 ← anyBit
    changeNpx fun n => n.setCond true c2 (realSign x) true
  else
    let c := examCode (classOf x)
    changeNpx fun n => n.setCond c.1 c.2.1 (realSign x) c.2.2

/-! ### One operand (R660, R663, R665, R666) -/

/-- ST replaced. -/
def replaceST (x : N Reg80) : N Unit := do
  let v ← x
  putST 0 v

/-- FSQRT of a value (R660). Of a denormal it signals D, masked or not, and then I, in the order of R660 and of
48_npx_architecture.md R553; R574 and R624 put that I before a masked D, and an unmasked I would then leave DE clear.
DESIGN CHOICE: R660's order (log 57). -/
def sqrtReal (x : Reg80) : N Reg80 := do
  let n ← theNpx
  match classOf x with
  | .nan => invalidResult x
  | .denormal => do
    signal .denormalized
    invalidResult realIndefinite
  | .unnormal | .pseudoZero => invalidResult realIndefinite
  | .zero => return x
  | .infinity => if n.affine && !realSign x then return x else invalidResult realIndefinite
  | .normal =>
    if realSign x then invalidResult realIndefinite
    else deliverReal80 n.precision 0 false (sqrtExact (magnitude x))

/-- A magnitude that 64 bits hold, normalised. -/
def normalized (neg : Bool) (n : Nat) (e : Int) : Reg80 :=
  if n = 0 then realZero neg
  else mkReal neg (e + Nat.log2 n + 16383).toNat (n <<< (63 - Nat.log2 n))

/-- FRNDINT of a value (R663). -/
def roundReal (x : Reg80) : N Reg80 := do
  let n ← theNpx
  match classOf x with
  | .nan => invalidResult x
  | .infinity | .zero => return x
  | .pseudoZero => return realZero (realSign x)
  | .normal | .unnormal | .denormal =>
    let m := magnitude x
    if 0 ≤ m.e then return normalized (realSign x) m.n m.e
    else do
      let r := roundTo n.rounding (realSign x) m 0
      signalPrecision r.2
      return normalized (realSign x) r.1 0

/-- An instruction that replaces ST by a function of it. -/
def unary (f : Reg80 → N Reg80) : N Unit := replaceST do
  let x ← source 0
  f x

/-- FABS and FCHS of a register that is not empty; of an empty one real indefinite, as it stands (R665, R666). -/
def signOp (f : Bool → Bool) : N Unit := do
  let n ← theNpx
  let x ← source 0
  putST 0 (if n.empty n.top then x else withSign x (f (realSign x)))

/-! ### FSCALE, FPREM, FXTRACT (R661, R662, R664) -/

/-- The value of a finite nonzero normal, chopped toward zero. -/
def chopInt (x : Reg80) : Int :=
  let q := (roundTo .chop false (magnitude x) 0).1
  if realSign x then -(q : Int) else q

/-- ST(1) is at least 1 in magnitude and in the range of FSCALE. -/
def scaleInRange (y : Reg80) : Bool :=
  let r := roundTo .chop false (magnitude y) 0
  r.1 != 0 && (decide (r.1 < 2 ^ 15) || (realSign y && r.1 == 2 ^ 15 && !r.2))

/-- A finite nonzero value times 2^k: the significand is not altered, no P (R661). -/
def scaleBy (x : Reg80) (k : Int) : N Reg80 := do
  let e := (realEff x : Int) + k
  if 0x7FFE < e then overflowResult false (realSign x) (realSig x)
  else if e < 1 then do
    let v ← underflowResult (realSign x) ⟨realSig x, e - 16383 - 63, false⟩
    return v.1
  else return mkReal (realSign x) e.toNat (realSig x)

/-- FSCALE: `x` scaled by `y` (R661; 48_npx_architecture.md R553, R556). R553 calls the result undefined if either is
unnormal, and R556, R557 and R661 have rows that take in some of these cases. DESIGN CHOICE (log 60): the rows for a NaN, an
infinity and a zero `x` come first, with an unnormal other operand too, which counts there as finite and not zero; else an
unnormal operand gives a free value, also with a `y` of zero, where R661 would leave `x` unchanged. -/
def scaleReal (x y : Reg80) : N Reg80 :=
  let ix := classOf x == .infinity
  let iy := classOf y == .infinity
  if classOf x = .nan ∨ classOf y = .nan then invalidResult (largerNaN x y)
  else if ix && iy then invalidResult realIndefinite
  else if ix || classOf x == .zero then return x
  else if iy then invalidResult realIndefinite
  else if unnormalClass x || unnormalClass y then anyReal
  else if classOf y = .zero then return x
  else if scaleInRange y then scaleBy x (chopInt y)
  else anyReal

def fscaleOp : N Unit := replaceST do
  let x ← source 0
  let y ← source 1
  scaleReal x y

/-- C2 alone. -/
def setC2 (b : Bool) : N Unit := changeNpx fun n => { n with sw := { n.sw with c2 := b } }

/-- The condition code of a complete reduction with quotient `q` (R662). -/
def Npx.remCond (n : Npx) (q : Nat) : Npx :=
  n.setCond (if 2 ≤ q then q.testBit 1 else n.sw.c1) false (q.testBit 0)
    (if 4 ≤ q then q.testBit 2 else n.sw.c3)

/-- The remainder of `a` by a normal `b`, both finite, `d` being the difference of the true exponents (R662, D42). -/
def remFinite (a b : Reg80) : N Reg80 := do
  let x := magnitude a
  let y := magnitude b
  let neg := realSign a
  let d := realTrue a - realTrue b
  if classOf a = .zero then do
    changeNpx fun n => n.remCond 0
    return realZero neg
  else if d < 64 then do
    let e := min x.e y.e
    let q := x.at e / y.at e
    let r := x.at e % y.at e
    changeNpx fun n => n.remCond q
    if r = 0 then return realZero neg else deliverReal80 64 0 neg ⟨r, e, false⟩
  else do
    let m : Exact := { y with e := y.e + (d - 63) }
    let e := min x.e m.e
    let r := x.at e % m.at e
    let c3 ← anyBit
    let c1 ← anyBit
    let c0 ← anyBit
    changeNpx fun n => n.setCond c3 true c1 c0
    if r = 0 then return realZero neg else deliverReal80 64 0 neg ⟨r, e, false⟩

/-- FPREM of `a` by `b` (R662). DESIGN CHOICE: an infinite `b` leaves an unnormal `a` as it is, as R662 says;
48_npx_architecture.md R553 would normalize it (log 62). -/
def remReal (a b : NumOperand) : N Reg80 := do
  signalUnmasked (a.den || b.den) .denormalized
  let badDivisor := classOf b.val == .zero || b.den || unnormalClass b.val
  if classOf a.val = .nan ∨ classOf b.val = .nan then invalidResult (largerNaN a.val b.val)
  else if classOf a.val == .infinity || badDivisor then do
    signal .invalid
    setC2 false
    return realIndefinite
  else do
    signalIf a.den .denormalized
    if classOf b.val = .infinity then do
      changeNpx fun n => n.remCond 0
      return a.val
    else remFinite a.val b.val

def fpremOp : N Unit := replaceST do
  let a ← source 0
  let b ← source 1
  remReal (regOperand a) (regOperand b)

/-- Two results: one replaces ST, the other is pushed (R664, R681). -/
def putPair (y x : Reg80) : N Unit := changeNpx fun n => (n.put n.top y).push x

/-- FXTRACT (R664, D43). DESIGN CHOICE: the fields of an unnormal and of a pseudo-zero are extracted literally, as R664
says; the last row of 48_npx_architecture.md R553 calls the result undefined (log 62). A stack fault goes before a NaN
(log 39). -/
def fxtractOp : N Unit := do
  let x ← source 0
  let ok ← stackRoom
  if !ok then putPair realIndefinite realIndefinite
  else
    match classOf x with
    | .nan => do
      signal .invalid
      putPair x x
    | .infinity => do
      signal .invalid
      putPair realIndefinite realIndefinite
    | .zero => putPair x x
    | .denormal | .normal | .unnormal | .pseudoZero =>
      putPair (ofIntReal (realTrue x)) (mkReal (realSign x) 0x3FFF (realSig x))

/-! ### Transcendental instructions (R680 to R685; U30, U33; log 42) -/

/-- A delivered result: P unless it is zero (R680). -/
def deliverApprox (v : Reg80) : N Reg80 := do
  signalPrecision (classOf v != .zero)
  return v

/-- The same for an instruction that lists U (R682, R683): a denormal result is an underflow, and so is a zero that stands
for a result which is not zero (48_npx_architecture.md R579). -/
def deliverTiny (nonzero : Bool) (v : Reg80) : N Reg80 := do
  if classOf v = .denormal ∨ (nonzero = true ∧ classOf v = .zero) then do
    changeNpx fun n => n.flag .underflow
    let n ← theNpx
    if n.masked .underflow then do
      signalPrecision true
      return v
    else anyReal
  else deliverApprox v

/-- A number other than zero; 1 stands for a value that is none (R681: the X of FPTAN is not zero; log 42). -/
def nonzeroNumber (x : Reg80) : Reg80 := if realSig x = 0 ∨ classOf x = .nan then mkReal false 0x3FFF (2 ^ 63) else x

/-- A normal value or a zero. -/
def normalOrZero (x : Reg80) : Bool := classOf x == .normal || classOf x == .zero

/-- The magnitude's bits, in the order of magnitudes of normalized values. -/
def magnitudeBits (x : Reg80) : BitVec 79 := x.extractLsb' 0 79

/-- 0 ≤ x ≤ pi/4 (R681): the bound is pi/4 chopped to 64 bits. -/
def tanInRange (x : Reg80) : Bool :=
  classOf x == .zero || (classOf x == .normal && !realSign x && (magnitudeBits x).ule 0x3FFEC90FDAA22168C234)

/-- FPTAN (R681, D43). DESIGN CHOICE: a masked stack fault of the push answers real indefinite in both registers whatever
ST holds, a NaN or an operand out of range too; D43 has 'the indefinite (or the NaN)', and R680 an undefined result for such
an operand (log 63). -/
def fptanOp : N Unit := do
  let n ← theNpx
  let x := n.reg n.top
  let ok ← stackRoom
  if !ok then putPair realIndefinite realIndefinite
  else if !n.empty n.top && tanInRange x then do
    let r := Config.npxTan n.cw x
    let y ← deliverApprox (if classOf x = .zero then x else r.1)
    putPair y (nonzeroNumber r.2)
  else do
    let y ← anyReal
    let w ← anyReal
    putPair y w

/-- The new top after a pop (R682, R684, R685). -/
def popPut (v : Reg80) : N Unit := changeNpx fun n => n.pop.put n.pop.top v

/-- 0 ≤ y < x < infinity (R682). -/
def atanInRange (y x : Reg80) : Bool :=
  classOf x == .normal && !realSign x && normalOrZero y && (!realSign y || classOf y == .zero) &&
    (magnitudeBits y).ult (magnitudeBits x)

/-- An instruction that takes ST and ST(1), pops, and delivers one result; an operand out of range or in an empty
register leaves it undefined (R680). -/
def binaryApprox (inRange : Reg80 → Reg80 → Bool) (f : Word → Reg80 → Reg80 → N Reg80) : N Unit := do
  let n ← theNpx
  let x := n.reg n.top
  let y := n.reg (n.top + 1)
  let v ← if !n.empty n.top && !n.empty (n.top + 1) && inRange y x then f n.cw y x else anyReal
  popPut v

/-- FPATAN (R682). -/
def fpatanOp : N Unit := binaryApprox atanInRange fun cw y x =>
  deliverTiny (classOf y != .zero) (Config.npxAtan cw y x)

/-- 0 ≤ x ≤ 0.5 (R683). -/
def exp2InRange (x : Reg80) : Bool :=
  classOf x == .normal && !realSign x && (magnitudeBits x).ule 0x3FFE8000000000000000

/-- F2XM1 (R683). -/
def f2xm1Op : N Unit := do
  let n ← theNpx
  let x := n.reg n.top
  let v ← if n.empty n.top then anyReal
    else if classOf x = .zero then pure x
    else if exp2InRange x then deliverTiny true (Config.npx2xm1 n.cw x)
    else anyReal
  putST 0 v

/-- 0 < x < infinity, y finite (R684). -/
def logInRange (y x : Reg80) : Bool := classOf x == .normal && !realSign x && normalOrZero y

/-- FYL2X (R684). -/
def fyl2xOp : N Unit := binaryApprox logInRange fun cw y x => deliverApprox (Config.npxYl2x cw y x)

/-- |x| < 1 - sqrt 2 / 2, that is x = 0, or 2 (1 - |x|)^2 > 1 with |x| < 1 (R685). -/
def log1InRange (y x : Reg80) : Bool :=
  let m := magnitude x
  let one := 2 ^ (-m.e).toNat
  normalOrZero y &&
    (classOf x == .zero ||
      (classOf x == .normal && decide (realTrue x < 0) && decide (one ^ 2 < 2 * (one - m.n) ^ 2)))

/-- FYL2XP1 (R685). -/
def fyl2xp1Op : N Unit := binaryApprox log1InRange fun cw y x => deliverApprox (Config.npxYl2xp1 cw y x)

/-! ### Instructions -/

/-- FADD m32real (49_npx_instructions.md R642). -/
def execFaddM32real (ea : Ea) (s : State) : Result :=
  runInstr (escLoad (memOpcode 0 0 ea) ea 2 fun v => arithMem .add (shortReal.load v)) s

/-- FMUL m32real (49_npx_instructions.md R651). -/
def execFmulM32real (ea : Ea) (s : State) : Result :=
  runInstr (escLoad (memOpcode 0 1 ea) ea 2 fun v => arithMem .mul (shortReal.load v)) s

/-- FCOM m32real (49_npx_instructions.md R671). -/
def execFcomM32real (ea : Ea) (s : State) : Result :=
  runInstr (escLoad (memOpcode 0 2 ea) ea 2 fun v => compareMem (shortReal.load v)) s

/-- FCOMP m32real (49_npx_instructions.md R672). -/
def execFcompM32real (ea : Ea) (s : State) : Result :=
  runInstr (escLoad (memOpcode 0 3 ea) ea 2 fun v => comparePop (compareMem (shortReal.load v))) s

/-- FSUB m32real (49_npx_instructions.md R645). -/
def execFsubM32real (ea : Ea) (s : State) : Result :=
  runInstr (escLoad (memOpcode 0 4 ea) ea 2 fun v => arithMem .sub (shortReal.load v)) s

/-- FSUBR m32real (49_npx_instructions.md R648). -/
def execFsubrM32real (ea : Ea) (s : State) : Result :=
  runInstr (escLoad (memOpcode 0 5 ea) ea 2 fun v => arithMem .subr (shortReal.load v)) s

/-- FDIV m32real (49_npx_instructions.md R654). -/
def execFdivM32real (ea : Ea) (s : State) : Result :=
  runInstr (escLoad (memOpcode 0 6 ea) ea 2 fun v => arithMem .div (shortReal.load v)) s

/-- FDIVR m32real (49_npx_instructions.md R657). -/
def execFdivrM32real (ea : Ea) (s : State) : Result :=
  runInstr (escLoad (memOpcode 0 7 ea) ea 2 fun v => arithMem .divr (shortReal.load v)) s

/-- FADD ST,ST(i) (49_npx_instructions.md R642). -/
def execFaddStSti (i : BitVec 3) (s : State) : Result := runInstr (escReg (stiOpcode 0 0xC0 i) (arithST .add 0 i)) s

/-- FMUL ST,ST(i) (49_npx_instructions.md R651). -/
def execFmulStSti (i : BitVec 3) (s : State) : Result := runInstr (escReg (stiOpcode 0 0xC8 i) (arithST .mul 0 i)) s

/-- FCOM ST(i) (49_npx_instructions.md R671). -/
def execFcomSti (i : BitVec 3) (s : State) : Result := runInstr (escReg (stiOpcode 0 0xD0 i) (compareST i)) s

/-- FCOMP ST(i) (49_npx_instructions.md R672). -/
def execFcompSti (i : BitVec 3) (s : State) : Result :=
  runInstr (escReg (stiOpcode 0 0xD8 i) (comparePop (compareST i))) s

/-- FSUB ST,ST(i) (49_npx_instructions.md R645). -/
def execFsubStSti (i : BitVec 3) (s : State) : Result := runInstr (escReg (stiOpcode 0 0xE0 i) (arithST .sub 0 i)) s

/-- FSUBR ST,ST(i) (49_npx_instructions.md R648). -/
def execFsubrStSti (i : BitVec 3) (s : State) : Result := runInstr (escReg (stiOpcode 0 0xE8 i) (arithST .subr 0 i)) s

/-- FDIV ST,ST(i) (49_npx_instructions.md R654). -/
def execFdivStSti (i : BitVec 3) (s : State) : Result := runInstr (escReg (stiOpcode 0 0xF0 i) (arithST .div 0 i)) s

/-- FDIVR ST,ST(i) (49_npx_instructions.md R657). -/
def execFdivrStSti (i : BitVec 3) (s : State) : Result := runInstr (escReg (stiOpcode 0 0xF8 i) (arithST .divr 0 i)) s

/-- FCHS (49_npx_instructions.md R666). -/
def execFchs (s : State) : Result := runInstr (escReg (regOpcode 1 0xE0) (signOp fun b => !b)) s

/-- FABS (49_npx_instructions.md R665). -/
def execFabs (s : State) : Result := runInstr (escReg (regOpcode 1 0xE1) (signOp fun _ => false)) s

/-- FTST (49_npx_instructions.md R676). -/
def execFtst (s : State) : Result := runInstr (escReg (regOpcode 1 0xE4) (compareMem (regOperand 0))) s

/-- FXAM (49_npx_instructions.md R677). -/
def execFxam (s : State) : Result := runInstr (escReg (regOpcode 1 0xE5) examine) s

/-- F2XM1 (49_npx_instructions.md R683). -/
def execF2xm1 (s : State) : Result := runInstr (escReg (regOpcode 1 0xF0) f2xm1Op) s

/-- FYL2X (49_npx_instructions.md R684). -/
def execFyl2x (s : State) : Result := runInstr (escReg (regOpcode 1 0xF1) fyl2xOp) s

/-- FPTAN (49_npx_instructions.md R681). -/
def execFptan (s : State) : Result := runInstr (escReg (regOpcode 1 0xF2) fptanOp) s

/-- FPATAN (49_npx_instructions.md R682). -/
def execFpatan (s : State) : Result := runInstr (escReg (regOpcode 1 0xF3) fpatanOp) s

/-- FXTRACT (49_npx_instructions.md R664). -/
def execFxtract (s : State) : Result := runInstr (escReg (regOpcode 1 0xF4) fxtractOp) s

/-- FPREM (49_npx_instructions.md R662). -/
def execFprem (s : State) : Result := runInstr (escReg (regOpcode 1 0xF8) fpremOp) s

/-- FYL2XP1 (49_npx_instructions.md R685). -/
def execFyl2xp1 (s : State) : Result := runInstr (escReg (regOpcode 1 0xF9) fyl2xp1Op) s

/-- FSQRT (49_npx_instructions.md R660). -/
def execFsqrt (s : State) : Result := runInstr (escReg (regOpcode 1 0xFA) (unary sqrtReal)) s

/-- FRNDINT (49_npx_instructions.md R663). -/
def execFrndint (s : State) : Result := runInstr (escReg (regOpcode 1 0xFC) (unary roundReal)) s

/-- FSCALE (49_npx_instructions.md R661). -/
def execFscale (s : State) : Result := runInstr (escReg (regOpcode 1 0xFD) fscaleOp) s

/-- FIADD m32int (49_npx_instructions.md R644). -/
def execFiaddM32int (ea : Ea) (s : State) : Result :=
  runInstr (escLoad (memOpcode 2 0 ea) ea 2 fun v => arithMem .add (intNum 32 v)) s

/-- FIMUL m32int (49_npx_instructions.md R653). -/
def execFimulM32int (ea : Ea) (s : State) : Result :=
  runInstr (escLoad (memOpcode 2 1 ea) ea 2 fun v => arithMem .mul (intNum 32 v)) s

/-- FICOM m32int (49_npx_instructions.md R674). -/
def execFicomM32int (ea : Ea) (s : State) : Result :=
  runInstr (escLoad (memOpcode 2 2 ea) ea 2 fun v => compareMem (intNum 32 v)) s

/-- FICOMP m32int (49_npx_instructions.md R675). -/
def execFicompM32int (ea : Ea) (s : State) : Result :=
  runInstr (escLoad (memOpcode 2 3 ea) ea 2 fun v => comparePop (compareMem (intNum 32 v))) s

/-- FISUB m32int (49_npx_instructions.md R647). -/
def execFisubM32int (ea : Ea) (s : State) : Result :=
  runInstr (escLoad (memOpcode 2 4 ea) ea 2 fun v => arithMem .sub (intNum 32 v)) s

/-- FISUBR m32int (49_npx_instructions.md R650). -/
def execFisubrM32int (ea : Ea) (s : State) : Result :=
  runInstr (escLoad (memOpcode 2 5 ea) ea 2 fun v => arithMem .subr (intNum 32 v)) s

/-- FIDIV m32int (49_npx_instructions.md R656). -/
def execFidivM32int (ea : Ea) (s : State) : Result :=
  runInstr (escLoad (memOpcode 2 6 ea) ea 2 fun v => arithMem .div (intNum 32 v)) s

/-- FIDIVR m32int (49_npx_instructions.md R659). -/
def execFidivrM32int (ea : Ea) (s : State) : Result :=
  runInstr (escLoad (memOpcode 2 7 ea) ea 2 fun v => arithMem .divr (intNum 32 v)) s

/-- FADD m64real (49_npx_instructions.md R642). -/
def execFaddM64real (ea : Ea) (s : State) : Result :=
  runInstr (escLoad (memOpcode 4 0 ea) ea 4 fun v => arithMem .add (longReal.load v)) s

/-- FMUL m64real (49_npx_instructions.md R651). -/
def execFmulM64real (ea : Ea) (s : State) : Result :=
  runInstr (escLoad (memOpcode 4 1 ea) ea 4 fun v => arithMem .mul (longReal.load v)) s

/-- FCOM m64real (49_npx_instructions.md R671). -/
def execFcomM64real (ea : Ea) (s : State) : Result :=
  runInstr (escLoad (memOpcode 4 2 ea) ea 4 fun v => compareMem (longReal.load v)) s

/-- FCOMP m64real (49_npx_instructions.md R672). -/
def execFcompM64real (ea : Ea) (s : State) : Result :=
  runInstr (escLoad (memOpcode 4 3 ea) ea 4 fun v => comparePop (compareMem (longReal.load v))) s

/-- FSUB m64real (49_npx_instructions.md R645). -/
def execFsubM64real (ea : Ea) (s : State) : Result :=
  runInstr (escLoad (memOpcode 4 4 ea) ea 4 fun v => arithMem .sub (longReal.load v)) s

/-- FSUBR m64real (49_npx_instructions.md R648). -/
def execFsubrM64real (ea : Ea) (s : State) : Result :=
  runInstr (escLoad (memOpcode 4 5 ea) ea 4 fun v => arithMem .subr (longReal.load v)) s

/-- FDIV m64real (49_npx_instructions.md R654). -/
def execFdivM64real (ea : Ea) (s : State) : Result :=
  runInstr (escLoad (memOpcode 4 6 ea) ea 4 fun v => arithMem .div (longReal.load v)) s

/-- FDIVR m64real (49_npx_instructions.md R657). -/
def execFdivrM64real (ea : Ea) (s : State) : Result :=
  runInstr (escLoad (memOpcode 4 7 ea) ea 4 fun v => arithMem .divr (longReal.load v)) s

/-- FADD ST(i),ST (49_npx_instructions.md R642). -/
def execFaddStiSt (i : BitVec 3) (s : State) : Result := runInstr (escReg (stiOpcode 4 0xC0 i) (arithST .add i 0)) s

/-- FMUL ST(i),ST (49_npx_instructions.md R651). -/
def execFmulStiSt (i : BitVec 3) (s : State) : Result := runInstr (escReg (stiOpcode 4 0xC8 i) (arithST .mul i 0)) s

/-- FCOM ST(i) (49_npx_instructions.md R671). -/
def execFcomStiDC (i : BitVec 3) (s : State) : Result := runInstr (escReg (stiOpcode 4 0xD0 i) (compareST i)) s

/-- FCOMP ST(i) (49_npx_instructions.md R672). -/
def execFcompStiDC (i : BitVec 3) (s : State) : Result :=
  runInstr (escReg (stiOpcode 4 0xD8 i) (comparePop (compareST i))) s

/-- FSUBR ST(i),ST (49_npx_instructions.md R648). -/
def execFsubrStiSt (i : BitVec 3) (s : State) : Result := runInstr (escReg (stiOpcode 4 0xE0 i) (arithST .subr i 0)) s

/-- FSUB ST(i),ST (49_npx_instructions.md R645). -/
def execFsubStiSt (i : BitVec 3) (s : State) : Result := runInstr (escReg (stiOpcode 4 0xE8 i) (arithST .sub i 0)) s

/-- FDIVR ST(i),ST (49_npx_instructions.md R657). -/
def execFdivrStiSt (i : BitVec 3) (s : State) : Result := runInstr (escReg (stiOpcode 4 0xF0 i) (arithST .divr i 0)) s

/-- FDIV ST(i),ST (49_npx_instructions.md R654). -/
def execFdivStiSt (i : BitVec 3) (s : State) : Result := runInstr (escReg (stiOpcode 4 0xF8 i) (arithST .div i 0)) s

/-- FIADD m16int (49_npx_instructions.md R644). -/
def execFiaddM16int (ea : Ea) (s : State) : Result :=
  runInstr (escLoad (memOpcode 6 0 ea) ea 1 fun v => arithMem .add (intNum 16 v)) s

/-- FIMUL m16int (49_npx_instructions.md R653). -/
def execFimulM16int (ea : Ea) (s : State) : Result :=
  runInstr (escLoad (memOpcode 6 1 ea) ea 1 fun v => arithMem .mul (intNum 16 v)) s

/-- FICOM m16int (49_npx_instructions.md R674). -/
def execFicomM16int (ea : Ea) (s : State) : Result :=
  runInstr (escLoad (memOpcode 6 2 ea) ea 1 fun v => compareMem (intNum 16 v)) s

/-- FICOMP m16int (49_npx_instructions.md R675). -/
def execFicompM16int (ea : Ea) (s : State) : Result :=
  runInstr (escLoad (memOpcode 6 3 ea) ea 1 fun v => comparePop (compareMem (intNum 16 v))) s

/-- FISUB m16int (49_npx_instructions.md R647). -/
def execFisubM16int (ea : Ea) (s : State) : Result :=
  runInstr (escLoad (memOpcode 6 4 ea) ea 1 fun v => arithMem .sub (intNum 16 v)) s

/-- FISUBR m16int (49_npx_instructions.md R650). -/
def execFisubrM16int (ea : Ea) (s : State) : Result :=
  runInstr (escLoad (memOpcode 6 5 ea) ea 1 fun v => arithMem .subr (intNum 16 v)) s

/-- FIDIV m16int (49_npx_instructions.md R656). -/
def execFidivM16int (ea : Ea) (s : State) : Result :=
  runInstr (escLoad (memOpcode 6 6 ea) ea 1 fun v => arithMem .div (intNum 16 v)) s

/-- FIDIVR m16int (49_npx_instructions.md R659). -/
def execFidivrM16int (ea : Ea) (s : State) : Result :=
  runInstr (escLoad (memOpcode 6 7 ea) ea 1 fun v => arithMem .divr (intNum 16 v)) s

/-- FADDP ST(i),ST (49_npx_instructions.md R643). -/
def execFaddpStiSt (i : BitVec 3) (s : State) : Result := runInstr (escReg (stiOpcode 6 0xC0 i) (arithPop .add i)) s

/-- FMULP ST(i),ST (49_npx_instructions.md R652). -/
def execFmulpStiSt (i : BitVec 3) (s : State) : Result := runInstr (escReg (stiOpcode 6 0xC8 i) (arithPop .mul i)) s

/-- FCOMP ST(i) (49_npx_instructions.md R672). -/
def execFcompStiDE (i : BitVec 3) (s : State) : Result :=
  runInstr (escReg (stiOpcode 6 0xD0 i) (comparePop (compareST i))) s

/-- FCOMPP (49_npx_instructions.md R673). -/
def execFcompp (s : State) : Result := runInstr (escReg (regOpcode 6 0xD9) (comparePop (comparePop (compareST 1)))) s

/-- FSUBRP ST(i),ST (49_npx_instructions.md R649). -/
def execFsubrpStiSt (i : BitVec 3) (s : State) : Result := runInstr (escReg (stiOpcode 6 0xE0 i) (arithPop .subr i)) s

/-- FSUBP ST(i),ST (49_npx_instructions.md R646). -/
def execFsubpStiSt (i : BitVec 3) (s : State) : Result := runInstr (escReg (stiOpcode 6 0xE8 i) (arithPop .sub i)) s

/-- FDIVRP ST(i),ST (49_npx_instructions.md R658). -/
def execFdivrpStiSt (i : BitVec 3) (s : State) : Result := runInstr (escReg (stiOpcode 6 0xF0 i) (arithPop .divr i)) s

/-- FDIVP ST(i),ST (49_npx_instructions.md R655). -/
def execFdivpStiSt (i : BitVec 3) (s : State) : Result := runInstr (escReg (stiOpcode 6 0xF8 i) (arithPop .div i)) s

end Sys2Proof.Machine
end

