-- ==== Sys2Proof/Machine/NpxControl.lean ====
section
/-! DEFINITION. 80287 processor control (49_npx_instructions.md R622, R700 to R715). -/

namespace Sys2Proof.Machine

/-- FINIT (R700). -/
def initNpx : N Unit := do
  let cc ← anyWord
  changeNpx fun n => n.init cc

/-- FNCLEX (R707): the exception flags, the reserved bit 6 (log 18) and ES. -/
def Npx.clearFlags (n : Npx) : Npx := { n with sw := { n.sw with es := false, bit6 := false, exc := 0 } }

/-- FNSTSW AX (R706; 48_npx_architecture.md R539). -/
def statusToAx : M Unit := do
  escTest false
  modify fun s => s.setReg16 .ax (if s.npxPresent then s.npx.sw.word else 0xFFFF)

/-- FFREE ST(i) (R714). -/
def freeST (i : BitVec 3) : N Unit := changeNpx fun n => n.setTag (n.phys i) 3

/-- FFREE ST(i) and pop (R623). -/
def freePopST (i : BitVec 3) : N Unit := do
  freeST i
  popST

/-! ### Instructions -/

/-- FLDENV m14byte (49_npx_instructions.md R709). -/
def execFldenvM14byte (ea : Ea) (s : State) : Result := runInstr (escLoadState ea 7 Npx.loadEnv) s

/-- FLDCW m2byte (49_npx_instructions.md R703). -/
def execFldcwM2byte (ea : Ea) (s : State) : Result := runInstr (escLoadState ea 1 fun ws n => n.setCW (wordAt ws 0)) s

/-- FNSTENV m14byte (49_npx_instructions.md R708). -/
def execFnstenvM14byte (ea : Ea) (s : State) : Result :=
  runInstr (escStoreState ea [] Npx.envWords (changeNpx fun n => n.setCW (n.cw ||| 0x003F))) s

/-- FNSTCW m2byte (49_npx_instructions.md R704). -/
def execFnstcwM2byte (ea : Ea) (s : State) : Result :=
  runInstr (escStoreState ea [0xFFFF] (fun n => [n.cw]) (pure ())) s

/-- FNOP (49_npx_instructions.md R715). -/
def execFnop (s : State) : Result := runInstr (escReg (regOpcode 1 0xD0) (pure ())) s

/-- FDECSTP (49_npx_instructions.md R713). -/
def execFdecstp (s : State) : Result :=
  runInstr (escReg (regOpcode 1 0xF6) (changeNpx fun n => n.setTop (n.top - 1))) s

/-- FINCSTP (49_npx_instructions.md R712). -/
def execFincstp (s : State) : Result :=
  runInstr (escReg (regOpcode 1 0xF7) (changeNpx fun n => n.setTop (n.top + 1))) s

/-- FNENI (49_npx_instructions.md R702). -/
def execFneni (s : State) : Result := runInstr (escControl true (pure ())) s

/-- FNDISI (49_npx_instructions.md R702). -/
def execFndisi (s : State) : Result := runInstr (escControl true (pure ())) s

/-- FNCLEX (49_npx_instructions.md R707). -/
def execFnclex (s : State) : Result :=
  runInstr (escControl false (changeNpx fun n => n.clearFlags)) s

/-- FNINIT (49_npx_instructions.md R700). -/
def execFninit (s : State) : Result := runInstr (escControl false initNpx) s

/-- FSETPM (49_npx_instructions.md R701). -/
def execFsetpm (s : State) : Result :=
  runInstr (escControl false (changeNpx fun n => { n with protectedMode := true })) s

/-- FRSTOR m94byte (49_npx_instructions.md R711). -/
def execFrstorM94byte (ea : Ea) (s : State) : Result := runInstr (escLoadState ea 47 Npx.loadAll) s

/-- FNSAVE m94byte (49_npx_instructions.md R710). -/
def execFnsaveM94byte (ea : Ea) (s : State) : Result := runInstr (escStoreState ea [] Npx.saveWords initNpx) s

/-- FNSTSW m2byte (49_npx_instructions.md R705). -/
def execFnstswM2byte (ea : Ea) (s : State) : Result :=
  runInstr (escStoreState ea [0xFFFF] (fun n => [n.sw.word]) (pure ())) s

/-- FFREE ST(i) (49_npx_instructions.md R714). -/
def execFfreeSti (i : BitVec 3) (s : State) : Result := runInstr (escReg (stiOpcode 5 0xC0 i) (freeST i)) s

/-- FFREE ST(i) (49_npx_instructions.md R714). -/
def execFfreeStiDF (i : BitVec 3) (s : State) : Result := runInstr (escReg (stiOpcode 7 0xC0 i) (freePopST i)) s

/-- FNSTSW AX (49_npx_instructions.md R706). -/
def execFnstswAx (s : State) : Result := runInstr statusToAx s

/-- ESC reserved (49_npx_instructions.md R622). -/
def execEscReserved (_x : BitVec 3) (_g : BitVec 3) (_d : Rm (BitVec 3)) (s : State) : Result :=
  runInstr (escControl true (pure ())) s

end Sys2Proof.Machine
end

