-- ==== Sys2Proof/Machine/NpxTransfer.lean ====
section
/-! DEFINITION. 80287 data transfers and constants (49_npx_instructions.md R625 to R633, R690 to R697). -/

namespace Sys2Proof.Machine

/-- A memory operand pushed: the stack fault, then the denormal source (R625, 48_npx_architecture.md R574). -/
def loadOperand (x : NumOperand) : N Unit := do
  let ok ← stackRoom
  signalIf x.den .denormalized
  changeNpx fun n => n.push (if ok then x.val else realIndefinite)

/-- FLD of a short or long real (R625). -/
def loadReal (f : RealFmt) (v : Nat) : N Unit := loadOperand (f.load v)

/-- FLD of a temporary real (R625). -/
def loadTemp (v : Nat) : N Unit := loadOperand (regOperand (BitVec.ofNat 80 v))

/-- FLD ST(i): the register is read before ST moves (R625). -/
def loadST (i : BitVec 3) : N Unit := do
  let v ← source i
  pushST v

/-- The signed value of a binary integer operand (48_npx_architecture.md R541). -/
def intOperand (bits v : Nat) : Reg80 := ofIntReal (BitVec.ofNat bits v).toInt

/-- FILD (R629). -/
def loadInt (bits v : Nat) : N Unit := pushST (intOperand bits v)

/-- FBLD (R632). A digit above 9 leaves the pushed value and its tag undefined (U31). -/
def loadBcd (v : Nat) : N Unit := do
  let ok ← stackRoom
  if !ok then changeNpx fun n => n.push realIndefinite
  else if bcdValid 18 v then changeNpx fun n => n.push (ofNatReal (v / 2 ^ 79 % 2 == 1) (bcdValue 18 v))
  else do
    let x ← anyReal
    let hi ← anyBit
    let lo ← anyBit
    changeNpx fun n => (n.push x).setTag (n.push x).top (BitVec.ofBool hi ++ BitVec.ofBool lo)

/-- The masked underflow of a store (48_npx_architecture.md R579). -/
def denormalImage (f : RealFmt) (x : Reg80) : N Nat := do
  signal .underflow
  let n ← theNpx
  let r := f.denormalize n.rounding x
  signalPrecision r.2
  return r.1

/-- FromTempShort and FromTempLong (48_npx_architecture.md R546, R553, R578, R579). -/
def realImageOf (f : RealFmt) (x : Reg80) : N Nat := do
  let n ← theNpx
  match classOf x with
  | .zero => return f.encode (realSign x) 0 0
  | .infinity | .nan | .denormal => return f.chop x
  | .unnormal | .pseudoZero =>
    if 1 - (f.bias : Int) ≤ realTrue x then do
      signal .invalid
      return f.indefinite
    else denormalImage f x
  | .normal =>
    let r := roundSig n.rounding (realSign x) (f.frac + 1) 0 (magnitude x)
    if (f.bias : Int) < r.exp then do
      signal .overflow
      signalPrecision true
      return f.overflow n.rounding (realSign x)
    else if r.exp < 1 - (f.bias : Int) then denormalImage f x
    else do
      signalPrecision r.inexact
      return f.encode (realSign x) (r.exp + f.bias).toNat (r.sig % 2 ^ 63 / 2 ^ (63 - f.frac))

/-- FST of a short or long real (R626). -/
def realImage (f : RealFmt) : N Nat := do
  let x ← source 0
  realImageOf f x

/-- The pop of a store-and-pop: after the image, and not if an unmasked exception stopped it (R627). -/
def andPop (x : N Nat) : N Nat := do
  let v ← x
  popST
  return v

/-- FSTP of a temporary real: all 80 bits (R627). -/
def tempImage : N Nat := do
  let x ← source 0
  return x.toNat

/-- FST ST(i): any class, no rounding (R626). -/
def storeST (i : BitVec 3) : N Unit := do
  let v ← source 0
  putST i v

/-- FSTP ST(i) (R627). -/
def storePopST (i : BitVec 3) : N Unit := do
  storeST i
  popST

/-- Integer indefinite, as the masked response (48_npx_architecture.md R541, R577). -/
def intIndefinite (bits : Nat) : N Nat := do
  signal .invalid
  return 2 ^ (bits - 1)

/-- FIST (R630; 48_npx_architecture.md R546). -/
def intImage (bits : Nat) : N Nat := do
  let x ← source 0
  let n ← theNpx
  match classOf x with
  | .zero => return 0
  | .normal =>
    let r := roundTo n.rounding (realSign x) (magnitude x) 0
    let v : Int := if realSign x then -(r.1 : Int) else r.1
    if -(2 ^ (bits - 1) : Int) ≤ v ∧ v < 2 ^ (bits - 1) then do
      signalPrecision r.2
      return (v % 2 ^ bits).toNat
    else intIndefinite bits
  | .denormal | .infinity | .nan | .unnormal | .pseudoZero => intIndefinite bits

/-- Packed decimal indefinite, its low 64 bits undefined (48_npx_architecture.md R542, U24). -/
def bcdIndefinite : N Nat := do
  signal .invalid
  let a ← anyWord
  let b ← anyWord
  let c ← anyWord
  let d ← anyWord
  return wordsValue [a, b, c, d, 0xFFFF]

/-- The magnitude plus one half, chopped to an integer (R633, D41). -/
def halfUp (x : Exact) : Nat :=
  if 0 ≤ x.e then x.n <<< x.e.toNat else (2 * x.n + 2 ^ (-x.e).toNat) >>> ((-x.e).toNat + 1)

/-- FBSTP, without the pop (R633; log 51). -/
def bcdImage : N Nat := do
  let x ← source 0
  let image := fun n : Nat => (if realSign x then 2 ^ 79 else 0) + bcdDigits 18 n
  match classOf x with
  | .zero => return image 0
  | .normal =>
    if halfUp (magnitude x) < 10 ^ 18 then return image (halfUp (magnitude x)) else bcdIndefinite
  | .denormal | .infinity | .nan | .unnormal | .pseudoZero => bcdIndefinite

/-- Empty registers get real indefinite. -/
def Npx.fill (n : Npx) (k : BitVec 3) : Npx := if n.empty k then n.put k realIndefinite else n

/-- The contents and the tags of two registers exchanged. -/
def Npx.swap (n : Npx) (j k : BitVec 3) : Npx :=
  (((n.setReg j (n.reg k)).setReg k (n.reg j)).setTag j (n.tag k)).setTag k (n.tag j)

/-- FXCH (R628). -/
def exchange (i : BitVec 3) : N Unit := do
  let n ← theNpx
  signalIf (n.empty n.top || n.empty (n.phys i)) .invalid
  changeNpx fun n => ((n.fill n.top).fill (n.phys i)).swap n.top (n.phys i)

/-! ### Instructions -/

/-- FLD m32real (49_npx_instructions.md R625). -/
def execFldM32real (ea : Ea) (s : State) : Result :=
  runInstr (escLoad (memOpcode 1 0 ea) ea 2 fun v => loadReal shortReal v) s

/-- FST m32real (49_npx_instructions.md R626). -/
def execFstM32real (ea : Ea) (s : State) : Result :=
  runInstr (escStore (memOpcode 1 2 ea) ea 2 (realImage shortReal)) s

/-- FSTP m32real (49_npx_instructions.md R627). -/
def execFstpM32real (ea : Ea) (s : State) : Result :=
  runInstr (escStore (memOpcode 1 3 ea) ea 2 (andPop (realImage shortReal))) s

/-- FLD ST(i) (49_npx_instructions.md R625). -/
def execFldSti (i : BitVec 3) (s : State) : Result := runInstr (escReg (stiOpcode 1 0xC0 i) (loadST i)) s

/-- FXCH ST(i) (49_npx_instructions.md R628). -/
def execFxchSti (i : BitVec 3) (s : State) : Result := runInstr (escReg (stiOpcode 1 0xC8 i) (exchange i)) s

/-- FSTP ST(i) (49_npx_instructions.md R627). -/
def execFstpStiD9 (i : BitVec 3) (s : State) : Result := runInstr (escReg (stiOpcode 1 0xD8 i) (storePopST i)) s

/-- FLD1 (49_npx_instructions.md R692). -/
def execFld1 (s : State) : Result := runInstr (escReg (regOpcode 1 0xE8) (pushST 0x3FFF8000000000000000)) s

/-- FLDL2T (49_npx_instructions.md R694). -/
def execFldl2t (s : State) : Result := runInstr (escReg (regOpcode 1 0xE9) (pushST 0x4000D49A784BCD1B8AFE)) s

/-- FLDL2E (49_npx_instructions.md R695). -/
def execFldl2e (s : State) : Result := runInstr (escReg (regOpcode 1 0xEA) (pushST 0x3FFFB8AA3B295C17F0BC)) s

/-- FLDPI (49_npx_instructions.md R693). -/
def execFldpi (s : State) : Result := runInstr (escReg (regOpcode 1 0xEB) (pushST 0x4000C90FDAA22168C235)) s

/-- FLDLG2 (49_npx_instructions.md R696). -/
def execFldlg2 (s : State) : Result := runInstr (escReg (regOpcode 1 0xEC) (pushST 0x3FFD9A209A84FBCFF799)) s

/-- FLDLN2 (49_npx_instructions.md R697). -/
def execFldln2 (s : State) : Result := runInstr (escReg (regOpcode 1 0xED) (pushST 0x3FFEB17217F7D1CF79AC)) s

/-- FLDZ (49_npx_instructions.md R691). -/
def execFldz (s : State) : Result := runInstr (escReg (regOpcode 1 0xEE) (pushST 0x00000000000000000000)) s

/-- FILD m32int (49_npx_instructions.md R629). -/
def execFildM32int (ea : Ea) (s : State) : Result :=
  runInstr (escLoad (memOpcode 3 0 ea) ea 2 fun v => loadInt 32 v) s

/-- FIST m32int (49_npx_instructions.md R630). -/
def execFistM32int (ea : Ea) (s : State) : Result := runInstr (escStore (memOpcode 3 2 ea) ea 2 (intImage 32)) s

/-- FISTP m32int (49_npx_instructions.md R631). -/
def execFistpM32int (ea : Ea) (s : State) : Result :=
  runInstr (escStore (memOpcode 3 3 ea) ea 2 (andPop (intImage 32))) s

/-- FLD m80real (49_npx_instructions.md R625). -/
def execFldM80real (ea : Ea) (s : State) : Result := runInstr (escLoad (memOpcode 3 5 ea) ea 5 fun v => loadTemp v) s

/-- FSTP m80real (49_npx_instructions.md R627). -/
def execFstpM80real (ea : Ea) (s : State) : Result := runInstr (escStore (memOpcode 3 7 ea) ea 5 (andPop tempImage)) s

/-- FLD m64real (49_npx_instructions.md R625). -/
def execFldM64real (ea : Ea) (s : State) : Result :=
  runInstr (escLoad (memOpcode 5 0 ea) ea 4 fun v => loadReal longReal v) s

/-- FST m64real (49_npx_instructions.md R626). -/
def execFstM64real (ea : Ea) (s : State) : Result :=
  runInstr (escStore (memOpcode 5 2 ea) ea 4 (realImage longReal)) s

/-- FSTP m64real (49_npx_instructions.md R627). -/
def execFstpM64real (ea : Ea) (s : State) : Result :=
  runInstr (escStore (memOpcode 5 3 ea) ea 4 (andPop (realImage longReal))) s

/-- FXCH ST(i) (49_npx_instructions.md R628). -/
def execFxchStiDD (i : BitVec 3) (s : State) : Result := runInstr (escReg (stiOpcode 5 0xC8 i) (exchange i)) s

/-- FST ST(i) (49_npx_instructions.md R626). -/
def execFstSti (i : BitVec 3) (s : State) : Result := runInstr (escReg (stiOpcode 5 0xD0 i) (storeST i)) s

/-- FSTP ST(i) (49_npx_instructions.md R627). -/
def execFstpSti (i : BitVec 3) (s : State) : Result := runInstr (escReg (stiOpcode 5 0xD8 i) (storePopST i)) s

/-- FILD m16int (49_npx_instructions.md R629). -/
def execFildM16int (ea : Ea) (s : State) : Result :=
  runInstr (escLoad (memOpcode 7 0 ea) ea 1 fun v => loadInt 16 v) s

/-- FIST m16int (49_npx_instructions.md R630). -/
def execFistM16int (ea : Ea) (s : State) : Result := runInstr (escStore (memOpcode 7 2 ea) ea 1 (intImage 16)) s

/-- FISTP m16int (49_npx_instructions.md R631). -/
def execFistpM16int (ea : Ea) (s : State) : Result :=
  runInstr (escStore (memOpcode 7 3 ea) ea 1 (andPop (intImage 16))) s

/-- FBLD m80dec (49_npx_instructions.md R632). -/
def execFbldM80dec (ea : Ea) (s : State) : Result := runInstr (escLoad (memOpcode 7 4 ea) ea 5 fun v => loadBcd v) s

/-- FILD m64int (49_npx_instructions.md R629). -/
def execFildM64int (ea : Ea) (s : State) : Result :=
  runInstr (escLoad (memOpcode 7 5 ea) ea 4 fun v => loadInt 64 v) s

/-- FBSTP m80dec (49_npx_instructions.md R633). -/
def execFbstpM80dec (ea : Ea) (s : State) : Result := runInstr (escStore (memOpcode 7 6 ea) ea 5 (andPop bcdImage)) s

/-- FISTP m64int (49_npx_instructions.md R631). -/
def execFistpM64int (ea : Ea) (s : State) : Result :=
  runInstr (escStore (memOpcode 7 7 ea) ea 4 (andPop (intImage 64))) s

/-- FXCH ST(i) (49_npx_instructions.md R628). -/
def execFxchStiDF (i : BitVec 3) (s : State) : Result := runInstr (escReg (stiOpcode 7 0xC8 i) (exchange i)) s

/-- FSTP ST(i) (49_npx_instructions.md R627). -/
def execFstpStiDFD0 (i : BitVec 3) (s : State) : Result := runInstr (escReg (stiOpcode 7 0xD0 i) (storePopST i)) s

/-- FSTP ST(i) (49_npx_instructions.md R627). -/
def execFstpStiDFD8 (i : BitVec 3) (s : State) : Result := runInstr (escReg (stiOpcode 7 0xD8 i) (storePopST i)) s

end Sys2Proof.Machine
end

