-- ==== Sys2Proof/Machine/Strings.lean ====
section
/-! DEFINITION. String instructions (44_string.md). -/

namespace Sys2Proof.Machine

/-- A string instruction under its repeat prefix, one iteration a step (R435, R436; D25). While iterations remain, IP
stands at the first prefix byte and the instruction is held, so that the boundary that comes before the next iteration
(R437, D26) sees an instruction that has not begun, and the next iteration needs no fetch. -/
def repeated (i : Instr) (compare : Bool) (op : M Unit) : M Unit := do
  let s ← get
  match s.pfx.rep with
  | none => op
  | some p =>
    if s.gpr.cx = 0 then pure ()
    else do
      op
      modify fun t => t.setReg16 .cx (t.gpr.cx - 1)
      let t ← get
      if t.gpr.cx = 0 || (compare && t.flag .zf != (p == .rep)) then pure ()
      else modify fun t =>
        { t with ip := t.curIP, ipPast := false, repeating := some ⟨i, t.pfx, t.ip, t.ipPast⟩ }

/-! ### The primitives (R421 to R434) -/

/-- MOVSB (R421): both operands are tested before the source is read. -/
def movs8 : M Unit := do
  let s ← get
  checkRead s.dataSeg s.gpr.si 1
  checkWrite .es s.gpr.di 1
  let v ← readSeg8 s.dataSeg s.gpr.si
  writeSeg8 .es s.gpr.di v
  modify fun t => (t.advance .si 1).advance .di 1

/-- MOVSW (R422). -/
def movs16 : M Unit := do
  let s ← get
  checkRead s.dataSeg s.gpr.si 2
  checkWrite .es s.gpr.di 2
  let v ← readSeg16 s.dataSeg s.gpr.si
  writeSeg16 .es s.gpr.di v
  modify fun t => (t.advance .si 2).advance .di 2

def cmps8 : M Unit := do
  let s ← get
  let a ← readSeg8 s.dataSeg s.gpr.si
  let b ← readSeg8 .es s.gpr.di
  modify fun t => ((t.setStatus (subFlags a b false).2).advance .si 1).advance .di 1

def cmps16 : M Unit := do
  let s ← get
  let a ← readSeg16 s.dataSeg s.gpr.si
  let b ← readSeg16 .es s.gpr.di
  modify fun t => ((t.setStatus (subFlags a b false).2).advance .si 2).advance .di 2

def scas8 : M Unit := do
  let s ← get
  let b ← readSeg8 .es s.gpr.di
  modify fun t => (t.setStatus (subFlags (s.reg8 .al) b false).2).advance .di 1

def scas16 : M Unit := do
  let s ← get
  let b ← readSeg16 .es s.gpr.di
  modify fun t => (t.setStatus (subFlags s.gpr.ax b false).2).advance .di 2

def lods8 : M Unit := do
  let s ← get
  let v ← readSeg8 s.dataSeg s.gpr.si
  modify fun t => (t.setReg8 .al v).advance .si 1

def lods16 : M Unit := do
  let s ← get
  let v ← readSeg16 s.dataSeg s.gpr.si
  modify fun t => (t.setReg16 .ax v).advance .si 2

def stos8 : M Unit := do
  let s ← get
  writeSeg8 .es s.gpr.di (s.reg8 .al)
  modify fun t => t.advance .di 1

def stos16 : M Unit := do
  let s ← get
  writeSeg16 .es s.gpr.di s.gpr.ax
  modify fun t => t.advance .di 2

/-- INSB (R431): the destination is tested before the port is read. -/
def ins8 : M Unit := do
  ioPriv
  let s ← get
  checkWrite .es s.gpr.di 1
  let v ← ioRead8 s.gpr.dx
  writeSeg8 .es s.gpr.di v
  modify fun t => t.advance .di 1

def ins16 : M Unit := do
  ioPriv
  let s ← get
  checkWrite .es s.gpr.di 2
  let v ← ioRead16 s.gpr.dx
  writeSeg16 .es s.gpr.di v
  modify fun t => t.advance .di 2

def outs8 : M Unit := do
  ioPriv
  let s ← get
  let v ← readSeg8 s.dataSeg s.gpr.si
  ioWrite8 s.gpr.dx v
  modify fun t => t.advance .si 1

def outs16 : M Unit := do
  ioPriv
  let s ← get
  let v ← readSeg16 s.dataSeg s.gpr.si
  ioWrite16 s.gpr.dx v
  modify fun t => t.advance .si 2

/-! ### Instructions -/

/-- INSB eb,DX (44_string.md R431). -/
def execInsb (s : State) : Result := runInstr (repeated .insb false ins8) s

/-- INSW ew,DX (44_string.md R432). -/
def execInsw (s : State) : Result := runInstr (repeated .insw false ins16) s

/-- OUTSB DX,eb (44_string.md R433). -/
def execOutsb (s : State) : Result := runInstr (repeated .outsb false outs8) s

/-- OUTSW DX,ew (44_string.md R434). -/
def execOutsw (s : State) : Result := runInstr (repeated .outsw false outs16) s

/-- MOVSB mb,mb (44_string.md R421). -/
def execMovsb (s : State) : Result := runInstr (repeated .movsb false movs8) s

/-- MOVSW mw,mw (44_string.md R422). -/
def execMovsw (s : State) : Result := runInstr (repeated .movsw false movs16) s

/-- CMPSB mb,mb (44_string.md R423). -/
def execCmpsb (s : State) : Result := runInstr (repeated .cmpsb true cmps8) s

/-- CMPSW mw,mw (44_string.md R424). -/
def execCmpsw (s : State) : Result := runInstr (repeated .cmpsw true cmps16) s

/-- STOSB mb (44_string.md R429). -/
def execStosb (s : State) : Result := runInstr (repeated .stosb false stos8) s

/-- STOSW mw (44_string.md R430). -/
def execStosw (s : State) : Result := runInstr (repeated .stosw false stos16) s

/-- LODSB mb (44_string.md R427). -/
def execLodsb (s : State) : Result := runInstr (repeated .lodsb false lods8) s

/-- LODSW mw (44_string.md R428). -/
def execLodsw (s : State) : Result := runInstr (repeated .lodsw false lods16) s

/-- SCASB mb (44_string.md R425). -/
def execScasb (s : State) : Result := runInstr (repeated .scasb true scas8) s

/-- SCASW mw (44_string.md R426). -/
def execScasw (s : State) : Result := runInstr (repeated .scasw true scas16) s

end Sys2Proof.Machine
end

