-- ==== Sys2Proof/Machine/SysControl.lean ====
section
/-! DEFINITION. System control and pointer validation (47_system_control.md). -/

namespace Sys2Proof.Machine

/-- Not recognized in Real Address Mode (R490). -/
def protectedOnly : M Unit := do
  let s ← get
  require s.pe .ud

/-- Privileged: CPL 0, in Protected Mode (R490). -/
def privileged : M Unit := do
  let s ← get
  require (!s.pe || s.cpl == 0) (.gp 0)

/-! ### GDTR and IDTR (R491 to R495) -/

/-- The six-byte operand: limit, then a 24-bit base; the last byte is ignored. -/
def readTable (ea : Ea) : M TableReg := do
  let s ← get
  let r := s.eaSeg ea
  let off := s.eaOff ea
  checkRead r off 6
  let limit ← readSeg16 r off
  let lo ← readSeg16 r (off + 2)
  let hi ← readSeg16 r (off + 4)
  return ⟨hi.lo ++ lo, limit⟩

/-- The six-byte operand stored; the last byte is undefined. -/
def writeTable (t : TableReg) (ea : Ea) : M Unit := do
  let s ← get
  let r := s.eaSeg ea
  let off := s.eaOff ea
  checkWrite r off 6
  let u ← draw16
  writeSeg16 r off t.limit
  writeSeg16 r (off + 2) (t.base.extractLsb' 0 16)
  writeSeg16 r (off + 4) (Word.of u.lo (t.base.extractLsb' 16 8))

def loadGdtr (ea : Ea) : M Unit := do
  privileged
  let t ← readTable ea
  modify fun s => { s with gdtr := t }

def loadIdtr (ea : Ea) : M Unit := do
  privileged
  let t ← readTable ea
  modify fun s => { s with idtr := t }

def storeGdtr (ea : Ea) : M Unit := do
  let s ← get
  writeTable s.gdtr ea

def storeIdtr (ea : Ea) : M Unit := do
  let s ← get
  writeTable s.idtr ea

/-! ### LDTR, TR and MSW (R496 to R502) -/

def loadLocalTable (d : Rm Reg16) : M Unit := do
  protectedOnly
  privileged
  let sel ← rd16 d
  loadLDTR sel

def loadTask (d : Rm Reg16) : M Unit := do
  protectedOnly
  privileged
  let sel ← rd16 d
  loadTR sel

def storeLocalTable (d : Rm Reg16) : M Unit := do
  protectedOnly
  let s ← get
  wr16 d s.ldtr.sel

def storeTask (d : Rm Reg16) : M Unit := do
  protectedOnly
  let s ← get
  wr16 d s.tr.sel

/-- LMSW (R500): PE can be set and not cleared; bits 15 to 4 of the operand are ignored (D4). -/
def loadMsw (d : Rm Reg16) : M Unit := do
  privileged
  let v ← rd16 d
  modify fun s => { s with msw := (s.msw &&& 0xFFF1) ||| (v &&& 0x000F) }

/-- SMSW (R501): bits 15 to 4 read as ones. -/
def storeMsw (d : Rm Reg16) : M Unit := do
  let s ← get
  wr16 d (0xFFF0 ||| s.msw)

/-- CLTS (R502). -/
def clearTaskSwitched : M Unit := do
  privileged
  modify fun s => { s with msw := withBit s.msw 3 false }

/-! ### Pointer validation (R503 to R508) -/

/-- The adjusted selector (R503). -/
def adjustRpl (d s : Word) : Word := withRpl d (selRpl s)

/-- ARPL (R503): the destination is tested for writing whether or not it is adjusted. -/
def adjust (d : Rm Reg16) (r : Reg16) : M Unit := do
  protectedOnly
  let s ← get
  let v ← match d with
    | .reg q => pure (s.reg16 q)
    | .mem ea => do
      checkWrite (s.eaSeg ea) (s.eaOff ea) 2
      readSeg16 (s.eaSeg ea) (s.eaOff ea)
  let less := (selRpl v).ult (selRpl (s.reg16 r))
  if less then wr16 d (adjustRpl v (s.reg16 r))
  modify fun t => t.setFlag .zf less

/-- Inspect(sel) (R504): no fault. -/
def inspect (sel : Word) : M (Option Desc) := do
  if selNull sel then return none
  else do
    let s ← get
    set (s.afterLookup sel)
    return s.descLookup sel

/-- PrivOK(sel, D) is `dataAccess`; the Accessed bit is set for a segment descriptor (R504, D30). -/
def inspected (d : Desc) : M Unit := if d.segment then setAccessed d else pure ()

/-- The type of a control descriptor whose DPL has no meaning: an LDT, and the invalid and reserved types
(20_memory.md R106). -/
def Desc.noPrivilege (d : Desc) : Bool := !d.segment && (d.type == 0 || d.type == 2 || (8 : BitVec 4).ule d.type)

/-- The common part of the four: ZF says whether the test passed, and then `f` runs. `ok` is given CPL and RPL. -/
def selectorTest (d : Rm Reg16) (ok : BitVec 2 → BitVec 2 → Desc → Bool) (f : Desc → M Unit) : M Unit := do
  protectedOnly
  let sel ← rd16 d
  let s ← get
  let found ← inspect sel
  match found with
  | none => modify fun t => t.setFlag .zf false
  | some x =>
    if ok s.cpl (selRpl sel) x then do
      f x
      inspected x
      modify fun t => t.setFlag .zf true
    else modify fun t => t.setFlag .zf false

/-- LAR shows the descriptor: the privilege rule, and every type whose DPL has no meaning (R505, D32; log 33). -/
def Desc.rightsVisible (cpl rpl : BitVec 2) (x : Desc) : Bool := x.noPrivilege || x.dataAccess cpl rpl

/-- LAR (R505): the byte as it was read, before the Accessed bit is set. -/
def loadRights (r : Reg16) (d : Rm Reg16) : M Unit :=
  selectorTest d Desc.rightsVisible fun x => modify fun t => t.setReg16 r (Word.of x.ar 0x00)

/-- LSL shows the limit of segments, TSSs and LDTs (R506). -/
def Desc.limitVisible (cpl rpl : BitVec 2) (x : Desc) : Bool :=
  (x.segment || x.type == 1 || x.type == 2 || x.type == 3) && x.dataAccess cpl rpl

/-- LSL (R506): segments, TSSs and LDTs. -/
def loadLimit (r : Reg16) (d : Rm Reg16) : M Unit :=
  selectorTest d Desc.limitVisible fun x => modify fun t => t.setReg16 r x.limit

/-- VERR (R507). -/
def verifyRead (d : Rm Reg16) : M Unit := selectorTest d (fun cpl rpl x => x.readable && x.dataAccess cpl rpl) fun _ => pure ()

/-- VERW (R508). -/
def verifyWrite (d : Rm Reg16) : M Unit := selectorTest d (fun cpl rpl x => x.writable && x.dataAccess cpl rpl) fun _ => pure ()

/-! ### Instructions -/

/-- SLDT ew (47_system_control.md R497). -/
def execSldtEw (d : Rm Reg16) (s : State) : Result := runInstr (storeLocalTable d) s

/-- STR ew (47_system_control.md R499). -/
def execStrEw (d : Rm Reg16) (s : State) : Result := runInstr (storeTask d) s

/-- LLDT ew (47_system_control.md R496). -/
def execLldtEw (d : Rm Reg16) (s : State) : Result := runInstr (loadLocalTable d) s

/-- LTR ew (47_system_control.md R498). -/
def execLtrEw (d : Rm Reg16) (s : State) : Result := runInstr (loadTask d) s

/-- VERR ew (47_system_control.md R507). -/
def execVerrEw (d : Rm Reg16) (s : State) : Result := runInstr (verifyRead d) s

/-- VERW ew (47_system_control.md R508). -/
def execVerwEw (d : Rm Reg16) (s : State) : Result := runInstr (verifyWrite d) s

/-- SGDT m (47_system_control.md R494). -/
def execSgdtM (ea : Ea) (s : State) : Result := runInstr (storeGdtr ea) s

/-- SIDT m (47_system_control.md R495). -/
def execSidtM (ea : Ea) (s : State) : Result := runInstr (storeIdtr ea) s

/-- LGDT m (47_system_control.md R492). -/
def execLgdtM (ea : Ea) (s : State) : Result := runInstr (loadGdtr ea) s

/-- LIDT m (47_system_control.md R493). -/
def execLidtM (ea : Ea) (s : State) : Result := runInstr (loadIdtr ea) s

/-- SMSW ew (47_system_control.md R501). -/
def execSmswEw (d : Rm Reg16) (s : State) : Result := runInstr (storeMsw d) s

/-- LMSW ew (47_system_control.md R500). -/
def execLmswEw (d : Rm Reg16) (s : State) : Result := runInstr (loadMsw d) s

/-- LAR rw,ew (47_system_control.md R505). -/
def execLarRwEw (r : Reg16) (d : Rm Reg16) (s : State) : Result := runInstr (loadRights r d) s

/-- LSL rw,ew (47_system_control.md R506). -/
def execLslRwEw (r : Reg16) (d : Rm Reg16) (s : State) : Result := runInstr (loadLimit r d) s

/-- CLTS (47_system_control.md R502). -/
def execClts (s : State) : Result := runInstr clearTaskSwitched s

/-- ARPL ew,rw (47_system_control.md R503). -/
def execArplEwRw (d : Rm Reg16) (r : Reg16) (s : State) : Result := runInstr (adjust d r) s

end Sys2Proof.Machine
end

