-- ==== Sys2Proof/Machine/Dispatch.lean ====
section
/-! DEFINITION. The meaning of every instruction: one arm per constructor of `Instr`. -/

namespace Sys2Proof.Machine

def exec (i : Instr) (s : State) : Host.Outcome State Fault Refusal :=
  match i with
  | .addEbRb d r => Sys2Proof.Machine.execAddEbRb d r s
  | .addEwRw d r => Sys2Proof.Machine.execAddEwRw d r s
  | .addRbEb r d => Sys2Proof.Machine.execAddRbEb r d s
  | .addRwEw r d => Sys2Proof.Machine.execAddRwEw r d s
  | .addAlDb imm => Sys2Proof.Machine.execAddAlDb imm s
  | .addAxDw imm => Sys2Proof.Machine.execAddAxDw imm s
  | .pushEs => Sys2Proof.Machine.execPushEs s
  | .popEs => Sys2Proof.Machine.execPopEs s
  | .orEbRb d r => Sys2Proof.Machine.execOrEbRb d r s
  | .orEwRw d r => Sys2Proof.Machine.execOrEwRw d r s
  | .orRbEb r d => Sys2Proof.Machine.execOrRbEb r d s
  | .orRwEw r d => Sys2Proof.Machine.execOrRwEw r d s
  | .orAlDb imm => Sys2Proof.Machine.execOrAlDb imm s
  | .orAxDw imm => Sys2Proof.Machine.execOrAxDw imm s
  | .pushCs => Sys2Proof.Machine.execPushCs s
  | .sldtEw d => Sys2Proof.Machine.execSldtEw d s
  | .strEw d => Sys2Proof.Machine.execStrEw d s
  | .lldtEw d => Sys2Proof.Machine.execLldtEw d s
  | .ltrEw d => Sys2Proof.Machine.execLtrEw d s
  | .verrEw d => Sys2Proof.Machine.execVerrEw d s
  | .verwEw d => Sys2Proof.Machine.execVerwEw d s
  | .sgdtM ea => Sys2Proof.Machine.execSgdtM ea s
  | .sidtM ea => Sys2Proof.Machine.execSidtM ea s
  | .lgdtM ea => Sys2Proof.Machine.execLgdtM ea s
  | .lidtM ea => Sys2Proof.Machine.execLidtM ea s
  | .smswEw d => Sys2Proof.Machine.execSmswEw d s
  | .lmswEw d => Sys2Proof.Machine.execLmswEw d s
  | .larRwEw r d => Sys2Proof.Machine.execLarRwEw r d s
  | .lslRwEw r d => Sys2Proof.Machine.execLslRwEw r d s
  | .clts => Sys2Proof.Machine.execClts s
  | .adcEbRb d r => Sys2Proof.Machine.execAdcEbRb d r s
  | .adcEwRw d r => Sys2Proof.Machine.execAdcEwRw d r s
  | .adcRbEb r d => Sys2Proof.Machine.execAdcRbEb r d s
  | .adcRwEw r d => Sys2Proof.Machine.execAdcRwEw r d s
  | .adcAlDb imm => Sys2Proof.Machine.execAdcAlDb imm s
  | .adcAxDw imm => Sys2Proof.Machine.execAdcAxDw imm s
  | .pushSs => Sys2Proof.Machine.execPushSs s
  | .popSs => Sys2Proof.Machine.execPopSs s
  | .sbbEbRb d r => Sys2Proof.Machine.execSbbEbRb d r s
  | .sbbEwRw d r => Sys2Proof.Machine.execSbbEwRw d r s
  | .sbbRbEb r d => Sys2Proof.Machine.execSbbRbEb r d s
  | .sbbRwEw r d => Sys2Proof.Machine.execSbbRwEw r d s
  | .sbbAlDb imm => Sys2Proof.Machine.execSbbAlDb imm s
  | .sbbAxDw imm => Sys2Proof.Machine.execSbbAxDw imm s
  | .pushDs => Sys2Proof.Machine.execPushDs s
  | .popDs => Sys2Proof.Machine.execPopDs s
  | .andEbRb d r => Sys2Proof.Machine.execAndEbRb d r s
  | .andEwRw d r => Sys2Proof.Machine.execAndEwRw d r s
  | .andRbEb r d => Sys2Proof.Machine.execAndRbEb r d s
  | .andRwEw r d => Sys2Proof.Machine.execAndRwEw r d s
  | .andAlDb imm => Sys2Proof.Machine.execAndAlDb imm s
  | .andAxDw imm => Sys2Proof.Machine.execAndAxDw imm s
  | .pfxEs => Sys2Proof.Machine.execPfxEs s
  | .daa => Sys2Proof.Machine.execDaa s
  | .subEbRb d r => Sys2Proof.Machine.execSubEbRb d r s
  | .subEwRw d r => Sys2Proof.Machine.execSubEwRw d r s
  | .subRbEb r d => Sys2Proof.Machine.execSubRbEb r d s
  | .subRwEw r d => Sys2Proof.Machine.execSubRwEw r d s
  | .subAlDb imm => Sys2Proof.Machine.execSubAlDb imm s
  | .subAxDw imm => Sys2Proof.Machine.execSubAxDw imm s
  | .pfxCs => Sys2Proof.Machine.execPfxCs s
  | .das => Sys2Proof.Machine.execDas s
  | .xorEbRb d r => Sys2Proof.Machine.execXorEbRb d r s
  | .xorEwRw d r => Sys2Proof.Machine.execXorEwRw d r s
  | .xorRbEb r d => Sys2Proof.Machine.execXorRbEb r d s
  | .xorRwEw r d => Sys2Proof.Machine.execXorRwEw r d s
  | .xorAlDb imm => Sys2Proof.Machine.execXorAlDb imm s
  | .xorAxDw imm => Sys2Proof.Machine.execXorAxDw imm s
  | .pfxSs => Sys2Proof.Machine.execPfxSs s
  | .aaa => Sys2Proof.Machine.execAaa s
  | .cmpEbRb d r => Sys2Proof.Machine.execCmpEbRb d r s
  | .cmpEwRw d r => Sys2Proof.Machine.execCmpEwRw d r s
  | .cmpRbEb r d => Sys2Proof.Machine.execCmpRbEb r d s
  | .cmpRwEw r d => Sys2Proof.Machine.execCmpRwEw r d s
  | .cmpAlDb imm => Sys2Proof.Machine.execCmpAlDb imm s
  | .cmpAxDw imm => Sys2Proof.Machine.execCmpAxDw imm s
  | .pfxDs => Sys2Proof.Machine.execPfxDs s
  | .aas => Sys2Proof.Machine.execAas s
  | .incRw r => Sys2Proof.Machine.execIncRw r s
  | .decRw r => Sys2Proof.Machine.execDecRw r s
  | .pushRw r => Sys2Proof.Machine.execPushRw r s
  | .popRw r => Sys2Proof.Machine.execPopRw r s
  | .pusha => Sys2Proof.Machine.execPusha s
  | .popa => Sys2Proof.Machine.execPopa s
  | .boundRwMd r ea => Sys2Proof.Machine.execBoundRwMd r ea s
  | .arplEwRw d r => Sys2Proof.Machine.execArplEwRw d r s
  | .pushDw imm => Sys2Proof.Machine.execPushDw imm s
  | .imulRwEwDw r d imm => Sys2Proof.Machine.execImulRwEwDw r d imm s
  | .pushDb imm => Sys2Proof.Machine.execPushDb imm s
  | .imulRwEwDb r d imm => Sys2Proof.Machine.execImulRwEwDb r d imm s
  | .insb => Sys2Proof.Machine.execInsb s
  | .insw => Sys2Proof.Machine.execInsw s
  | .outsb => Sys2Proof.Machine.execOutsb s
  | .outsw => Sys2Proof.Machine.execOutsw s
  | .joCb rel => Sys2Proof.Machine.execJoCb rel s
  | .jnoCb rel => Sys2Proof.Machine.execJnoCb rel s
  | .jbCb rel => Sys2Proof.Machine.execJbCb rel s
  | .jnbCb rel => Sys2Proof.Machine.execJnbCb rel s
  | .jeCb rel => Sys2Proof.Machine.execJeCb rel s
  | .jneCb rel => Sys2Proof.Machine.execJneCb rel s
  | .jbeCb rel => Sys2Proof.Machine.execJbeCb rel s
  | .jnbeCb rel => Sys2Proof.Machine.execJnbeCb rel s
  | .jsCb rel => Sys2Proof.Machine.execJsCb rel s
  | .jnsCb rel => Sys2Proof.Machine.execJnsCb rel s
  | .jpCb rel => Sys2Proof.Machine.execJpCb rel s
  | .jnpCb rel => Sys2Proof.Machine.execJnpCb rel s
  | .jlCb rel => Sys2Proof.Machine.execJlCb rel s
  | .jnlCb rel => Sys2Proof.Machine.execJnlCb rel s
  | .jleCb rel => Sys2Proof.Machine.execJleCb rel s
  | .jnleCb rel => Sys2Proof.Machine.execJnleCb rel s
  | .addEbDb d imm => Sys2Proof.Machine.execAddEbDb d imm s
  | .orEbDb d imm => Sys2Proof.Machine.execOrEbDb d imm s
  | .adcEbDb d imm => Sys2Proof.Machine.execAdcEbDb d imm s
  | .sbbEbDb d imm => Sys2Proof.Machine.execSbbEbDb d imm s
  | .andEbDb d imm => Sys2Proof.Machine.execAndEbDb d imm s
  | .subEbDb d imm => Sys2Proof.Machine.execSubEbDb d imm s
  | .xorEbDb d imm => Sys2Proof.Machine.execXorEbDb d imm s
  | .cmpEbDb d imm => Sys2Proof.Machine.execCmpEbDb d imm s
  | .addEwDw d imm => Sys2Proof.Machine.execAddEwDw d imm s
  | .orEwDw d imm => Sys2Proof.Machine.execOrEwDw d imm s
  | .adcEwDw d imm => Sys2Proof.Machine.execAdcEwDw d imm s
  | .sbbEwDw d imm => Sys2Proof.Machine.execSbbEwDw d imm s
  | .andEwDw d imm => Sys2Proof.Machine.execAndEwDw d imm s
  | .subEwDw d imm => Sys2Proof.Machine.execSubEwDw d imm s
  | .xorEwDw d imm => Sys2Proof.Machine.execXorEwDw d imm s
  | .cmpEwDw d imm => Sys2Proof.Machine.execCmpEwDw d imm s
  | .addEwDb d imm => Sys2Proof.Machine.execAddEwDb d imm s
  | .adcEwDb d imm => Sys2Proof.Machine.execAdcEwDb d imm s
  | .sbbEwDb d imm => Sys2Proof.Machine.execSbbEwDb d imm s
  | .subEwDb d imm => Sys2Proof.Machine.execSubEwDb d imm s
  | .cmpEwDb d imm => Sys2Proof.Machine.execCmpEwDb d imm s
  | .testEbRb d r => Sys2Proof.Machine.execTestEbRb d r s
  | .testEwRw d r => Sys2Proof.Machine.execTestEwRw d r s
  | .xchgEbRb d r => Sys2Proof.Machine.execXchgEbRb d r s
  | .xchgEwRw d r => Sys2Proof.Machine.execXchgEwRw d r s
  | .movEbRb d r => Sys2Proof.Machine.execMovEbRb d r s
  | .movEwRw d r => Sys2Proof.Machine.execMovEwRw d r s
  | .movRbEb r d => Sys2Proof.Machine.execMovRbEb r d s
  | .movRwEw r d => Sys2Proof.Machine.execMovRwEw r d s
  | .movEwSreg d sr => Sys2Proof.Machine.execMovEwSreg d sr s
  | .leaRwM r ea => Sys2Proof.Machine.execLeaRwM r ea s
  | .movEsEw d => Sys2Proof.Machine.execMovEsEw d s
  | .movSsEw d => Sys2Proof.Machine.execMovSsEw d s
  | .movDsEw d => Sys2Proof.Machine.execMovDsEw d s
  | .popMw d => Sys2Proof.Machine.execPopMw d s
  | .nop => Sys2Proof.Machine.execNop s
  | .xchgAxRw r => Sys2Proof.Machine.execXchgAxRw r s
  | .cbw => Sys2Proof.Machine.execCbw s
  | .cwd => Sys2Proof.Machine.execCwd s
  | .callCd off sel => Sys2Proof.Machine.execCallCd off sel s
  | .wait => Sys2Proof.Machine.execWait s
  | .pushf => Sys2Proof.Machine.execPushf s
  | .popf => Sys2Proof.Machine.execPopf s
  | .sahf => Sys2Proof.Machine.execSahf s
  | .lahf => Sys2Proof.Machine.execLahf s
  | .movAlXb off => Sys2Proof.Machine.execMovAlXb off s
  | .movAxXw off => Sys2Proof.Machine.execMovAxXw off s
  | .movXbAl off => Sys2Proof.Machine.execMovXbAl off s
  | .movXwAx off => Sys2Proof.Machine.execMovXwAx off s
  | .movsb => Sys2Proof.Machine.execMovsb s
  | .movsw => Sys2Proof.Machine.execMovsw s
  | .cmpsb => Sys2Proof.Machine.execCmpsb s
  | .cmpsw => Sys2Proof.Machine.execCmpsw s
  | .testAlDb imm => Sys2Proof.Machine.execTestAlDb imm s
  | .testAxDw imm => Sys2Proof.Machine.execTestAxDw imm s
  | .stosb => Sys2Proof.Machine.execStosb s
  | .stosw => Sys2Proof.Machine.execStosw s
  | .lodsb => Sys2Proof.Machine.execLodsb s
  | .lodsw => Sys2Proof.Machine.execLodsw s
  | .scasb => Sys2Proof.Machine.execScasb s
  | .scasw => Sys2Proof.Machine.execScasw s
  | .movRbDb r imm => Sys2Proof.Machine.execMovRbDb r imm s
  | .movRwDw r imm => Sys2Proof.Machine.execMovRwDw r imm s
  | .rolEbDb d imm => Sys2Proof.Machine.execRolEbDb d imm s
  | .rorEbDb d imm => Sys2Proof.Machine.execRorEbDb d imm s
  | .rclEbDb d imm => Sys2Proof.Machine.execRclEbDb d imm s
  | .rcrEbDb d imm => Sys2Proof.Machine.execRcrEbDb d imm s
  | .salEbDb d imm => Sys2Proof.Machine.execSalEbDb d imm s
  | .shrEbDb d imm => Sys2Proof.Machine.execShrEbDb d imm s
  | .sarEbDb d imm => Sys2Proof.Machine.execSarEbDb d imm s
  | .rolEwDb d imm => Sys2Proof.Machine.execRolEwDb d imm s
  | .rorEwDb d imm => Sys2Proof.Machine.execRorEwDb d imm s
  | .rclEwDb d imm => Sys2Proof.Machine.execRclEwDb d imm s
  | .rcrEwDb d imm => Sys2Proof.Machine.execRcrEwDb d imm s
  | .salEwDb d imm => Sys2Proof.Machine.execSalEwDb d imm s
  | .shrEwDb d imm => Sys2Proof.Machine.execShrEwDb d imm s
  | .sarEwDb d imm => Sys2Proof.Machine.execSarEwDb d imm s
  | .retNearDw imm => Sys2Proof.Machine.execRetNearDw imm s
  | .retNear => Sys2Proof.Machine.execRetNear s
  | .lesRwEd r ea => Sys2Proof.Machine.execLesRwEd r ea s
  | .ldsRwEd r ea => Sys2Proof.Machine.execLdsRwEd r ea s
  | .movEbDb d imm => Sys2Proof.Machine.execMovEbDb d imm s
  | .movEwDw d imm => Sys2Proof.Machine.execMovEwDw d imm s
  | .enterDwDb size level => Sys2Proof.Machine.execEnterDwDb size level s
  | .leave => Sys2Proof.Machine.execLeave s
  | .retFarDw imm => Sys2Proof.Machine.execRetFarDw imm s
  | .retFar => Sys2Proof.Machine.execRetFar s
  | .int3 => Sys2Proof.Machine.execInt3 s
  | .intDb imm => Sys2Proof.Machine.execIntDb imm s
  | .into => Sys2Proof.Machine.execInto s
  | .iret => Sys2Proof.Machine.execIret s
  | .rolEb1 d => Sys2Proof.Machine.execRolEb1 d s
  | .rorEb1 d => Sys2Proof.Machine.execRorEb1 d s
  | .rclEb1 d => Sys2Proof.Machine.execRclEb1 d s
  | .rcrEb1 d => Sys2Proof.Machine.execRcrEb1 d s
  | .salEb1 d => Sys2Proof.Machine.execSalEb1 d s
  | .shrEb1 d => Sys2Proof.Machine.execShrEb1 d s
  | .sarEb1 d => Sys2Proof.Machine.execSarEb1 d s
  | .rolEw1 d => Sys2Proof.Machine.execRolEw1 d s
  | .rorEw1 d => Sys2Proof.Machine.execRorEw1 d s
  | .rclEw1 d => Sys2Proof.Machine.execRclEw1 d s
  | .rcrEw1 d => Sys2Proof.Machine.execRcrEw1 d s
  | .salEw1 d => Sys2Proof.Machine.execSalEw1 d s
  | .shrEw1 d => Sys2Proof.Machine.execShrEw1 d s
  | .sarEw1 d => Sys2Proof.Machine.execSarEw1 d s
  | .rolEbCl d => Sys2Proof.Machine.execRolEbCl d s
  | .rorEbCl d => Sys2Proof.Machine.execRorEbCl d s
  | .rclEbCl d => Sys2Proof.Machine.execRclEbCl d s
  | .rcrEbCl d => Sys2Proof.Machine.execRcrEbCl d s
  | .salEbCl d => Sys2Proof.Machine.execSalEbCl d s
  | .shrEbCl d => Sys2Proof.Machine.execShrEbCl d s
  | .sarEbCl d => Sys2Proof.Machine.execSarEbCl d s
  | .rolEwCl d => Sys2Proof.Machine.execRolEwCl d s
  | .rorEwCl d => Sys2Proof.Machine.execRorEwCl d s
  | .rclEwCl d => Sys2Proof.Machine.execRclEwCl d s
  | .rcrEwCl d => Sys2Proof.Machine.execRcrEwCl d s
  | .salEwCl d => Sys2Proof.Machine.execSalEwCl d s
  | .shrEwCl d => Sys2Proof.Machine.execShrEwCl d s
  | .sarEwCl d => Sys2Proof.Machine.execSarEwCl d s
  | .aam => Sys2Proof.Machine.execAam s
  | .aad => Sys2Proof.Machine.execAad s
  | .xlat => Sys2Proof.Machine.execXlat s
  | .loopneCb rel => Sys2Proof.Machine.execLoopneCb rel s
  | .loopeCb rel => Sys2Proof.Machine.execLoopeCb rel s
  | .loopCb rel => Sys2Proof.Machine.execLoopCb rel s
  | .jcxzCb rel => Sys2Proof.Machine.execJcxzCb rel s
  | .inAlDb imm => Sys2Proof.Machine.execInAlDb imm s
  | .inAxDb imm => Sys2Proof.Machine.execInAxDb imm s
  | .outDbAl imm => Sys2Proof.Machine.execOutDbAl imm s
  | .outDbAx imm => Sys2Proof.Machine.execOutDbAx imm s
  | .callCw rel => Sys2Proof.Machine.execCallCw rel s
  | .jmpCw rel => Sys2Proof.Machine.execJmpCw rel s
  | .jmpCd off sel => Sys2Proof.Machine.execJmpCd off sel s
  | .jmpCb rel => Sys2Proof.Machine.execJmpCb rel s
  | .inAlDx => Sys2Proof.Machine.execInAlDx s
  | .inAxDx => Sys2Proof.Machine.execInAxDx s
  | .outDxAl => Sys2Proof.Machine.execOutDxAl s
  | .outDxAx => Sys2Proof.Machine.execOutDxAx s
  | .pfxLock => Sys2Proof.Machine.execPfxLock s
  | .pfxRepne => Sys2Proof.Machine.execPfxRepne s
  | .pfxRep => Sys2Proof.Machine.execPfxRep s
  | .hlt => Sys2Proof.Machine.execHlt s
  | .cmc => Sys2Proof.Machine.execCmc s
  | .testEbDb d imm => Sys2Proof.Machine.execTestEbDb d imm s
  | .notEb d => Sys2Proof.Machine.execNotEb d s
  | .negEb d => Sys2Proof.Machine.execNegEb d s
  | .mulEb d => Sys2Proof.Machine.execMulEb d s
  | .imulEb d => Sys2Proof.Machine.execImulEb d s
  | .divEb d => Sys2Proof.Machine.execDivEb d s
  | .idivEb d => Sys2Proof.Machine.execIdivEb d s
  | .testEwDw d imm => Sys2Proof.Machine.execTestEwDw d imm s
  | .notEw d => Sys2Proof.Machine.execNotEw d s
  | .negEw d => Sys2Proof.Machine.execNegEw d s
  | .mulEw d => Sys2Proof.Machine.execMulEw d s
  | .imulEw d => Sys2Proof.Machine.execImulEw d s
  | .divEw d => Sys2Proof.Machine.execDivEw d s
  | .idivEw d => Sys2Proof.Machine.execIdivEw d s
  | .clc => Sys2Proof.Machine.execClc s
  | .stc => Sys2Proof.Machine.execStc s
  | .cli => Sys2Proof.Machine.execCli s
  | .sti => Sys2Proof.Machine.execSti s
  | .cld => Sys2Proof.Machine.execCld s
  | .std => Sys2Proof.Machine.execStd s
  | .incEb d => Sys2Proof.Machine.execIncEb d s
  | .decEb d => Sys2Proof.Machine.execDecEb d s
  | .incEw d => Sys2Proof.Machine.execIncEw d s
  | .decEw d => Sys2Proof.Machine.execDecEw d s
  | .callEw d => Sys2Proof.Machine.execCallEw d s
  | .callEd ea => Sys2Proof.Machine.execCallEd ea s
  | .jmpEw d => Sys2Proof.Machine.execJmpEw d s
  | .jmpEd ea => Sys2Proof.Machine.execJmpEd ea s
  | .pushMw d => Sys2Proof.Machine.execPushMw d s
  | .faddM32real ea => Sys2Proof.Machine.execFaddM32real ea s
  | .fmulM32real ea => Sys2Proof.Machine.execFmulM32real ea s
  | .fcomM32real ea => Sys2Proof.Machine.execFcomM32real ea s
  | .fcompM32real ea => Sys2Proof.Machine.execFcompM32real ea s
  | .fsubM32real ea => Sys2Proof.Machine.execFsubM32real ea s
  | .fsubrM32real ea => Sys2Proof.Machine.execFsubrM32real ea s
  | .fdivM32real ea => Sys2Proof.Machine.execFdivM32real ea s
  | .fdivrM32real ea => Sys2Proof.Machine.execFdivrM32real ea s
  | .faddStSti k => Sys2Proof.Machine.execFaddStSti k s
  | .fmulStSti k => Sys2Proof.Machine.execFmulStSti k s
  | .fcomSti k => Sys2Proof.Machine.execFcomSti k s
  | .fcompSti k => Sys2Proof.Machine.execFcompSti k s
  | .fsubStSti k => Sys2Proof.Machine.execFsubStSti k s
  | .fsubrStSti k => Sys2Proof.Machine.execFsubrStSti k s
  | .fdivStSti k => Sys2Proof.Machine.execFdivStSti k s
  | .fdivrStSti k => Sys2Proof.Machine.execFdivrStSti k s
  | .fldM32real ea => Sys2Proof.Machine.execFldM32real ea s
  | .fstM32real ea => Sys2Proof.Machine.execFstM32real ea s
  | .fstpM32real ea => Sys2Proof.Machine.execFstpM32real ea s
  | .fldenvM14byte ea => Sys2Proof.Machine.execFldenvM14byte ea s
  | .fldcwM2byte ea => Sys2Proof.Machine.execFldcwM2byte ea s
  | .fnstenvM14byte ea => Sys2Proof.Machine.execFnstenvM14byte ea s
  | .fnstcwM2byte ea => Sys2Proof.Machine.execFnstcwM2byte ea s
  | .fldSti k => Sys2Proof.Machine.execFldSti k s
  | .fxchSti k => Sys2Proof.Machine.execFxchSti k s
  | .fnop => Sys2Proof.Machine.execFnop s
  | .fstpStiD9 k => Sys2Proof.Machine.execFstpStiD9 k s
  | .fchs => Sys2Proof.Machine.execFchs s
  | .fabs => Sys2Proof.Machine.execFabs s
  | .ftst => Sys2Proof.Machine.execFtst s
  | .fxam => Sys2Proof.Machine.execFxam s
  | .fld1 => Sys2Proof.Machine.execFld1 s
  | .fldl2t => Sys2Proof.Machine.execFldl2t s
  | .fldl2e => Sys2Proof.Machine.execFldl2e s
  | .fldpi => Sys2Proof.Machine.execFldpi s
  | .fldlg2 => Sys2Proof.Machine.execFldlg2 s
  | .fldln2 => Sys2Proof.Machine.execFldln2 s
  | .fldz => Sys2Proof.Machine.execFldz s
  | .f2xm1 => Sys2Proof.Machine.execF2xm1 s
  | .fyl2x => Sys2Proof.Machine.execFyl2x s
  | .fptan => Sys2Proof.Machine.execFptan s
  | .fpatan => Sys2Proof.Machine.execFpatan s
  | .fxtract => Sys2Proof.Machine.execFxtract s
  | .fdecstp => Sys2Proof.Machine.execFdecstp s
  | .fincstp => Sys2Proof.Machine.execFincstp s
  | .fprem => Sys2Proof.Machine.execFprem s
  | .fyl2xp1 => Sys2Proof.Machine.execFyl2xp1 s
  | .fsqrt => Sys2Proof.Machine.execFsqrt s
  | .frndint => Sys2Proof.Machine.execFrndint s
  | .fscale => Sys2Proof.Machine.execFscale s
  | .fiaddM32int ea => Sys2Proof.Machine.execFiaddM32int ea s
  | .fimulM32int ea => Sys2Proof.Machine.execFimulM32int ea s
  | .ficomM32int ea => Sys2Proof.Machine.execFicomM32int ea s
  | .ficompM32int ea => Sys2Proof.Machine.execFicompM32int ea s
  | .fisubM32int ea => Sys2Proof.Machine.execFisubM32int ea s
  | .fisubrM32int ea => Sys2Proof.Machine.execFisubrM32int ea s
  | .fidivM32int ea => Sys2Proof.Machine.execFidivM32int ea s
  | .fidivrM32int ea => Sys2Proof.Machine.execFidivrM32int ea s
  | .fildM32int ea => Sys2Proof.Machine.execFildM32int ea s
  | .fistM32int ea => Sys2Proof.Machine.execFistM32int ea s
  | .fistpM32int ea => Sys2Proof.Machine.execFistpM32int ea s
  | .fldM80real ea => Sys2Proof.Machine.execFldM80real ea s
  | .fstpM80real ea => Sys2Proof.Machine.execFstpM80real ea s
  | .fneni => Sys2Proof.Machine.execFneni s
  | .fndisi => Sys2Proof.Machine.execFndisi s
  | .fnclex => Sys2Proof.Machine.execFnclex s
  | .fninit => Sys2Proof.Machine.execFninit s
  | .fsetpm => Sys2Proof.Machine.execFsetpm s
  | .faddM64real ea => Sys2Proof.Machine.execFaddM64real ea s
  | .fmulM64real ea => Sys2Proof.Machine.execFmulM64real ea s
  | .fcomM64real ea => Sys2Proof.Machine.execFcomM64real ea s
  | .fcompM64real ea => Sys2Proof.Machine.execFcompM64real ea s
  | .fsubM64real ea => Sys2Proof.Machine.execFsubM64real ea s
  | .fsubrM64real ea => Sys2Proof.Machine.execFsubrM64real ea s
  | .fdivM64real ea => Sys2Proof.Machine.execFdivM64real ea s
  | .fdivrM64real ea => Sys2Proof.Machine.execFdivrM64real ea s
  | .faddStiSt k => Sys2Proof.Machine.execFaddStiSt k s
  | .fmulStiSt k => Sys2Proof.Machine.execFmulStiSt k s
  | .fcomStiDC k => Sys2Proof.Machine.execFcomStiDC k s
  | .fcompStiDC k => Sys2Proof.Machine.execFcompStiDC k s
  | .fsubrStiSt k => Sys2Proof.Machine.execFsubrStiSt k s
  | .fsubStiSt k => Sys2Proof.Machine.execFsubStiSt k s
  | .fdivrStiSt k => Sys2Proof.Machine.execFdivrStiSt k s
  | .fdivStiSt k => Sys2Proof.Machine.execFdivStiSt k s
  | .fldM64real ea => Sys2Proof.Machine.execFldM64real ea s
  | .fstM64real ea => Sys2Proof.Machine.execFstM64real ea s
  | .fstpM64real ea => Sys2Proof.Machine.execFstpM64real ea s
  | .frstorM94byte ea => Sys2Proof.Machine.execFrstorM94byte ea s
  | .fnsaveM94byte ea => Sys2Proof.Machine.execFnsaveM94byte ea s
  | .fnstswM2byte ea => Sys2Proof.Machine.execFnstswM2byte ea s
  | .ffreeSti k => Sys2Proof.Machine.execFfreeSti k s
  | .fxchStiDD k => Sys2Proof.Machine.execFxchStiDD k s
  | .fstSti k => Sys2Proof.Machine.execFstSti k s
  | .fstpSti k => Sys2Proof.Machine.execFstpSti k s
  | .fiaddM16int ea => Sys2Proof.Machine.execFiaddM16int ea s
  | .fimulM16int ea => Sys2Proof.Machine.execFimulM16int ea s
  | .ficomM16int ea => Sys2Proof.Machine.execFicomM16int ea s
  | .ficompM16int ea => Sys2Proof.Machine.execFicompM16int ea s
  | .fisubM16int ea => Sys2Proof.Machine.execFisubM16int ea s
  | .fisubrM16int ea => Sys2Proof.Machine.execFisubrM16int ea s
  | .fidivM16int ea => Sys2Proof.Machine.execFidivM16int ea s
  | .fidivrM16int ea => Sys2Proof.Machine.execFidivrM16int ea s
  | .faddpStiSt k => Sys2Proof.Machine.execFaddpStiSt k s
  | .fmulpStiSt k => Sys2Proof.Machine.execFmulpStiSt k s
  | .fcompStiDE k => Sys2Proof.Machine.execFcompStiDE k s
  | .fcompp => Sys2Proof.Machine.execFcompp s
  | .fsubrpStiSt k => Sys2Proof.Machine.execFsubrpStiSt k s
  | .fsubpStiSt k => Sys2Proof.Machine.execFsubpStiSt k s
  | .fdivrpStiSt k => Sys2Proof.Machine.execFdivrpStiSt k s
  | .fdivpStiSt k => Sys2Proof.Machine.execFdivpStiSt k s
  | .fildM16int ea => Sys2Proof.Machine.execFildM16int ea s
  | .fistM16int ea => Sys2Proof.Machine.execFistM16int ea s
  | .fistpM16int ea => Sys2Proof.Machine.execFistpM16int ea s
  | .fbldM80dec ea => Sys2Proof.Machine.execFbldM80dec ea s
  | .fildM64int ea => Sys2Proof.Machine.execFildM64int ea s
  | .fbstpM80dec ea => Sys2Proof.Machine.execFbstpM80dec ea s
  | .fistpM64int ea => Sys2Proof.Machine.execFistpM64int ea s
  | .ffreeStiDF k => Sys2Proof.Machine.execFfreeStiDF k s
  | .fxchStiDF k => Sys2Proof.Machine.execFxchStiDF k s
  | .fstpStiDFD0 k => Sys2Proof.Machine.execFstpStiDFD0 k s
  | .fstpStiDFD8 k => Sys2Proof.Machine.execFstpStiDFD8 k s
  | .fnstswAx => Sys2Proof.Machine.execFnstswAx s
  | .escReserved x g d => Sys2Proof.Machine.execEscReserved x g d s

end Sys2Proof.Machine
end

