-- ==== Sys2Proof/Machine/Fetch.lean ====
section
/-! DEFINITION. What happens before an instruction executes: the input lines, RESET (10_state.md R77, R78), the
instruction boundary (60_exceptions.md R734), and the fetch (20_memory.md R122, R166; 30_encoding.md R180, R181). -/

namespace Sys2Proof.Machine

/- What uses the decoder has no code (Decode.lean). -/
noncomputable section

/-! ### RESET -/

/-- 24 undefined bits. -/
def draw24 : M PhysAddr := do
  let a ← draw16
  let b ← draw16
  return (a ++ b).extractLsb' 0 24

/-- RESET of a running machine: memory, devices, the 80287's registers and pointers are not changed, what R77 leaves
unspecified is undefined, and so is the condition code (R78; log 45). -/
def hardReset : M Unit := do
  let ax ← draw16
  let cx ← draw16
  let dx ← draw16
  let bx ← draw16
  let sp ← draw16
  let bp ← draw16
  let si ← draw16
  let di ← draw16
  let gdtBase ← draw24
  let gdtLimit ← draw16
  let ldtSel ← draw16
  let ldtBase ← draw24
  let ldtLimit ← draw16
  let trSel ← draw16
  let trBase ← draw24
  let trLimit ← draw16
  let sw ← draw16
  modify fun s =>
    { State.reset with
      gpr := ⟨ax, cx, dx, bx, sp, bp, si, di⟩
      gdtr := ⟨gdtBase, gdtLimit⟩
      ldtr := ⟨ldtSel, ldtBase, ldtLimit, false⟩
      tr := ⟨trSel, trBase, trLimit, false⟩
      npx := { s.npx with cw := 0x037F, sw := .undefCond sw, tw := 0xFFFF, protectedMode := false }
      npxPresent := s.npxPresent
      mem := s.mem
      memMap := s.memMap
      clock := s.clock
      io := s.io
      lines := s.lines
      undef := s.undef }

/-- The state an M computation leaves, however it ends. -/
def M.state {α : Type} (m : M α) (s : State) : State :=
  match m.run s with
  | .ok _ s' => s'
  | .error _ s' => s'

/-! ### The instruction boundary (60_exceptions.md R734) -/

/-- One event of a boundary: if it is due it is acknowledged and delivered. A boundary ends when a delivery shuts the
machine down. -/
def takeEvent (due : Bool) (n : Byte) (kind : EventKind) (ack : State → State) (s : State) : State :=
  if due && s.run != .shutdown then deliver n kind none (ack s) else s

/-- The events of a boundary in their order (R735), `inh` and `sti` being the latches that cover it. -/
def State.events (s : State) (inh sti : Bool) : State :=
  let s := takeEvent (s.stepPending && !inh) 1 .step (fun s => { s with stepPending := false }) s
  let s := takeEvent (s.nmiPending && !s.nmiMask && !inh) 2 .nmi (fun s => { s with nmiPending := false }) s
  let s := takeEvent (s.mpPending && !s.nmiMask) 9 .mp (fun s => { s with mpPending := false }) s
  takeEvent (s.lines.intr && s.flag .if_ && !inh && !sti) s.lines.vector .intr id s

/-- Some event is due at this boundary. -/
def State.eventDue (s : State) (inh sti : Bool) : Bool :=
  (s.stepPending && !inh) || (s.nmiPending && !s.nmiMask && !inh) || (s.mpPending && !s.nmiMask) ||
    (s.lines.intr && s.flag .if_ && !inh && !sti)

/-- ShutdownNMI() (R757). -/
def State.shutdownNMI (s : State) : State :=
  if !(s.nmiPending && !s.nmiMask) then s
  else if !s.pe then
    if decide (0x000F ≤ s.idtr.limit.toNat) && decide (0x0005 < s.gpr.sp.toNat) then
      deliver 2 .nmi none { s with nmiPending := false }
    else s
  else
    match (deliverProt 2 .nmi none).run { s with nmiPending := false } with
    | .ok _ s' => s'.delivered .nmi
    | .error _ s' => s'

/-! ### Fetch -/

/-- How many bytes the code segment holds from IP on (20_memory.md R122). -/
def State.fetchRoom (s : State) : Nat := if s.ipPast then 0 else s.cs.limit.toNat + 1 - s.ip.toNat

/-- Any one of the listed bytes, or the last one. -/
def anyOf : List Byte → Byte → M Byte
  | [], v => return v
  | w :: rest, v => do
    let b ← drawBit
    if b then return w else anyOf rest v

/-- One code byte. A byte stored to since the last taken transfer is read as it is, or as it was before any of these
stores (20_memory.md R166, log 12). -/
def fetchByte (off : Word) : M Byte := do
  let s ← get
  let pa := s.cs.lin off
  anyOf ((s.stale.filter fun c => c.1 == pa.toNat).map Prod.snd) (s.mem8 pa)

/-- Code bytes at ascending offsets. -/
def fetchBytes : Nat → Word → M (List Byte)
  | 0, _ => return []
  | n + 1, off => do
    let b ← fetchByte off
    let rest ← fetchBytes n (off + 1)
    return b :: rest

/-- The exception that stands for bytes which are no instruction (30_encoding.md R181, R200). `room` is what the code
segment holds, `left` what the length limit leaves. -/
def fetchAbort (room left : Nat) : DecodeError → Abort
  | .undefinedOpcode => .ud
  | .general => .gp 0
  | .short => if room < left then .gp 0 else .ud

/-- Fetch and decode at IP, and move IP past what was read: one instruction, or one prefix byte. -/
def fetch : M Instr := do
  let s ← get
  let room := s.fetchRoom
  let left := maxLength - s.pfx.count
  let bytes ← fetchBytes (min room left) s.ip
  match decode bytes with
  | .ok i n => do
    modify fun s =>
      { s with ip := s.ip + BitVec.ofNat 16 n, ipPast := s.ipPast || decide (65536 ≤ s.ip.toNat + n) }
    return i
  | .error e => raise (fetchAbort room left e)

/-! ### A step up to the execution of its instruction -/

/-- What a step does next. -/
inductive Prepared where
  /-- the step is over: RESET, a wait for READY, an event, a halted machine or a fault on the fetch -/
  | over (s : State)
  /-- an instruction executes, IP being next_IP (10_state.md R41) -/
  | run (i : Instr) (s : State)
  deriving DecidableEq, Repr

/-- Fetch and go on. -/
def State.fetchStep (s : State) : Prepared :=
  match fetch.run s with
  | .ok i s' => .run i s'
  | .error a s' => .over (takeAbort a s')

/-- The next iteration of a repeated string instruction, without a fetch (44_string.md R435). -/
def State.repeatStep (s : State) (r : Repetition) : Prepared :=
  .run r.instr { s with ip := r.ip, ipPast := r.ipPast, pfx := r.pfx, repeating := none }

/-- ShutdownNMI() is due (R757). -/
def State.shutdownDue (s : State) : Bool := s.nmiPending && !s.nmiMask

/-- An event is due at this boundary; after a boundary that delivered one, the next instruction comes first (R734). -/
def State.boundaryDue (s : State) : Bool := !s.boundaryDone && s.eventDue s.inhibit s.stiShadow

/-- The CPU is about to use the bus: it executes, or it takes an event. A halted or shut down CPU with nothing to do uses
none (70_reset_and_hazards.md R862). -/
def State.needsBus (s : State) : Bool :=
  match s.run with
  | .running => true
  | .halted => s.boundaryDue
  | .shutdown => s.shutdownDue

/-- What a boundary begins with (R734): cur_IP, and the latches, which cover it alone. DESIGN CHOICE: as R734 says, also
where a boundary between two iterations of a repeated string instruction follows an STI or a load of SS; 10_state.md R71
and 45_flag_io_misc.md R457 would keep the delay until that instruction completes (log 59). -/
def State.atBoundary (s : State) : State :=
  { s with curIP := s.ip, inhibit := false, stiShadow := false, boundaryDone := false }

/-- What a boundary that delivered an event leaves: the next instruction comes before the next boundary (R734). -/
def State.boundaryRun (s : State) : State := { s with boundaryDone := s.run == .running }

/-- The next instruction begins: the single-step trap becomes pending if TF is set (10_state.md R73). -/
def State.begin (s : State) : Prepared :=
  let t := { s with stepPending := s.flag .tf, pfx := Prefixes.none }
  match s.repeating with
  | some r => t.repeatStep r
  | none => t.fetchStep

/-- The boundary, unless it has been run, and the instruction that begins (R734). -/
def State.boundary (s : State) : Prepared :=
  match s.run with
  | .shutdown => .over (if s.shutdownDue then s.atBoundary.shutdownNMI.boundaryRun else s.atBoundary)
  | .halted => .over (if s.boundaryDue then (s.atBoundary.events s.inhibit s.stiShadow).boundaryRun else s.atBoundary)
  | .running =>
    if s.boundaryDue then .over (s.atBoundary.events s.inhibit s.stiShadow).boundaryRun else s.atBoundary.begin

/-- Everything before the execution. RESET overrides everything (70_reset_and_hazards.md R820). While READY is inactive
a CPU that needs the bus waits, and nothing changes (20_memory.md R169, log 44). After a prefix byte no boundary comes. -/
def State.prepare (s : State) : Prepared :=
  let t := { s with clock := s.clock + 1, bus := [] }
  if s.lines.reset then .over (M.state hardReset t)
  else if !s.lines.ready && s.needsBus then .over s
  else if s.pfx.count != 0 && s.run == .running then t.fetchStep
  else t.boundary

/-- RESET inside a step, after `k` of the data cycles of the step, which would have ended in `t`: the instruction is
abandoned, what those cycles stored and what devices saw of them stay, and the line is active from then on
(70_reset_and_hazards.md R820). DESIGN CHOICE: the 80287's registers and pointers are those before the step (log 58). -/
def State.abandoned (s t : State) (k : Nat) : State :=
  let u := s.replay (t.bus.drop (t.bus.length - k))
  M.state hardReset
    { u with undef := t.undef, clock := t.clock, lines := { s.lines with reset := true, rising := none } }

/-- The bytes of a word of the opcode table, placed where the next fetch reads them. -/
def placeBytes (cs : SegCache) : Word → List Byte → Memory → Memory
  | _, [], m => m
  | off, b :: rest, m => placeBytes cs (off + 1) rest (Memory.write m (cs.lin off).toNat b)

end

end Sys2Proof.Machine
end

