-- ==== Sys2Proof/Machine/Step.lean ====
section
/-! DEFINITION. One step of the machine, and how an instruction is placed where the next step fetches it. -/

namespace Sys2Proof.Machine

/- What uses the decoder has no code (Decode.lean). -/
noncomputable section

/-- A step that runs to its end: the input lines, an event of the instruction boundary, or one instruction, one prefix
byte, or one iteration of a repeated string instruction (60_exceptions.md R734, 44_string.md R435; log 9). -/
def State.unbroken (s : State) : Host.Outcome State Fault Refusal :=
  match s.prepare with
  | .over t => .next t
  | .run i t => exec i t

/-- One step. A RESET that rises inside it leaves its first data cycles done (70_reset_and_hazards.md R820). -/
def step (s : State) : Host.Outcome State Fault Refusal :=
  match s.lines.rising with
  | none => s.unbroken
  | some k =>
    match { s with bus := [] }.unbroken with
    | .next t => .next ({ s with bus := [] }.abandoned t k)
    | .fault f => .fault f
    | .refused r => .refused r

/-- The state with a word of the opcode table, zeros after it, where the next step fetches (CS:IP). -/
def State.withFetchWord (s : State) (nbits w : Nat) : State :=
  { s with mem := placeBytes s.cs s.ip (tableImage nbits w) s.mem, stale := [], repeating := none }

end

end Sys2Proof.Machine
end

