-- ==== Sys2Proof/Laws/State.lean ====
section
/-! SUPPORT. One lemma per field for every update of the state: what the update leaves unchanged, and what it sets. -/

namespace Sys2Proof.Machine

@[simp] theorem seen_nil : seen [] = [] := rfl
@[simp] theorem seen_append (l m : List IoEvent) : seen (l ++ m) = seen l ++ seen m := List.map_append

/-! ### setReg16 -/

@[simp] theorem setReg16_flags (s : State) (r : Reg16) (v : Word) : (s.setReg16 r v).flags = s.flags := rfl
@[simp] theorem setReg16_ip (s : State) (r : Reg16) (v : Word) : (s.setReg16 r v).ip = s.ip := rfl
@[simp] theorem setReg16_ipPast (s : State) (r : Reg16) (v : Word) : (s.setReg16 r v).ipPast = s.ipPast := rfl
@[simp] theorem setReg16_cs (s : State) (r : Reg16) (v : Word) : (s.setReg16 r v).cs = s.cs := rfl
@[simp] theorem setReg16_ss (s : State) (r : Reg16) (v : Word) : (s.setReg16 r v).ss = s.ss := rfl
@[simp] theorem setReg16_ds (s : State) (r : Reg16) (v : Word) : (s.setReg16 r v).ds = s.ds := rfl
@[simp] theorem setReg16_es (s : State) (r : Reg16) (v : Word) : (s.setReg16 r v).es = s.es := rfl
@[simp] theorem setReg16_cpl (s : State) (r : Reg16) (v : Word) : (s.setReg16 r v).cpl = s.cpl := rfl
@[simp] theorem setReg16_gdtr (s : State) (r : Reg16) (v : Word) : (s.setReg16 r v).gdtr = s.gdtr := rfl
@[simp] theorem setReg16_idtr (s : State) (r : Reg16) (v : Word) : (s.setReg16 r v).idtr = s.idtr := rfl
@[simp] theorem setReg16_ldtr (s : State) (r : Reg16) (v : Word) : (s.setReg16 r v).ldtr = s.ldtr := rfl
@[simp] theorem setReg16_tr (s : State) (r : Reg16) (v : Word) : (s.setReg16 r v).tr = s.tr := rfl
@[simp] theorem setReg16_msw (s : State) (r : Reg16) (v : Word) : (s.setReg16 r v).msw = s.msw := rfl
@[simp] theorem setReg16_npx (s : State) (r : Reg16) (v : Word) : (s.setReg16 r v).npx = s.npx := rfl
@[simp] theorem setReg16_npxPresent (s : State) (r : Reg16) (v : Word) : (s.setReg16 r v).npxPresent = s.npxPresent := rfl
@[simp] theorem setReg16_mem (s : State) (r : Reg16) (v : Word) : (s.setReg16 r v).mem = s.mem := rfl
@[simp] theorem setReg16_io (s : State) (r : Reg16) (v : Word) : (s.setReg16 r v).io = s.io := rfl
@[simp] theorem setReg16_inhibit (s : State) (r : Reg16) (v : Word) : (s.setReg16 r v).inhibit = s.inhibit := rfl
@[simp] theorem setReg16_stiShadow (s : State) (r : Reg16) (v : Word) : (s.setReg16 r v).stiShadow = s.stiShadow := rfl
@[simp] theorem setReg16_nmiMask (s : State) (r : Reg16) (v : Word) : (s.setReg16 r v).nmiMask = s.nmiMask := rfl
@[simp] theorem setReg16_nmiPending (s : State) (r : Reg16) (v : Word) : (s.setReg16 r v).nmiPending = s.nmiPending := rfl
@[simp] theorem setReg16_mpPending (s : State) (r : Reg16) (v : Word) : (s.setReg16 r v).mpPending = s.mpPending := rfl
@[simp] theorem setReg16_stepPending (s : State) (r : Reg16) (v : Word) : (s.setReg16 r v).stepPending = s.stepPending := rfl
@[simp] theorem setReg16_run (s : State) (r : Reg16) (v : Word) : (s.setReg16 r v).run = s.run := rfl
@[simp] theorem setReg16_lines (s : State) (r : Reg16) (v : Word) : (s.setReg16 r v).lines = s.lines := rfl
@[simp] theorem setReg16_curIP (s : State) (r : Reg16) (v : Word) : (s.setReg16 r v).curIP = s.curIP := rfl
@[simp] theorem setReg16_pfx (s : State) (r : Reg16) (v : Word) : (s.setReg16 r v).pfx = s.pfx := rfl
@[simp] theorem setReg16_stale (s : State) (r : Reg16) (v : Word) : (s.setReg16 r v).stale = s.stale := rfl
@[simp] theorem setReg16_undef (s : State) (r : Reg16) (v : Word) : (s.setReg16 r v).undef = s.undef := rfl
@[simp] theorem setReg16_memMap (s : State) (r : Reg16) (v : Word) : (s.setReg16 r v).memMap = s.memMap := rfl
@[simp] theorem setReg16_repeating (s : State) (r : Reg16) (v : Word) : (s.setReg16 r v).repeating = s.repeating := rfl
@[simp] theorem setReg16_boundaryDone (s : State) (r : Reg16) (v : Word) : (s.setReg16 r v).boundaryDone = s.boundaryDone := rfl
@[simp] theorem setReg16_clock (s : State) (r : Reg16) (v : Word) : (s.setReg16 r v).clock = s.clock := rfl
@[simp] theorem setReg16_bus (s : State) (r : Reg16) (v : Word) : (s.setReg16 r v).bus = s.bus := rfl

/-! ### setReg8 -/

@[simp] theorem setReg8_flags (s : State) (r : Reg8) (v : Byte) : (s.setReg8 r v).flags = s.flags := rfl
@[simp] theorem setReg8_ip (s : State) (r : Reg8) (v : Byte) : (s.setReg8 r v).ip = s.ip := rfl
@[simp] theorem setReg8_ipPast (s : State) (r : Reg8) (v : Byte) : (s.setReg8 r v).ipPast = s.ipPast := rfl
@[simp] theorem setReg8_cs (s : State) (r : Reg8) (v : Byte) : (s.setReg8 r v).cs = s.cs := rfl
@[simp] theorem setReg8_ss (s : State) (r : Reg8) (v : Byte) : (s.setReg8 r v).ss = s.ss := rfl
@[simp] theorem setReg8_ds (s : State) (r : Reg8) (v : Byte) : (s.setReg8 r v).ds = s.ds := rfl
@[simp] theorem setReg8_es (s : State) (r : Reg8) (v : Byte) : (s.setReg8 r v).es = s.es := rfl
@[simp] theorem setReg8_cpl (s : State) (r : Reg8) (v : Byte) : (s.setReg8 r v).cpl = s.cpl := rfl
@[simp] theorem setReg8_gdtr (s : State) (r : Reg8) (v : Byte) : (s.setReg8 r v).gdtr = s.gdtr := rfl
@[simp] theorem setReg8_idtr (s : State) (r : Reg8) (v : Byte) : (s.setReg8 r v).idtr = s.idtr := rfl
@[simp] theorem setReg8_ldtr (s : State) (r : Reg8) (v : Byte) : (s.setReg8 r v).ldtr = s.ldtr := rfl
@[simp] theorem setReg8_tr (s : State) (r : Reg8) (v : Byte) : (s.setReg8 r v).tr = s.tr := rfl
@[simp] theorem setReg8_msw (s : State) (r : Reg8) (v : Byte) : (s.setReg8 r v).msw = s.msw := rfl
@[simp] theorem setReg8_npx (s : State) (r : Reg8) (v : Byte) : (s.setReg8 r v).npx = s.npx := rfl
@[simp] theorem setReg8_npxPresent (s : State) (r : Reg8) (v : Byte) : (s.setReg8 r v).npxPresent = s.npxPresent := rfl
@[simp] theorem setReg8_mem (s : State) (r : Reg8) (v : Byte) : (s.setReg8 r v).mem = s.mem := rfl
@[simp] theorem setReg8_io (s : State) (r : Reg8) (v : Byte) : (s.setReg8 r v).io = s.io := rfl
@[simp] theorem setReg8_inhibit (s : State) (r : Reg8) (v : Byte) : (s.setReg8 r v).inhibit = s.inhibit := rfl
@[simp] theorem setReg8_stiShadow (s : State) (r : Reg8) (v : Byte) : (s.setReg8 r v).stiShadow = s.stiShadow := rfl
@[simp] theorem setReg8_nmiMask (s : State) (r : Reg8) (v : Byte) : (s.setReg8 r v).nmiMask = s.nmiMask := rfl
@[simp] theorem setReg8_nmiPending (s : State) (r : Reg8) (v : Byte) : (s.setReg8 r v).nmiPending = s.nmiPending := rfl
@[simp] theorem setReg8_mpPending (s : State) (r : Reg8) (v : Byte) : (s.setReg8 r v).mpPending = s.mpPending := rfl
@[simp] theorem setReg8_stepPending (s : State) (r : Reg8) (v : Byte) : (s.setReg8 r v).stepPending = s.stepPending := rfl
@[simp] theorem setReg8_run (s : State) (r : Reg8) (v : Byte) : (s.setReg8 r v).run = s.run := rfl
@[simp] theorem setReg8_lines (s : State) (r : Reg8) (v : Byte) : (s.setReg8 r v).lines = s.lines := rfl
@[simp] theorem setReg8_curIP (s : State) (r : Reg8) (v : Byte) : (s.setReg8 r v).curIP = s.curIP := rfl
@[simp] theorem setReg8_pfx (s : State) (r : Reg8) (v : Byte) : (s.setReg8 r v).pfx = s.pfx := rfl
@[simp] theorem setReg8_stale (s : State) (r : Reg8) (v : Byte) : (s.setReg8 r v).stale = s.stale := rfl
@[simp] theorem setReg8_undef (s : State) (r : Reg8) (v : Byte) : (s.setReg8 r v).undef = s.undef := rfl
@[simp] theorem setReg8_memMap (s : State) (r : Reg8) (v : Byte) : (s.setReg8 r v).memMap = s.memMap := rfl
@[simp] theorem setReg8_repeating (s : State) (r : Reg8) (v : Byte) : (s.setReg8 r v).repeating = s.repeating := rfl
@[simp] theorem setReg8_boundaryDone (s : State) (r : Reg8) (v : Byte) : (s.setReg8 r v).boundaryDone = s.boundaryDone := rfl
@[simp] theorem setReg8_clock (s : State) (r : Reg8) (v : Byte) : (s.setReg8 r v).clock = s.clock := rfl
@[simp] theorem setReg8_bus (s : State) (r : Reg8) (v : Byte) : (s.setReg8 r v).bus = s.bus := rfl

/-! ### setFlag -/

@[simp] theorem setFlag_gpr (s : State) (f : Flag) (b : Bool) : (s.setFlag f b).gpr = s.gpr := rfl
@[simp] theorem setFlag_ip (s : State) (f : Flag) (b : Bool) : (s.setFlag f b).ip = s.ip := rfl
@[simp] theorem setFlag_ipPast (s : State) (f : Flag) (b : Bool) : (s.setFlag f b).ipPast = s.ipPast := rfl
@[simp] theorem setFlag_cs (s : State) (f : Flag) (b : Bool) : (s.setFlag f b).cs = s.cs := rfl
@[simp] theorem setFlag_ss (s : State) (f : Flag) (b : Bool) : (s.setFlag f b).ss = s.ss := rfl
@[simp] theorem setFlag_ds (s : State) (f : Flag) (b : Bool) : (s.setFlag f b).ds = s.ds := rfl
@[simp] theorem setFlag_es (s : State) (f : Flag) (b : Bool) : (s.setFlag f b).es = s.es := rfl
@[simp] theorem setFlag_cpl (s : State) (f : Flag) (b : Bool) : (s.setFlag f b).cpl = s.cpl := rfl
@[simp] theorem setFlag_gdtr (s : State) (f : Flag) (b : Bool) : (s.setFlag f b).gdtr = s.gdtr := rfl
@[simp] theorem setFlag_idtr (s : State) (f : Flag) (b : Bool) : (s.setFlag f b).idtr = s.idtr := rfl
@[simp] theorem setFlag_ldtr (s : State) (f : Flag) (b : Bool) : (s.setFlag f b).ldtr = s.ldtr := rfl
@[simp] theorem setFlag_tr (s : State) (f : Flag) (b : Bool) : (s.setFlag f b).tr = s.tr := rfl
@[simp] theorem setFlag_msw (s : State) (f : Flag) (b : Bool) : (s.setFlag f b).msw = s.msw := rfl
@[simp] theorem setFlag_npx (s : State) (f : Flag) (b : Bool) : (s.setFlag f b).npx = s.npx := rfl
@[simp] theorem setFlag_npxPresent (s : State) (f : Flag) (b : Bool) : (s.setFlag f b).npxPresent = s.npxPresent := rfl
@[simp] theorem setFlag_mem (s : State) (f : Flag) (b : Bool) : (s.setFlag f b).mem = s.mem := rfl
@[simp] theorem setFlag_io (s : State) (f : Flag) (b : Bool) : (s.setFlag f b).io = s.io := rfl
@[simp] theorem setFlag_inhibit (s : State) (f : Flag) (b : Bool) : (s.setFlag f b).inhibit = s.inhibit := rfl
@[simp] theorem setFlag_stiShadow (s : State) (f : Flag) (b : Bool) : (s.setFlag f b).stiShadow = s.stiShadow := rfl
@[simp] theorem setFlag_nmiMask (s : State) (f : Flag) (b : Bool) : (s.setFlag f b).nmiMask = s.nmiMask := rfl
@[simp] theorem setFlag_nmiPending (s : State) (f : Flag) (b : Bool) : (s.setFlag f b).nmiPending = s.nmiPending := rfl
@[simp] theorem setFlag_mpPending (s : State) (f : Flag) (b : Bool) : (s.setFlag f b).mpPending = s.mpPending := rfl
@[simp] theorem setFlag_stepPending (s : State) (f : Flag) (b : Bool) : (s.setFlag f b).stepPending = s.stepPending := rfl
@[simp] theorem setFlag_run (s : State) (f : Flag) (b : Bool) : (s.setFlag f b).run = s.run := rfl
@[simp] theorem setFlag_lines (s : State) (f : Flag) (b : Bool) : (s.setFlag f b).lines = s.lines := rfl
@[simp] theorem setFlag_curIP (s : State) (f : Flag) (b : Bool) : (s.setFlag f b).curIP = s.curIP := rfl
@[simp] theorem setFlag_pfx (s : State) (f : Flag) (b : Bool) : (s.setFlag f b).pfx = s.pfx := rfl
@[simp] theorem setFlag_stale (s : State) (f : Flag) (b : Bool) : (s.setFlag f b).stale = s.stale := rfl
@[simp] theorem setFlag_undef (s : State) (f : Flag) (b : Bool) : (s.setFlag f b).undef = s.undef := rfl
@[simp] theorem setFlag_memMap (s : State) (f : Flag) (b : Bool) : (s.setFlag f b).memMap = s.memMap := rfl
@[simp] theorem setFlag_repeating (s : State) (f : Flag) (b : Bool) : (s.setFlag f b).repeating = s.repeating := rfl
@[simp] theorem setFlag_boundaryDone (s : State) (f : Flag) (b : Bool) : (s.setFlag f b).boundaryDone = s.boundaryDone := rfl
@[simp] theorem setFlag_clock (s : State) (f : Flag) (b : Bool) : (s.setFlag f b).clock = s.clock := rfl
@[simp] theorem setFlag_bus (s : State) (f : Flag) (b : Bool) : (s.setFlag f b).bus = s.bus := rfl

/-! ### setStatus -/

@[simp] theorem setStatus_gpr (s : State) (f : StatusFlags) : (s.setStatus f).gpr = s.gpr := rfl
@[simp] theorem setStatus_ip (s : State) (f : StatusFlags) : (s.setStatus f).ip = s.ip := rfl
@[simp] theorem setStatus_ipPast (s : State) (f : StatusFlags) : (s.setStatus f).ipPast = s.ipPast := rfl
@[simp] theorem setStatus_cs (s : State) (f : StatusFlags) : (s.setStatus f).cs = s.cs := rfl
@[simp] theorem setStatus_ss (s : State) (f : StatusFlags) : (s.setStatus f).ss = s.ss := rfl
@[simp] theorem setStatus_ds (s : State) (f : StatusFlags) : (s.setStatus f).ds = s.ds := rfl
@[simp] theorem setStatus_es (s : State) (f : StatusFlags) : (s.setStatus f).es = s.es := rfl
@[simp] theorem setStatus_cpl (s : State) (f : StatusFlags) : (s.setStatus f).cpl = s.cpl := rfl
@[simp] theorem setStatus_gdtr (s : State) (f : StatusFlags) : (s.setStatus f).gdtr = s.gdtr := rfl
@[simp] theorem setStatus_idtr (s : State) (f : StatusFlags) : (s.setStatus f).idtr = s.idtr := rfl
@[simp] theorem setStatus_ldtr (s : State) (f : StatusFlags) : (s.setStatus f).ldtr = s.ldtr := rfl
@[simp] theorem setStatus_tr (s : State) (f : StatusFlags) : (s.setStatus f).tr = s.tr := rfl
@[simp] theorem setStatus_msw (s : State) (f : StatusFlags) : (s.setStatus f).msw = s.msw := rfl
@[simp] theorem setStatus_npx (s : State) (f : StatusFlags) : (s.setStatus f).npx = s.npx := rfl
@[simp] theorem setStatus_npxPresent (s : State) (f : StatusFlags) : (s.setStatus f).npxPresent = s.npxPresent := rfl
@[simp] theorem setStatus_mem (s : State) (f : StatusFlags) : (s.setStatus f).mem = s.mem := rfl
@[simp] theorem setStatus_io (s : State) (f : StatusFlags) : (s.setStatus f).io = s.io := rfl
@[simp] theorem setStatus_inhibit (s : State) (f : StatusFlags) : (s.setStatus f).inhibit = s.inhibit := rfl
@[simp] theorem setStatus_stiShadow (s : State) (f : StatusFlags) : (s.setStatus f).stiShadow = s.stiShadow := rfl
@[simp] theorem setStatus_nmiMask (s : State) (f : StatusFlags) : (s.setStatus f).nmiMask = s.nmiMask := rfl
@[simp] theorem setStatus_nmiPending (s : State) (f : StatusFlags) : (s.setStatus f).nmiPending = s.nmiPending := rfl
@[simp] theorem setStatus_mpPending (s : State) (f : StatusFlags) : (s.setStatus f).mpPending = s.mpPending := rfl
@[simp] theorem setStatus_stepPending (s : State) (f : StatusFlags) : (s.setStatus f).stepPending = s.stepPending := rfl
@[simp] theorem setStatus_run (s : State) (f : StatusFlags) : (s.setStatus f).run = s.run := rfl
@[simp] theorem setStatus_lines (s : State) (f : StatusFlags) : (s.setStatus f).lines = s.lines := rfl
@[simp] theorem setStatus_curIP (s : State) (f : StatusFlags) : (s.setStatus f).curIP = s.curIP := rfl
@[simp] theorem setStatus_pfx (s : State) (f : StatusFlags) : (s.setStatus f).pfx = s.pfx := rfl
@[simp] theorem setStatus_stale (s : State) (f : StatusFlags) : (s.setStatus f).stale = s.stale := rfl
@[simp] theorem setStatus_undef (s : State) (f : StatusFlags) : (s.setStatus f).undef = s.undef := rfl
@[simp] theorem setStatus_memMap (s : State) (f : StatusFlags) : (s.setStatus f).memMap = s.memMap := rfl
@[simp] theorem setStatus_repeating (s : State) (f : StatusFlags) : (s.setStatus f).repeating = s.repeating := rfl
@[simp] theorem setStatus_boundaryDone (s : State) (f : StatusFlags) : (s.setStatus f).boundaryDone = s.boundaryDone := rfl
@[simp] theorem setStatus_clock (s : State) (f : StatusFlags) : (s.setStatus f).clock = s.clock := rfl
@[simp] theorem setStatus_bus (s : State) (f : StatusFlags) : (s.setStatus f).bus = s.bus := rfl

/-! ### setStatusButCarry -/

@[simp] theorem setStatusButCarry_gpr (s : State) (f : StatusFlags) : (s.setStatusButCarry f).gpr = s.gpr := rfl
@[simp] theorem setStatusButCarry_ip (s : State) (f : StatusFlags) : (s.setStatusButCarry f).ip = s.ip := rfl
@[simp] theorem setStatusButCarry_ipPast (s : State) (f : StatusFlags) : (s.setStatusButCarry f).ipPast = s.ipPast := rfl
@[simp] theorem setStatusButCarry_cs (s : State) (f : StatusFlags) : (s.setStatusButCarry f).cs = s.cs := rfl
@[simp] theorem setStatusButCarry_ss (s : State) (f : StatusFlags) : (s.setStatusButCarry f).ss = s.ss := rfl
@[simp] theorem setStatusButCarry_ds (s : State) (f : StatusFlags) : (s.setStatusButCarry f).ds = s.ds := rfl
@[simp] theorem setStatusButCarry_es (s : State) (f : StatusFlags) : (s.setStatusButCarry f).es = s.es := rfl
@[simp] theorem setStatusButCarry_cpl (s : State) (f : StatusFlags) : (s.setStatusButCarry f).cpl = s.cpl := rfl
@[simp] theorem setStatusButCarry_gdtr (s : State) (f : StatusFlags) : (s.setStatusButCarry f).gdtr = s.gdtr := rfl
@[simp] theorem setStatusButCarry_idtr (s : State) (f : StatusFlags) : (s.setStatusButCarry f).idtr = s.idtr := rfl
@[simp] theorem setStatusButCarry_ldtr (s : State) (f : StatusFlags) : (s.setStatusButCarry f).ldtr = s.ldtr := rfl
@[simp] theorem setStatusButCarry_tr (s : State) (f : StatusFlags) : (s.setStatusButCarry f).tr = s.tr := rfl
@[simp] theorem setStatusButCarry_msw (s : State) (f : StatusFlags) : (s.setStatusButCarry f).msw = s.msw := rfl
@[simp] theorem setStatusButCarry_npx (s : State) (f : StatusFlags) : (s.setStatusButCarry f).npx = s.npx := rfl
@[simp] theorem setStatusButCarry_npxPresent (s : State) (f : StatusFlags) : (s.setStatusButCarry f).npxPresent = s.npxPresent := rfl
@[simp] theorem setStatusButCarry_mem (s : State) (f : StatusFlags) : (s.setStatusButCarry f).mem = s.mem := rfl
@[simp] theorem setStatusButCarry_io (s : State) (f : StatusFlags) : (s.setStatusButCarry f).io = s.io := rfl
@[simp] theorem setStatusButCarry_inhibit (s : State) (f : StatusFlags) : (s.setStatusButCarry f).inhibit = s.inhibit := rfl
@[simp] theorem setStatusButCarry_stiShadow (s : State) (f : StatusFlags) : (s.setStatusButCarry f).stiShadow = s.stiShadow := rfl
@[simp] theorem setStatusButCarry_nmiMask (s : State) (f : StatusFlags) : (s.setStatusButCarry f).nmiMask = s.nmiMask := rfl
@[simp] theorem setStatusButCarry_nmiPending (s : State) (f : StatusFlags) : (s.setStatusButCarry f).nmiPending = s.nmiPending := rfl
@[simp] theorem setStatusButCarry_mpPending (s : State) (f : StatusFlags) : (s.setStatusButCarry f).mpPending = s.mpPending := rfl
@[simp] theorem setStatusButCarry_stepPending (s : State) (f : StatusFlags) : (s.setStatusButCarry f).stepPending = s.stepPending := rfl
@[simp] theorem setStatusButCarry_run (s : State) (f : StatusFlags) : (s.setStatusButCarry f).run = s.run := rfl
@[simp] theorem setStatusButCarry_lines (s : State) (f : StatusFlags) : (s.setStatusButCarry f).lines = s.lines := rfl
@[simp] theorem setStatusButCarry_curIP (s : State) (f : StatusFlags) : (s.setStatusButCarry f).curIP = s.curIP := rfl
@[simp] theorem setStatusButCarry_pfx (s : State) (f : StatusFlags) : (s.setStatusButCarry f).pfx = s.pfx := rfl
@[simp] theorem setStatusButCarry_stale (s : State) (f : StatusFlags) : (s.setStatusButCarry f).stale = s.stale := rfl
@[simp] theorem setStatusButCarry_undef (s : State) (f : StatusFlags) : (s.setStatusButCarry f).undef = s.undef := rfl
@[simp] theorem setStatusButCarry_memMap (s : State) (f : StatusFlags) : (s.setStatusButCarry f).memMap = s.memMap := rfl
@[simp] theorem setStatusButCarry_repeating (s : State) (f : StatusFlags) : (s.setStatusButCarry f).repeating = s.repeating := rfl
@[simp] theorem setStatusButCarry_boundaryDone (s : State) (f : StatusFlags) : (s.setStatusButCarry f).boundaryDone = s.boundaryDone := rfl
@[simp] theorem setStatusButCarry_clock (s : State) (f : StatusFlags) : (s.setStatusButCarry f).clock = s.clock := rfl
@[simp] theorem setStatusButCarry_bus (s : State) (f : StatusFlags) : (s.setStatusButCarry f).bus = s.bus := rfl

/-! ### setMem8 -/

@[simp] theorem setMem8_gpr (s : State) (a : PhysAddr) (v : Byte) : (s.setMem8 a v).gpr = s.gpr := rfl
@[simp] theorem setMem8_flags (s : State) (a : PhysAddr) (v : Byte) : (s.setMem8 a v).flags = s.flags := rfl
@[simp] theorem setMem8_ip (s : State) (a : PhysAddr) (v : Byte) : (s.setMem8 a v).ip = s.ip := rfl
@[simp] theorem setMem8_ipPast (s : State) (a : PhysAddr) (v : Byte) : (s.setMem8 a v).ipPast = s.ipPast := rfl
@[simp] theorem setMem8_cs (s : State) (a : PhysAddr) (v : Byte) : (s.setMem8 a v).cs = s.cs := rfl
@[simp] theorem setMem8_ss (s : State) (a : PhysAddr) (v : Byte) : (s.setMem8 a v).ss = s.ss := rfl
@[simp] theorem setMem8_ds (s : State) (a : PhysAddr) (v : Byte) : (s.setMem8 a v).ds = s.ds := rfl
@[simp] theorem setMem8_es (s : State) (a : PhysAddr) (v : Byte) : (s.setMem8 a v).es = s.es := rfl
@[simp] theorem setMem8_cpl (s : State) (a : PhysAddr) (v : Byte) : (s.setMem8 a v).cpl = s.cpl := rfl
@[simp] theorem setMem8_gdtr (s : State) (a : PhysAddr) (v : Byte) : (s.setMem8 a v).gdtr = s.gdtr := rfl
@[simp] theorem setMem8_idtr (s : State) (a : PhysAddr) (v : Byte) : (s.setMem8 a v).idtr = s.idtr := rfl
@[simp] theorem setMem8_ldtr (s : State) (a : PhysAddr) (v : Byte) : (s.setMem8 a v).ldtr = s.ldtr := rfl
@[simp] theorem setMem8_tr (s : State) (a : PhysAddr) (v : Byte) : (s.setMem8 a v).tr = s.tr := rfl
@[simp] theorem setMem8_msw (s : State) (a : PhysAddr) (v : Byte) : (s.setMem8 a v).msw = s.msw := rfl
@[simp] theorem setMem8_npx (s : State) (a : PhysAddr) (v : Byte) : (s.setMem8 a v).npx = s.npx := rfl
@[simp] theorem setMem8_npxPresent (s : State) (a : PhysAddr) (v : Byte) : (s.setMem8 a v).npxPresent = s.npxPresent := rfl
@[simp] theorem setMem8_io (s : State) (a : PhysAddr) (v : Byte) : (s.setMem8 a v).io = s.byteCycle a v ++ s.io := rfl
@[simp] theorem setMem8_inhibit (s : State) (a : PhysAddr) (v : Byte) : (s.setMem8 a v).inhibit = s.inhibit := rfl
@[simp] theorem setMem8_stiShadow (s : State) (a : PhysAddr) (v : Byte) : (s.setMem8 a v).stiShadow = s.stiShadow := rfl
@[simp] theorem setMem8_nmiMask (s : State) (a : PhysAddr) (v : Byte) : (s.setMem8 a v).nmiMask = s.nmiMask := rfl
@[simp] theorem setMem8_nmiPending (s : State) (a : PhysAddr) (v : Byte) : (s.setMem8 a v).nmiPending = s.nmiPending := rfl
@[simp] theorem setMem8_mpPending (s : State) (a : PhysAddr) (v : Byte) : (s.setMem8 a v).mpPending = s.mpPending := rfl
@[simp] theorem setMem8_stepPending (s : State) (a : PhysAddr) (v : Byte) : (s.setMem8 a v).stepPending = s.stepPending := rfl
@[simp] theorem setMem8_run (s : State) (a : PhysAddr) (v : Byte) : (s.setMem8 a v).run = s.run := rfl
@[simp] theorem setMem8_lines (s : State) (a : PhysAddr) (v : Byte) : (s.setMem8 a v).lines = s.lines := rfl
@[simp] theorem setMem8_curIP (s : State) (a : PhysAddr) (v : Byte) : (s.setMem8 a v).curIP = s.curIP := rfl
@[simp] theorem setMem8_pfx (s : State) (a : PhysAddr) (v : Byte) : (s.setMem8 a v).pfx = s.pfx := rfl
@[simp] theorem setMem8_undef (s : State) (a : PhysAddr) (v : Byte) : (s.setMem8 a v).undef = s.undef := rfl
@[simp] theorem setMem8_memMap (s : State) (a : PhysAddr) (v : Byte) : (s.setMem8 a v).memMap = s.memMap := rfl
@[simp] theorem setMem8_repeating (s : State) (a : PhysAddr) (v : Byte) : (s.setMem8 a v).repeating = s.repeating := rfl
@[simp] theorem setMem8_boundaryDone (s : State) (a : PhysAddr) (v : Byte) : (s.setMem8 a v).boundaryDone = s.boundaryDone := rfl
@[simp] theorem setMem8_clock (s : State) (a : PhysAddr) (v : Byte) : (s.setMem8 a v).clock = s.clock := rfl
@[simp] theorem setMem8_bus (s : State) (a : PhysAddr) (v : Byte) : (s.setMem8 a v).bus = s.storeCycle8 a v :: s.bus := rfl

/-! ### setMem16 -/

@[simp] theorem setMem16_gpr (s : State) (a : PhysAddr) (v : Word) : (s.setMem16 a v).gpr = s.gpr := rfl
@[simp] theorem setMem16_flags (s : State) (a : PhysAddr) (v : Word) : (s.setMem16 a v).flags = s.flags := rfl
@[simp] theorem setMem16_ip (s : State) (a : PhysAddr) (v : Word) : (s.setMem16 a v).ip = s.ip := rfl
@[simp] theorem setMem16_ipPast (s : State) (a : PhysAddr) (v : Word) : (s.setMem16 a v).ipPast = s.ipPast := rfl
@[simp] theorem setMem16_cs (s : State) (a : PhysAddr) (v : Word) : (s.setMem16 a v).cs = s.cs := rfl
@[simp] theorem setMem16_ss (s : State) (a : PhysAddr) (v : Word) : (s.setMem16 a v).ss = s.ss := rfl
@[simp] theorem setMem16_ds (s : State) (a : PhysAddr) (v : Word) : (s.setMem16 a v).ds = s.ds := rfl
@[simp] theorem setMem16_es (s : State) (a : PhysAddr) (v : Word) : (s.setMem16 a v).es = s.es := rfl
@[simp] theorem setMem16_cpl (s : State) (a : PhysAddr) (v : Word) : (s.setMem16 a v).cpl = s.cpl := rfl
@[simp] theorem setMem16_gdtr (s : State) (a : PhysAddr) (v : Word) : (s.setMem16 a v).gdtr = s.gdtr := rfl
@[simp] theorem setMem16_idtr (s : State) (a : PhysAddr) (v : Word) : (s.setMem16 a v).idtr = s.idtr := rfl
@[simp] theorem setMem16_ldtr (s : State) (a : PhysAddr) (v : Word) : (s.setMem16 a v).ldtr = s.ldtr := rfl
@[simp] theorem setMem16_tr (s : State) (a : PhysAddr) (v : Word) : (s.setMem16 a v).tr = s.tr := rfl
@[simp] theorem setMem16_msw (s : State) (a : PhysAddr) (v : Word) : (s.setMem16 a v).msw = s.msw := rfl
@[simp] theorem setMem16_npx (s : State) (a : PhysAddr) (v : Word) : (s.setMem16 a v).npx = s.npx := rfl
@[simp] theorem setMem16_npxPresent (s : State) (a : PhysAddr) (v : Word) : (s.setMem16 a v).npxPresent = s.npxPresent := rfl
@[simp] theorem setMem16_io (s : State) (a : PhysAddr) (v : Word) : (s.setMem16 a v).io = s.wordCycles a v ++ s.io := rfl
@[simp] theorem setMem16_inhibit (s : State) (a : PhysAddr) (v : Word) : (s.setMem16 a v).inhibit = s.inhibit := rfl
@[simp] theorem setMem16_stiShadow (s : State) (a : PhysAddr) (v : Word) : (s.setMem16 a v).stiShadow = s.stiShadow := rfl
@[simp] theorem setMem16_nmiMask (s : State) (a : PhysAddr) (v : Word) : (s.setMem16 a v).nmiMask = s.nmiMask := rfl
@[simp] theorem setMem16_nmiPending (s : State) (a : PhysAddr) (v : Word) : (s.setMem16 a v).nmiPending = s.nmiPending := rfl
@[simp] theorem setMem16_mpPending (s : State) (a : PhysAddr) (v : Word) : (s.setMem16 a v).mpPending = s.mpPending := rfl
@[simp] theorem setMem16_stepPending (s : State) (a : PhysAddr) (v : Word) : (s.setMem16 a v).stepPending = s.stepPending := rfl
@[simp] theorem setMem16_run (s : State) (a : PhysAddr) (v : Word) : (s.setMem16 a v).run = s.run := rfl
@[simp] theorem setMem16_lines (s : State) (a : PhysAddr) (v : Word) : (s.setMem16 a v).lines = s.lines := rfl
@[simp] theorem setMem16_curIP (s : State) (a : PhysAddr) (v : Word) : (s.setMem16 a v).curIP = s.curIP := rfl
@[simp] theorem setMem16_pfx (s : State) (a : PhysAddr) (v : Word) : (s.setMem16 a v).pfx = s.pfx := rfl
@[simp] theorem setMem16_undef (s : State) (a : PhysAddr) (v : Word) : (s.setMem16 a v).undef = s.undef := rfl
@[simp] theorem setMem16_memMap (s : State) (a : PhysAddr) (v : Word) : (s.setMem16 a v).memMap = s.memMap := rfl
@[simp] theorem setMem16_repeating (s : State) (a : PhysAddr) (v : Word) : (s.setMem16 a v).repeating = s.repeating := rfl
@[simp] theorem setMem16_boundaryDone (s : State) (a : PhysAddr) (v : Word) : (s.setMem16 a v).boundaryDone = s.boundaryDone := rfl
@[simp] theorem setMem16_clock (s : State) (a : PhysAddr) (v : Word) : (s.setMem16 a v).clock = s.clock := rfl
@[simp] theorem setMem16_bus (s : State) (a : PhysAddr) (v : Word) : (s.setMem16 a v).bus = s.storeCycles16 a v ++ s.bus := rfl

/-! ### after8 -/

@[simp] theorem after8_gpr (s : State) (a : PhysAddr) : (s.after8 a).gpr = s.gpr := rfl
@[simp] theorem after8_flags (s : State) (a : PhysAddr) : (s.after8 a).flags = s.flags := rfl
@[simp] theorem after8_ip (s : State) (a : PhysAddr) : (s.after8 a).ip = s.ip := rfl
@[simp] theorem after8_ipPast (s : State) (a : PhysAddr) : (s.after8 a).ipPast = s.ipPast := rfl
@[simp] theorem after8_cs (s : State) (a : PhysAddr) : (s.after8 a).cs = s.cs := rfl
@[simp] theorem after8_ss (s : State) (a : PhysAddr) : (s.after8 a).ss = s.ss := rfl
@[simp] theorem after8_ds (s : State) (a : PhysAddr) : (s.after8 a).ds = s.ds := rfl
@[simp] theorem after8_es (s : State) (a : PhysAddr) : (s.after8 a).es = s.es := rfl
@[simp] theorem after8_cpl (s : State) (a : PhysAddr) : (s.after8 a).cpl = s.cpl := rfl
@[simp] theorem after8_gdtr (s : State) (a : PhysAddr) : (s.after8 a).gdtr = s.gdtr := rfl
@[simp] theorem after8_idtr (s : State) (a : PhysAddr) : (s.after8 a).idtr = s.idtr := rfl
@[simp] theorem after8_ldtr (s : State) (a : PhysAddr) : (s.after8 a).ldtr = s.ldtr := rfl
@[simp] theorem after8_tr (s : State) (a : PhysAddr) : (s.after8 a).tr = s.tr := rfl
@[simp] theorem after8_msw (s : State) (a : PhysAddr) : (s.after8 a).msw = s.msw := rfl
@[simp] theorem after8_npx (s : State) (a : PhysAddr) : (s.after8 a).npx = s.npx := rfl
@[simp] theorem after8_npxPresent (s : State) (a : PhysAddr) : (s.after8 a).npxPresent = s.npxPresent := rfl
@[simp] theorem after8_inhibit (s : State) (a : PhysAddr) : (s.after8 a).inhibit = s.inhibit := rfl
@[simp] theorem after8_stiShadow (s : State) (a : PhysAddr) : (s.after8 a).stiShadow = s.stiShadow := rfl
@[simp] theorem after8_nmiMask (s : State) (a : PhysAddr) : (s.after8 a).nmiMask = s.nmiMask := rfl
@[simp] theorem after8_nmiPending (s : State) (a : PhysAddr) : (s.after8 a).nmiPending = s.nmiPending := rfl
@[simp] theorem after8_mpPending (s : State) (a : PhysAddr) : (s.after8 a).mpPending = s.mpPending := rfl
@[simp] theorem after8_stepPending (s : State) (a : PhysAddr) : (s.after8 a).stepPending = s.stepPending := rfl
@[simp] theorem after8_run (s : State) (a : PhysAddr) : (s.after8 a).run = s.run := rfl
@[simp] theorem after8_lines (s : State) (a : PhysAddr) : (s.after8 a).lines = s.lines := rfl
@[simp] theorem after8_curIP (s : State) (a : PhysAddr) : (s.after8 a).curIP = s.curIP := rfl
@[simp] theorem after8_pfx (s : State) (a : PhysAddr) : (s.after8 a).pfx = s.pfx := rfl
@[simp] theorem after8_undef (s : State) (a : PhysAddr) : (s.after8 a).undef = s.undef := rfl
@[simp] theorem after8_memMap (s : State) (a : PhysAddr) : (s.after8 a).memMap = s.memMap := rfl
@[simp] theorem after8_repeating (s : State) (a : PhysAddr) : (s.after8 a).repeating = s.repeating := rfl
@[simp] theorem after8_boundaryDone (s : State) (a : PhysAddr) : (s.after8 a).boundaryDone = s.boundaryDone := rfl
@[simp] theorem after8_clock (s : State) (a : PhysAddr) : (s.after8 a).clock = s.clock := rfl
@[simp] theorem after8_bus (s : State) (a : PhysAddr) : (s.after8 a).bus = seen (s.byteRead a) ++ s.bus := rfl
@[simp] theorem after8_stale (s : State) (a : PhysAddr) : (s.after8 a).stale = s.stale := rfl
@[simp] theorem after8_mem (s : State) (a : PhysAddr) : (s.after8 a).mem = s.mem := rfl
@[simp] theorem after8_io (s : State) (a : PhysAddr) : (s.after8 a).io = s.byteRead a ++ s.io := rfl

/-! ### after16 -/

@[simp] theorem after16_gpr (s : State) (a : PhysAddr) : (s.after16 a).gpr = s.gpr := rfl
@[simp] theorem after16_flags (s : State) (a : PhysAddr) : (s.after16 a).flags = s.flags := rfl
@[simp] theorem after16_ip (s : State) (a : PhysAddr) : (s.after16 a).ip = s.ip := rfl
@[simp] theorem after16_ipPast (s : State) (a : PhysAddr) : (s.after16 a).ipPast = s.ipPast := rfl
@[simp] theorem after16_cs (s : State) (a : PhysAddr) : (s.after16 a).cs = s.cs := rfl
@[simp] theorem after16_ss (s : State) (a : PhysAddr) : (s.after16 a).ss = s.ss := rfl
@[simp] theorem after16_ds (s : State) (a : PhysAddr) : (s.after16 a).ds = s.ds := rfl
@[simp] theorem after16_es (s : State) (a : PhysAddr) : (s.after16 a).es = s.es := rfl
@[simp] theorem after16_cpl (s : State) (a : PhysAddr) : (s.after16 a).cpl = s.cpl := rfl
@[simp] theorem after16_gdtr (s : State) (a : PhysAddr) : (s.after16 a).gdtr = s.gdtr := rfl
@[simp] theorem after16_idtr (s : State) (a : PhysAddr) : (s.after16 a).idtr = s.idtr := rfl
@[simp] theorem after16_ldtr (s : State) (a : PhysAddr) : (s.after16 a).ldtr = s.ldtr := rfl
@[simp] theorem after16_tr (s : State) (a : PhysAddr) : (s.after16 a).tr = s.tr := rfl
@[simp] theorem after16_msw (s : State) (a : PhysAddr) : (s.after16 a).msw = s.msw := rfl
@[simp] theorem after16_npx (s : State) (a : PhysAddr) : (s.after16 a).npx = s.npx := rfl
@[simp] theorem after16_npxPresent (s : State) (a : PhysAddr) : (s.after16 a).npxPresent = s.npxPresent := rfl
@[simp] theorem after16_inhibit (s : State) (a : PhysAddr) : (s.after16 a).inhibit = s.inhibit := rfl
@[simp] theorem after16_stiShadow (s : State) (a : PhysAddr) : (s.after16 a).stiShadow = s.stiShadow := rfl
@[simp] theorem after16_nmiMask (s : State) (a : PhysAddr) : (s.after16 a).nmiMask = s.nmiMask := rfl
@[simp] theorem after16_nmiPending (s : State) (a : PhysAddr) : (s.after16 a).nmiPending = s.nmiPending := rfl
@[simp] theorem after16_mpPending (s : State) (a : PhysAddr) : (s.after16 a).mpPending = s.mpPending := rfl
@[simp] theorem after16_stepPending (s : State) (a : PhysAddr) : (s.after16 a).stepPending = s.stepPending := rfl
@[simp] theorem after16_run (s : State) (a : PhysAddr) : (s.after16 a).run = s.run := rfl
@[simp] theorem after16_lines (s : State) (a : PhysAddr) : (s.after16 a).lines = s.lines := rfl
@[simp] theorem after16_curIP (s : State) (a : PhysAddr) : (s.after16 a).curIP = s.curIP := rfl
@[simp] theorem after16_pfx (s : State) (a : PhysAddr) : (s.after16 a).pfx = s.pfx := rfl
@[simp] theorem after16_undef (s : State) (a : PhysAddr) : (s.after16 a).undef = s.undef := rfl
@[simp] theorem after16_memMap (s : State) (a : PhysAddr) : (s.after16 a).memMap = s.memMap := rfl
@[simp] theorem after16_repeating (s : State) (a : PhysAddr) : (s.after16 a).repeating = s.repeating := rfl
@[simp] theorem after16_boundaryDone (s : State) (a : PhysAddr) : (s.after16 a).boundaryDone = s.boundaryDone := rfl
@[simp] theorem after16_clock (s : State) (a : PhysAddr) : (s.after16 a).clock = s.clock := rfl
@[simp] theorem after16_bus (s : State) (a : PhysAddr) : (s.after16 a).bus = seen (s.wordRead a) ++ s.bus := rfl
@[simp] theorem after16_stale (s : State) (a : PhysAddr) : (s.after16 a).stale = s.stale := rfl
@[simp] theorem after16_mem (s : State) (a : PhysAddr) : (s.after16 a).mem = s.mem := rfl
@[simp] theorem after16_io (s : State) (a : PhysAddr) : (s.after16 a).io = s.wordRead a ++ s.io := rfl

/-! ### afterWords -/

@[simp] theorem afterWords_gpr (s : State) (as : List PhysAddr) : (s.afterWords as).gpr = s.gpr := rfl
@[simp] theorem afterWords_flags (s : State) (as : List PhysAddr) : (s.afterWords as).flags = s.flags := rfl
@[simp] theorem afterWords_ip (s : State) (as : List PhysAddr) : (s.afterWords as).ip = s.ip := rfl
@[simp] theorem afterWords_ipPast (s : State) (as : List PhysAddr) : (s.afterWords as).ipPast = s.ipPast := rfl
@[simp] theorem afterWords_cs (s : State) (as : List PhysAddr) : (s.afterWords as).cs = s.cs := rfl
@[simp] theorem afterWords_ss (s : State) (as : List PhysAddr) : (s.afterWords as).ss = s.ss := rfl
@[simp] theorem afterWords_ds (s : State) (as : List PhysAddr) : (s.afterWords as).ds = s.ds := rfl
@[simp] theorem afterWords_es (s : State) (as : List PhysAddr) : (s.afterWords as).es = s.es := rfl
@[simp] theorem afterWords_cpl (s : State) (as : List PhysAddr) : (s.afterWords as).cpl = s.cpl := rfl
@[simp] theorem afterWords_gdtr (s : State) (as : List PhysAddr) : (s.afterWords as).gdtr = s.gdtr := rfl
@[simp] theorem afterWords_idtr (s : State) (as : List PhysAddr) : (s.afterWords as).idtr = s.idtr := rfl
@[simp] theorem afterWords_ldtr (s : State) (as : List PhysAddr) : (s.afterWords as).ldtr = s.ldtr := rfl
@[simp] theorem afterWords_tr (s : State) (as : List PhysAddr) : (s.afterWords as).tr = s.tr := rfl
@[simp] theorem afterWords_msw (s : State) (as : List PhysAddr) : (s.afterWords as).msw = s.msw := rfl
@[simp] theorem afterWords_npx (s : State) (as : List PhysAddr) : (s.afterWords as).npx = s.npx := rfl
@[simp] theorem afterWords_npxPresent (s : State) (as : List PhysAddr) : (s.afterWords as).npxPresent = s.npxPresent := rfl
@[simp] theorem afterWords_inhibit (s : State) (as : List PhysAddr) : (s.afterWords as).inhibit = s.inhibit := rfl
@[simp] theorem afterWords_stiShadow (s : State) (as : List PhysAddr) : (s.afterWords as).stiShadow = s.stiShadow := rfl
@[simp] theorem afterWords_nmiMask (s : State) (as : List PhysAddr) : (s.afterWords as).nmiMask = s.nmiMask := rfl
@[simp] theorem afterWords_nmiPending (s : State) (as : List PhysAddr) : (s.afterWords as).nmiPending = s.nmiPending := rfl
@[simp] theorem afterWords_mpPending (s : State) (as : List PhysAddr) : (s.afterWords as).mpPending = s.mpPending := rfl
@[simp] theorem afterWords_stepPending (s : State) (as : List PhysAddr) : (s.afterWords as).stepPending = s.stepPending := rfl
@[simp] theorem afterWords_run (s : State) (as : List PhysAddr) : (s.afterWords as).run = s.run := rfl
@[simp] theorem afterWords_lines (s : State) (as : List PhysAddr) : (s.afterWords as).lines = s.lines := rfl
@[simp] theorem afterWords_curIP (s : State) (as : List PhysAddr) : (s.afterWords as).curIP = s.curIP := rfl
@[simp] theorem afterWords_pfx (s : State) (as : List PhysAddr) : (s.afterWords as).pfx = s.pfx := rfl
@[simp] theorem afterWords_undef (s : State) (as : List PhysAddr) : (s.afterWords as).undef = s.undef := rfl
@[simp] theorem afterWords_memMap (s : State) (as : List PhysAddr) : (s.afterWords as).memMap = s.memMap := rfl
@[simp] theorem afterWords_repeating (s : State) (as : List PhysAddr) : (s.afterWords as).repeating = s.repeating := rfl
@[simp] theorem afterWords_boundaryDone (s : State) (as : List PhysAddr) : (s.afterWords as).boundaryDone = s.boundaryDone := rfl
@[simp] theorem afterWords_clock (s : State) (as : List PhysAddr) : (s.afterWords as).clock = s.clock := rfl
@[simp] theorem afterWords_bus (s : State) (as : List PhysAddr) : (s.afterWords as).bus = as.foldl (fun h a => seen (s.wordRead a) ++ h) s.bus := rfl
@[simp] theorem afterWords_stale (s : State) (as : List PhysAddr) : (s.afterWords as).stale = s.stale := rfl
@[simp] theorem afterWords_mem (s : State) (as : List PhysAddr) : (s.afterWords as).mem = s.mem := rfl
@[simp] theorem afterWords_io (s : State) (as : List PhysAddr) : (s.afterWords as).io = as.foldl (fun h a => s.wordRead a ++ h) s.io := rfl

/-! ### port -/

@[simp] theorem port_gpr (s : State) (e : IoEvent) : (s.port e).gpr = s.gpr := rfl
@[simp] theorem port_flags (s : State) (e : IoEvent) : (s.port e).flags = s.flags := rfl
@[simp] theorem port_ip (s : State) (e : IoEvent) : (s.port e).ip = s.ip := rfl
@[simp] theorem port_ipPast (s : State) (e : IoEvent) : (s.port e).ipPast = s.ipPast := rfl
@[simp] theorem port_cs (s : State) (e : IoEvent) : (s.port e).cs = s.cs := rfl
@[simp] theorem port_ss (s : State) (e : IoEvent) : (s.port e).ss = s.ss := rfl
@[simp] theorem port_ds (s : State) (e : IoEvent) : (s.port e).ds = s.ds := rfl
@[simp] theorem port_es (s : State) (e : IoEvent) : (s.port e).es = s.es := rfl
@[simp] theorem port_cpl (s : State) (e : IoEvent) : (s.port e).cpl = s.cpl := rfl
@[simp] theorem port_gdtr (s : State) (e : IoEvent) : (s.port e).gdtr = s.gdtr := rfl
@[simp] theorem port_idtr (s : State) (e : IoEvent) : (s.port e).idtr = s.idtr := rfl
@[simp] theorem port_ldtr (s : State) (e : IoEvent) : (s.port e).ldtr = s.ldtr := rfl
@[simp] theorem port_tr (s : State) (e : IoEvent) : (s.port e).tr = s.tr := rfl
@[simp] theorem port_msw (s : State) (e : IoEvent) : (s.port e).msw = s.msw := rfl
@[simp] theorem port_npx (s : State) (e : IoEvent) : (s.port e).npx = s.npx := rfl
@[simp] theorem port_npxPresent (s : State) (e : IoEvent) : (s.port e).npxPresent = s.npxPresent := rfl
@[simp] theorem port_mem (s : State) (e : IoEvent) : (s.port e).mem = s.mem := rfl
@[simp] theorem port_io (s : State) (e : IoEvent) : (s.port e).io = e :: s.io := rfl
@[simp] theorem port_inhibit (s : State) (e : IoEvent) : (s.port e).inhibit = s.inhibit := rfl
@[simp] theorem port_stiShadow (s : State) (e : IoEvent) : (s.port e).stiShadow = s.stiShadow := rfl
@[simp] theorem port_nmiMask (s : State) (e : IoEvent) : (s.port e).nmiMask = s.nmiMask := rfl
@[simp] theorem port_nmiPending (s : State) (e : IoEvent) : (s.port e).nmiPending = s.nmiPending := rfl
@[simp] theorem port_mpPending (s : State) (e : IoEvent) : (s.port e).mpPending = s.mpPending := rfl
@[simp] theorem port_stepPending (s : State) (e : IoEvent) : (s.port e).stepPending = s.stepPending := rfl
@[simp] theorem port_run (s : State) (e : IoEvent) : (s.port e).run = s.run := rfl
@[simp] theorem port_lines (s : State) (e : IoEvent) : (s.port e).lines = s.lines := rfl
@[simp] theorem port_curIP (s : State) (e : IoEvent) : (s.port e).curIP = s.curIP := rfl
@[simp] theorem port_pfx (s : State) (e : IoEvent) : (s.port e).pfx = s.pfx := rfl
@[simp] theorem port_stale (s : State) (e : IoEvent) : (s.port e).stale = s.stale := rfl
@[simp] theorem port_undef (s : State) (e : IoEvent) : (s.port e).undef = s.undef := rfl
@[simp] theorem port_memMap (s : State) (e : IoEvent) : (s.port e).memMap = s.memMap := rfl
@[simp] theorem port_repeating (s : State) (e : IoEvent) : (s.port e).repeating = s.repeating := rfl
@[simp] theorem port_boundaryDone (s : State) (e : IoEvent) : (s.port e).boundaryDone = s.boundaryDone := rfl
@[simp] theorem port_clock (s : State) (e : IoEvent) : (s.port e).clock = s.clock := rfl
@[simp] theorem port_bus (s : State) (e : IoEvent) : (s.port e).bus = ⟨[], some e⟩ :: s.bus := rfl

/-! ### jump -/

@[simp] theorem jump_gpr (s : State) (t : Word) : (s.jump t).gpr = s.gpr := rfl
@[simp] theorem jump_flags (s : State) (t : Word) : (s.jump t).flags = s.flags := rfl
@[simp] theorem jump_cs (s : State) (t : Word) : (s.jump t).cs = s.cs := rfl
@[simp] theorem jump_ss (s : State) (t : Word) : (s.jump t).ss = s.ss := rfl
@[simp] theorem jump_ds (s : State) (t : Word) : (s.jump t).ds = s.ds := rfl
@[simp] theorem jump_es (s : State) (t : Word) : (s.jump t).es = s.es := rfl
@[simp] theorem jump_cpl (s : State) (t : Word) : (s.jump t).cpl = s.cpl := rfl
@[simp] theorem jump_gdtr (s : State) (t : Word) : (s.jump t).gdtr = s.gdtr := rfl
@[simp] theorem jump_idtr (s : State) (t : Word) : (s.jump t).idtr = s.idtr := rfl
@[simp] theorem jump_ldtr (s : State) (t : Word) : (s.jump t).ldtr = s.ldtr := rfl
@[simp] theorem jump_tr (s : State) (t : Word) : (s.jump t).tr = s.tr := rfl
@[simp] theorem jump_msw (s : State) (t : Word) : (s.jump t).msw = s.msw := rfl
@[simp] theorem jump_npx (s : State) (t : Word) : (s.jump t).npx = s.npx := rfl
@[simp] theorem jump_npxPresent (s : State) (t : Word) : (s.jump t).npxPresent = s.npxPresent := rfl
@[simp] theorem jump_mem (s : State) (t : Word) : (s.jump t).mem = s.mem := rfl
@[simp] theorem jump_io (s : State) (t : Word) : (s.jump t).io = s.io := rfl
@[simp] theorem jump_inhibit (s : State) (t : Word) : (s.jump t).inhibit = s.inhibit := rfl
@[simp] theorem jump_stiShadow (s : State) (t : Word) : (s.jump t).stiShadow = s.stiShadow := rfl
@[simp] theorem jump_nmiMask (s : State) (t : Word) : (s.jump t).nmiMask = s.nmiMask := rfl
@[simp] theorem jump_nmiPending (s : State) (t : Word) : (s.jump t).nmiPending = s.nmiPending := rfl
@[simp] theorem jump_mpPending (s : State) (t : Word) : (s.jump t).mpPending = s.mpPending := rfl
@[simp] theorem jump_stepPending (s : State) (t : Word) : (s.jump t).stepPending = s.stepPending := rfl
@[simp] theorem jump_run (s : State) (t : Word) : (s.jump t).run = s.run := rfl
@[simp] theorem jump_lines (s : State) (t : Word) : (s.jump t).lines = s.lines := rfl
@[simp] theorem jump_curIP (s : State) (t : Word) : (s.jump t).curIP = s.curIP := rfl
@[simp] theorem jump_pfx (s : State) (t : Word) : (s.jump t).pfx = s.pfx := rfl
@[simp] theorem jump_undef (s : State) (t : Word) : (s.jump t).undef = s.undef := rfl
@[simp] theorem jump_memMap (s : State) (t : Word) : (s.jump t).memMap = s.memMap := rfl
@[simp] theorem jump_repeating (s : State) (t : Word) : (s.jump t).repeating = s.repeating := rfl
@[simp] theorem jump_boundaryDone (s : State) (t : Word) : (s.jump t).boundaryDone = s.boundaryDone := rfl
@[simp] theorem jump_clock (s : State) (t : Word) : (s.jump t).clock = s.clock := rfl
@[simp] theorem jump_bus (s : State) (t : Word) : (s.jump t).bus = s.bus := rfl

/-! ### setSeg -/

@[simp] theorem setSeg_gpr (s : State) (r : SegReg) (c : SegCache) : (s.setSeg r c).gpr = s.gpr := by cases r <;> rfl
@[simp] theorem setSeg_flags (s : State) (r : SegReg) (c : SegCache) : (s.setSeg r c).flags = s.flags := by cases r <;> rfl
@[simp] theorem setSeg_ip (s : State) (r : SegReg) (c : SegCache) : (s.setSeg r c).ip = s.ip := by cases r <;> rfl
@[simp] theorem setSeg_ipPast (s : State) (r : SegReg) (c : SegCache) : (s.setSeg r c).ipPast = s.ipPast := by cases r <;> rfl
@[simp] theorem setSeg_cpl (s : State) (r : SegReg) (c : SegCache) : (s.setSeg r c).cpl = s.cpl := by cases r <;> rfl
@[simp] theorem setSeg_gdtr (s : State) (r : SegReg) (c : SegCache) : (s.setSeg r c).gdtr = s.gdtr := by cases r <;> rfl
@[simp] theorem setSeg_idtr (s : State) (r : SegReg) (c : SegCache) : (s.setSeg r c).idtr = s.idtr := by cases r <;> rfl
@[simp] theorem setSeg_ldtr (s : State) (r : SegReg) (c : SegCache) : (s.setSeg r c).ldtr = s.ldtr := by cases r <;> rfl
@[simp] theorem setSeg_tr (s : State) (r : SegReg) (c : SegCache) : (s.setSeg r c).tr = s.tr := by cases r <;> rfl
@[simp] theorem setSeg_msw (s : State) (r : SegReg) (c : SegCache) : (s.setSeg r c).msw = s.msw := by cases r <;> rfl
@[simp] theorem setSeg_npx (s : State) (r : SegReg) (c : SegCache) : (s.setSeg r c).npx = s.npx := by cases r <;> rfl
@[simp] theorem setSeg_npxPresent (s : State) (r : SegReg) (c : SegCache) : (s.setSeg r c).npxPresent = s.npxPresent := by cases r <;> rfl
@[simp] theorem setSeg_mem (s : State) (r : SegReg) (c : SegCache) : (s.setSeg r c).mem = s.mem := by cases r <;> rfl
@[simp] theorem setSeg_io (s : State) (r : SegReg) (c : SegCache) : (s.setSeg r c).io = s.io := by cases r <;> rfl
@[simp] theorem setSeg_inhibit (s : State) (r : SegReg) (c : SegCache) : (s.setSeg r c).inhibit = s.inhibit := by cases r <;> rfl
@[simp] theorem setSeg_stiShadow (s : State) (r : SegReg) (c : SegCache) : (s.setSeg r c).stiShadow = s.stiShadow := by cases r <;> rfl
@[simp] theorem setSeg_nmiMask (s : State) (r : SegReg) (c : SegCache) : (s.setSeg r c).nmiMask = s.nmiMask := by cases r <;> rfl
@[simp] theorem setSeg_nmiPending (s : State) (r : SegReg) (c : SegCache) : (s.setSeg r c).nmiPending = s.nmiPending := by cases r <;> rfl
@[simp] theorem setSeg_mpPending (s : State) (r : SegReg) (c : SegCache) : (s.setSeg r c).mpPending = s.mpPending := by cases r <;> rfl
@[simp] theorem setSeg_stepPending (s : State) (r : SegReg) (c : SegCache) : (s.setSeg r c).stepPending = s.stepPending := by cases r <;> rfl
@[simp] theorem setSeg_run (s : State) (r : SegReg) (c : SegCache) : (s.setSeg r c).run = s.run := by cases r <;> rfl
@[simp] theorem setSeg_lines (s : State) (r : SegReg) (c : SegCache) : (s.setSeg r c).lines = s.lines := by cases r <;> rfl
@[simp] theorem setSeg_curIP (s : State) (r : SegReg) (c : SegCache) : (s.setSeg r c).curIP = s.curIP := by cases r <;> rfl
@[simp] theorem setSeg_pfx (s : State) (r : SegReg) (c : SegCache) : (s.setSeg r c).pfx = s.pfx := by cases r <;> rfl
@[simp] theorem setSeg_stale (s : State) (r : SegReg) (c : SegCache) : (s.setSeg r c).stale = s.stale := by cases r <;> rfl
@[simp] theorem setSeg_undef (s : State) (r : SegReg) (c : SegCache) : (s.setSeg r c).undef = s.undef := by cases r <;> rfl
@[simp] theorem setSeg_memMap (s : State) (r : SegReg) (c : SegCache) : (s.setSeg r c).memMap = s.memMap := by cases r <;> rfl
@[simp] theorem setSeg_repeating (s : State) (r : SegReg) (c : SegCache) : (s.setSeg r c).repeating = s.repeating := by cases r <;> rfl
@[simp] theorem setSeg_boundaryDone (s : State) (r : SegReg) (c : SegCache) : (s.setSeg r c).boundaryDone = s.boundaryDone := by cases r <;> rfl
@[simp] theorem setSeg_clock (s : State) (r : SegReg) (c : SegCache) : (s.setSeg r c).clock = s.clock := by cases r <;> rfl
@[simp] theorem setSeg_bus (s : State) (r : SegReg) (c : SegCache) : (s.setSeg r c).bus = s.bus := by cases r <;> rfl

/-! ### setResultFlags -/

@[simp] theorem setResultFlags_gpr {n : Nat} (s : State) (r : BitVec n) : (s.setResultFlags r).gpr = s.gpr := rfl
@[simp] theorem setResultFlags_ip {n : Nat} (s : State) (r : BitVec n) : (s.setResultFlags r).ip = s.ip := rfl
@[simp] theorem setResultFlags_ipPast {n : Nat} (s : State) (r : BitVec n) : (s.setResultFlags r).ipPast = s.ipPast := rfl
@[simp] theorem setResultFlags_cs {n : Nat} (s : State) (r : BitVec n) : (s.setResultFlags r).cs = s.cs := rfl
@[simp] theorem setResultFlags_ss {n : Nat} (s : State) (r : BitVec n) : (s.setResultFlags r).ss = s.ss := rfl
@[simp] theorem setResultFlags_ds {n : Nat} (s : State) (r : BitVec n) : (s.setResultFlags r).ds = s.ds := rfl
@[simp] theorem setResultFlags_es {n : Nat} (s : State) (r : BitVec n) : (s.setResultFlags r).es = s.es := rfl
@[simp] theorem setResultFlags_cpl {n : Nat} (s : State) (r : BitVec n) : (s.setResultFlags r).cpl = s.cpl := rfl
@[simp] theorem setResultFlags_gdtr {n : Nat} (s : State) (r : BitVec n) : (s.setResultFlags r).gdtr = s.gdtr := rfl
@[simp] theorem setResultFlags_idtr {n : Nat} (s : State) (r : BitVec n) : (s.setResultFlags r).idtr = s.idtr := rfl
@[simp] theorem setResultFlags_ldtr {n : Nat} (s : State) (r : BitVec n) : (s.setResultFlags r).ldtr = s.ldtr := rfl
@[simp] theorem setResultFlags_tr {n : Nat} (s : State) (r : BitVec n) : (s.setResultFlags r).tr = s.tr := rfl
@[simp] theorem setResultFlags_msw {n : Nat} (s : State) (r : BitVec n) : (s.setResultFlags r).msw = s.msw := rfl
@[simp] theorem setResultFlags_npx {n : Nat} (s : State) (r : BitVec n) : (s.setResultFlags r).npx = s.npx := rfl
@[simp] theorem setResultFlags_npxPresent {n : Nat} (s : State) (r : BitVec n) : (s.setResultFlags r).npxPresent = s.npxPresent := rfl
@[simp] theorem setResultFlags_mem {n : Nat} (s : State) (r : BitVec n) : (s.setResultFlags r).mem = s.mem := rfl
@[simp] theorem setResultFlags_io {n : Nat} (s : State) (r : BitVec n) : (s.setResultFlags r).io = s.io := rfl
@[simp] theorem setResultFlags_inhibit {n : Nat} (s : State) (r : BitVec n) : (s.setResultFlags r).inhibit = s.inhibit := rfl
@[simp] theorem setResultFlags_stiShadow {n : Nat} (s : State) (r : BitVec n) : (s.setResultFlags r).stiShadow = s.stiShadow := rfl
@[simp] theorem setResultFlags_nmiMask {n : Nat} (s : State) (r : BitVec n) : (s.setResultFlags r).nmiMask = s.nmiMask := rfl
@[simp] theorem setResultFlags_nmiPending {n : Nat} (s : State) (r : BitVec n) : (s.setResultFlags r).nmiPending = s.nmiPending := rfl
@[simp] theorem setResultFlags_mpPending {n : Nat} (s : State) (r : BitVec n) : (s.setResultFlags r).mpPending = s.mpPending := rfl
@[simp] theorem setResultFlags_stepPending {n : Nat} (s : State) (r : BitVec n) : (s.setResultFlags r).stepPending = s.stepPending := rfl
@[simp] theorem setResultFlags_run {n : Nat} (s : State) (r : BitVec n) : (s.setResultFlags r).run = s.run := rfl
@[simp] theorem setResultFlags_lines {n : Nat} (s : State) (r : BitVec n) : (s.setResultFlags r).lines = s.lines := rfl
@[simp] theorem setResultFlags_curIP {n : Nat} (s : State) (r : BitVec n) : (s.setResultFlags r).curIP = s.curIP := rfl
@[simp] theorem setResultFlags_pfx {n : Nat} (s : State) (r : BitVec n) : (s.setResultFlags r).pfx = s.pfx := rfl
@[simp] theorem setResultFlags_stale {n : Nat} (s : State) (r : BitVec n) : (s.setResultFlags r).stale = s.stale := rfl
@[simp] theorem setResultFlags_undef {n : Nat} (s : State) (r : BitVec n) : (s.setResultFlags r).undef = s.undef := rfl
@[simp] theorem setResultFlags_memMap {n : Nat} (s : State) (r : BitVec n) : (s.setResultFlags r).memMap = s.memMap := rfl
@[simp] theorem setResultFlags_repeating {n : Nat} (s : State) (r : BitVec n) : (s.setResultFlags r).repeating = s.repeating := rfl
@[simp] theorem setResultFlags_boundaryDone {n : Nat} (s : State) (r : BitVec n) : (s.setResultFlags r).boundaryDone = s.boundaryDone := rfl
@[simp] theorem setResultFlags_clock {n : Nat} (s : State) (r : BitVec n) : (s.setResultFlags r).clock = s.clock := rfl
@[simp] theorem setResultFlags_bus {n : Nat} (s : State) (r : BitVec n) : (s.setResultFlags r).bus = s.bus := rfl

/-! ### FLAGS and its image -/

/-- FLAGS read from its own image. -/
theorem FlagsReg.ofWord_word (r : FlagsReg) : FlagsReg.ofWord r.word = r := by
  obtain ⟨cf, pf, af, zf, sf, tf, if_, df, of, iopl, nt⟩ := r
  unfold FlagsReg.ofWord FlagsReg.word
  congr 1 <;> first
    | (simp only [BitVec.getLsbD_append]; simp; done)
    | (apply BitVec.eq_of_getLsbD_eq
       intro i hi
       simp only [BitVec.getLsbD_extractLsb', BitVec.getLsbD_append]
       interval_cases i <;> simp)

/-- The reserved bits of the image (10_state.md R27, D3). -/
theorem FlagsReg.word_reserved (r : FlagsReg) : r.word &&& 0x802A = 0x0002 := by
  apply BitVec.eq_of_getLsbD_eq
  intro i hi
  unfold FlagsReg.word
  rw [BitVec.getLsbD_and]
  simp only [BitVec.getLsbD_append]
  interval_cases i <;> simp

/-! ### What the updates set -/

@[simp] theorem setReg16_gpr (s : State) (r : Reg16) (v : Word) : (s.setReg16 r v).gpr = s.gpr.set r v := rfl
@[simp] theorem setFlag_flags (s : State) (f : Flag) (b : Bool) : (s.setFlag f b).flags = s.flags.set f b := rfl
@[simp] theorem FlagsReg.get_set (r : FlagsReg) (f g : Flag) (b : Bool) :
    (r.set f b).get g = if g = f then b else r.get g := by
  cases f <;> cases g <;> rfl
@[simp] theorem FlagsReg.set_iopl (r : FlagsReg) (f : Flag) (b : Bool) : (r.set f b).iopl = r.iopl := by cases f <;> rfl
@[simp] theorem setFlag_flag (s : State) (f g : Flag) (b : Bool) :
    (s.setFlag f b).flag g = if g = f then b else s.flag g := FlagsReg.get_set _ _ _ _
@[simp] theorem setFlag_iopl (s : State) (f : Flag) (b : Bool) : (s.setFlag f b).iopl = s.iopl := FlagsReg.set_iopl _ _ _
@[simp] theorem jump_ip (s : State) (t : Word) : (s.jump t).ip = t := rfl
@[simp] theorem jump_ipPast (s : State) (t : Word) : (s.jump t).ipPast = false := rfl
@[simp] theorem jump_stale (s : State) (t : Word) : (s.jump t).stale = [] := rfl
@[simp] theorem setMem8_mem (s : State) (a : PhysAddr) (v : Byte) :
    (s.setMem8 a v).mem = if s.kindAt a = .ram then Memory.write s.mem a.toNat v else s.mem := rfl

@[simp] theorem setReg16_reg16 (s : State) (r q : Reg16) (v : Word) :
    (s.setReg16 r v).reg16 q = if q = r then v else s.reg16 q := by
  cases r <;> cases q <;> rfl

@[simp] theorem setSeg_seg (s : State) (r q : SegReg) (c : SegCache) :
    (s.setSeg r c).seg q = if q = r then c else s.seg q := by
  cases r <;> cases q <;> rfl

@[simp] theorem setReg16_seg (s : State) (r : Reg16) (v : Word) (q : SegReg) : (s.setReg16 r v).seg q = s.seg q := by
  cases q <;> rfl

@[simp] theorem setReg8_seg (s : State) (r : Reg8) (v : Byte) (q : SegReg) : (s.setReg8 r v).seg q = s.seg q := by
  cases q <;> rfl

@[simp] theorem setFlag_seg (s : State) (f : Flag) (b : Bool) (q : SegReg) : (s.setFlag f b).seg q = s.seg q := by
  cases q <;> rfl

@[simp] theorem setMem8_seg (s : State) (a : PhysAddr) (v : Byte) (q : SegReg) : (s.setMem8 a v).seg q = s.seg q := by
  cases q <;> rfl

@[simp] theorem setMem16_seg (s : State) (a : PhysAddr) (v : Word) (q : SegReg) : (s.setMem16 a v).seg q = s.seg q := by
  cases q <;> rfl

@[simp] theorem setFlag_reg16 (s : State) (f : Flag) (b : Bool) (q : Reg16) : (s.setFlag f b).reg16 q = s.reg16 q := by
  cases q <;> rfl

@[simp] theorem setMem8_reg16 (s : State) (a : PhysAddr) (v : Byte) (q : Reg16) : (s.setMem8 a v).reg16 q = s.reg16 q := by
  cases q <;> rfl

@[simp] theorem setMem16_reg16 (s : State) (a : PhysAddr) (v : Word) (q : Reg16) :
    (s.setMem16 a v).reg16 q = s.reg16 q := by
  cases q <;> rfl

@[simp] theorem setSeg_reg16 (s : State) (r : SegReg) (c : SegCache) (q : Reg16) :
    (s.setSeg r c).reg16 q = s.reg16 q := by
  cases r <;> cases q <;> rfl

@[simp] theorem after8_seg (s : State) (a : PhysAddr) (q : SegReg) : (s.after8 a).seg q = s.seg q := by
  cases q <;> rfl

@[simp] theorem after8_reg16 (s : State) (a : PhysAddr) (q : Reg16) : (s.after8 a).reg16 q = s.reg16 q := by
  cases q <;> rfl

@[simp] theorem after16_seg (s : State) (a : PhysAddr) (q : SegReg) : (s.after16 a).seg q = s.seg q := by
  cases q <;> rfl

@[simp] theorem after16_reg16 (s : State) (a : PhysAddr) (q : Reg16) : (s.after16 a).reg16 q = s.reg16 q := by
  cases q <;> rfl

@[simp] theorem afterWords_seg (s : State) (as : List PhysAddr) (q : SegReg) : (s.afterWords as).seg q = s.seg q := by
  cases q <;> rfl

@[simp] theorem afterWords_reg16 (s : State) (as : List PhysAddr) (q : Reg16) : (s.afterWords as).reg16 q = s.reg16 q := by
  cases q <;> rfl

end Sys2Proof.Machine
end

