-- ==== Sys2Proof/Laws/Memory.lean ====
section
/-! SUPPORT. Memory: every write keeps the canonical form, and a read after a write. -/

namespace Sys2Proof.Machine

/-- Below the bound of a canonical memory every address is unlisted. -/
theorem Memory.read_below {m : Memory} {lo a : Nat} (h : Memory.wfFrom lo m = true) (ha : a < lo) :
    Memory.read m a = Memory.unlisted := by
  induction m generalizing lo with
  | nil => rfl
  | cons c rest ih =>
    obtain ⟨b, v⟩ := c
    simp only [Memory.wfFrom, Bool.and_eq_true, decide_eq_true_eq] at h
    have hne : a ≠ b := by omega
    simp only [Memory.read, hne, if_false]
    exact ih h.2 (by omega)

theorem Memory.wfFrom_mono {m : Memory} {lo lo' : Nat} (h : Memory.wfFrom lo m = true) (hl : lo' ≤ lo) :
    Memory.wfFrom lo' m = true := by
  cases m with
  | nil => rfl
  | cons c rest =>
    obtain ⟨b, v⟩ := c
    simp only [Memory.wfFrom, Bool.and_eq_true, decide_eq_true_eq] at h ⊢
    exact ⟨⟨⟨by omega, h.1.1.2⟩, h.1.2⟩, h.2⟩

/-- A write above the bound keeps the canonical form. -/
theorem Memory.write_wfFrom {m : Memory} {lo a : Nat} (v : Byte) (h : Memory.wfFrom lo m = true) (hlo : lo ≤ a)
    (ha : a < 2 ^ 24) : Memory.wfFrom lo (Memory.write m a v) = true := by
  induction m generalizing lo with
  | nil =>
    simp only [Memory.write]
    split
    · rfl
    · simp_all [Memory.wfFrom]
  | cons c rest ih =>
    obtain ⟨b, w⟩ := c
    have h' := h
    simp only [Memory.wfFrom, Bool.and_eq_true, decide_eq_true_eq] at h'
    obtain ⟨⟨⟨h1, h2⟩, h3⟩, h4⟩ := h'
    simp only [Memory.write]
    split
    · split
      · exact h
      · simp only [Memory.wfFrom, Bool.and_eq_true, decide_eq_true_eq]
        exact ⟨⟨⟨hlo, ha⟩, by simp_all⟩, ⟨⟨by omega, h2⟩, h3⟩, h4⟩
    · split
      · split
        · exact Memory.wfFrom_mono h4 (by omega)
        · rename_i h5 h6 h7
          subst h6
          simp only [Memory.wfFrom, Bool.and_eq_true, decide_eq_true_eq]
          exact ⟨⟨⟨h1, h2⟩, by simp_all⟩, h4⟩
      · simp only [Memory.wfFrom, Bool.and_eq_true, decide_eq_true_eq]
        exact ⟨⟨⟨h1, h2⟩, h3⟩, ih h4 (by omega)⟩

/-- Every write keeps memory in canonical form. -/
theorem Memory.write_wf {m : Memory} {a : Nat} (v : Byte) (h : Memory.wf m = true) (ha : a < 2 ^ 24) :
    Memory.wf (Memory.write m a v) = true :=
  Memory.write_wfFrom v h (Nat.zero_le a) ha

theorem Memory.read_writeFrom {m : Memory} {lo : Nat} (a b : Nat) (v : Byte) (h : Memory.wfFrom lo m = true) :
    Memory.read (Memory.write m a v) b = if b = a then v else Memory.read m b := by
  induction m generalizing lo with
  | nil => by_cases hv : v = Memory.unlisted <;> by_cases hb : b = a <;> simp [Memory.write, Memory.read, hv, hb]
  | cons c rest ih =>
    obtain ⟨k, w⟩ := c
    simp only [Memory.wfFrom, Bool.and_eq_true, decide_eq_true_eq] at h
    obtain ⟨⟨⟨h1, h2⟩, h3⟩, h4⟩ := h
    have hrest := fun x (hx : x < k + 1) => Memory.read_below h4 hx
    have hstep : Memory.read ((k, w) :: rest) b = if b = k then w else Memory.read rest b := rfl
    by_cases h5 : a < k
    · have e : Memory.write ((k, w) :: rest) a v =
        if v = Memory.unlisted then (k, w) :: rest else (a, v) :: (k, w) :: rest := by simp [Memory.write, h5]
      rw [e]
      by_cases hv : v = Memory.unlisted
      · rw [if_pos hv]
        by_cases hb : b = a
        · subst hb
          rw [hstep, if_pos rfl, if_neg (by omega), hrest b (by omega), hv]
        · rw [if_neg hb]
      · rw [if_neg hv]; rfl
    · by_cases h6 : a = k
      · subst h6
        have e : Memory.write ((a, w) :: rest) a v = if v = Memory.unlisted then rest else (a, v) :: rest := by
          simp [Memory.write]
        rw [e, hstep]
        by_cases hv : v = Memory.unlisted
        · rw [if_pos hv]
          by_cases hb : b = a
          · subst hb
            rw [if_pos rfl, hrest b (by omega), hv]
          · rw [if_neg hb, if_neg hb]
        · rw [if_neg hv]
          by_cases hb : b = a <;> simp [Memory.read, hb]
      · have e : Memory.write ((k, w) :: rest) a v = (k, w) :: Memory.write rest a v := by
          simp [Memory.write, h5, h6]
        rw [e, hstep]
        show (if b = k then w else Memory.read (Memory.write rest a v) b) = _
        rw [ih h4]
        by_cases hb : b = a
        · subst hb
          rw [if_neg h6, if_pos rfl, if_pos rfl]
        · simp [hb]

/-- A read after a write: the byte written, or what stood there. -/
theorem Memory.read_write {m : Memory} (a b : Nat) (v : Byte) (h : Memory.wf m = true) :
    Memory.read (Memory.write m a v) b = if b = a then v else Memory.read m b :=
  Memory.read_writeFrom a b v h

/-- Memory after RESET is in canonical form. -/
theorem reset_mem_wf : Memory.wf State.reset.mem = true := rfl

theorem setMem8_wf {s : State} (a : PhysAddr) (v : Byte) (h : Memory.wf s.mem = true) :
    Memory.wf (s.setMem8 a v).mem = true := by
  rw [setMem8_mem]
  split
  · exact Memory.write_wf v h a.isLt
  · exact h

/-- A word store is two byte stores, but for the cycles that devices see. -/
theorem setMem16_eq (s : State) (a : PhysAddr) (v : Word) :
    s.setMem16 a v = { (s.setMem8 a v.lo).setMem8 (a + 1) v.hi with
      io := s.wordCycles a v ++ s.io, bus := s.storeCycles16 a v ++ s.bus } := rfl

theorem setMem16_wf {s : State} (a : PhysAddr) (v : Word) (h : Memory.wf s.mem = true) :
    Memory.wf (s.setMem16 a v).mem = true :=
  setMem8_wf (a + 1) v.hi (setMem8_wf a v.lo h)

/-- What stands at an address depends on the map alone. -/
theorem outside_congr {s t : State} (h : t.memMap = s.memMap) (a : PhysAddr) : t.outside a = s.outside a := by
  unfold State.outside State.kindAt
  rw [h]

/-- RAM is memory. -/
theorem outside_ram {s : State} {a : PhysAddr} (h : s.kindAt a = .ram) : s.outside a = false := by
  unfold State.outside
  rw [h]

/-- MemRead where memory stands: the byte it holds, however often it is read. -/
theorem mem8_inside {s : State} {a : PhysAddr} (h : s.outside a = false) : s.mem8 a = Memory.read s.mem a.toNat := by
  simp [State.mem8, State.byteOr, h]

/-- Reading where memory stands leaves no trace. -/
theorem after8_inside {s : State} {a : PhysAddr} (h : s.outside a = false) : s.after8 a = s := by
  simp [State.after8, State.byteRead, h]

theorem after16_inside {s : State} {a : PhysAddr} (h : s.outside a = false) (h1 : s.outside (a + 1) = false) :
    s.after16 a = s := by
  have : s.wordRead a = [] := by
    unfold State.wordRead State.byteRead
    rw [h, h1]
    split <;> rfl
  simp only [State.after16, State.afterWords, List.foldl, this, List.nil_append, seen_nil]

/-- MemRead of a word where memory stands: two bytes. -/
theorem mem16_inside {s : State} {a : PhysAddr} (h : s.outside a = false) (h1 : s.outside (a + 1) = false) :
    s.mem16 a = Word.of (s.mem8 (a + 1)) (s.mem8 a) := by
  unfold State.mem16
  rw [after8_inside h, mem8_inside h, mem8_inside h1]
  unfold State.byteOr
  rw [h, h1]
  split <;> rfl

/-- Reading words one after the other. -/
theorem afterWords_cons (s : State) (a : PhysAddr) (as : List PhysAddr) :
    s.afterWords (a :: as) = (s.after16 a).afterWords as := rfl

theorem words_cons (s : State) (a : PhysAddr) (as : List PhysAddr) :
    s.words (a :: as) = s.mem16 a :: (s.after16 a).words as := rfl

theorem words_length (s : State) (as : List PhysAddr) : (s.words as).length = as.length := by
  induction as generalizing s with
  | nil => rfl
  | cons a as ih => simp [words_cons, ih]

/-- A word where memory stands nowhere else than at its address: one cycle at an even address. -/
theorem after16_even {s : State} {a : PhysAddr} (he : a.getLsbD 0 = false) (h : s.outside a = true) :
    (s.after16 a).io = .memRead a true :: s.io := by
  rw [after16_io, State.wordRead, he, h]
  rfl

/-- At an odd address two byte cycles, the low byte first. -/
theorem after16_odd {s : State} {a : PhysAddr} (ho : a.getLsbD 0 = true) : s.after16 a = (s.after8 a).after8 (a + 1) := by
  simp only [State.after16, State.afterWords, State.wordRead, ho, if_true, List.foldl, State.after8, List.append_assoc,
    seen_append]
  rfl

/-- What memory holds after a byte is stored: only a store to RAM changes it. -/
theorem setMem8_byteOr {s : State} (a b : PhysAddr) (v w : Byte) (h : Memory.wf s.mem = true) :
    (s.setMem8 a v).byteOr b w = if b = a ∧ s.kindAt a = .ram then v else s.byteOr b w := by
  have hk : (s.setMem8 a v).outside b = s.outside b := rfl
  unfold State.byteOr
  rw [hk, setMem8_mem]
  by_cases ha : s.kindAt a = .ram
  · rw [if_pos ha, Memory.read_write _ _ _ h]
    by_cases hb : b = a
    · subst hb
      simp [ha, outside_ram ha]
    · have : b.toNat ≠ a.toNat := fun e => hb (BitVec.eq_of_toNat_eq e)
      simp [hb, this]
  · simp [ha]

/-- MemRead after MemWrite, one byte: only a store to RAM is read back. -/
theorem setMem8_mem8 {s : State} (a b : PhysAddr) (v : Byte) (h : Memory.wf s.mem = true)
    (hb : s.outside b = false) :
    (s.setMem8 a v).mem8 b = if b = a ∧ s.kindAt a = .ram then v else s.mem8 b := by
  have hb' : (s.setMem8 a v).outside b = false := (outside_congr rfl b).trans hb
  have := setMem8_byteOr a b v 0 h
  rw [State.byteOr, State.byteOr, hb, hb'] at this
  rw [mem8_inside hb', mem8_inside hb]
  simpa using this

/-- MemRead of a byte after MemWrite of a word. -/
theorem setMem16_mem8 {s : State} (a b : PhysAddr) (v : Word) (h : Memory.wf s.mem = true)
    (hb : s.outside b = false) :
    (s.setMem16 a v).mem8 b = if b = a + 1 ∧ s.kindAt (a + 1) = .ram then v.hi
      else if b = a ∧ s.kindAt a = .ram then v.lo else s.mem8 b := by
  have h8 : (s.setMem8 a v.lo).outside b = false := (outside_congr rfl b).trans hb
  have h88 : ((s.setMem8 a v.lo).setMem8 (a + 1) v.hi).outside b = false := (outside_congr rfl b).trans h8
  have h16 : (s.setMem16 a v).outside b = false := (outside_congr rfl b).trans hb
  have e : (s.setMem16 a v).mem8 b = ((s.setMem8 a v.lo).setMem8 (a + 1) v.hi).mem8 b := by
    rw [mem8_inside h16, mem8_inside h88]
    rfl
  rw [e, setMem8_mem8 _ _ _ (setMem8_wf _ _ h) h8, setMem8_mem8 _ _ _ h hb]
  rfl

end Sys2Proof.Machine
end

