-- ==== Sys2Proof/Safety.lean ====
section
/-! DEFINITION. The terms that claims are stated in: when an operand can be read or written and what it holds, what a
completed instruction leaves, the invariant of the machine, and the classes of instructions. -/

namespace Sys2Proof.Machine

/-! ### Conditions on a state -/

/-- The conditions of ReadSeg (20_memory.md R120). -/
def State.readOk (s : State) (r : SegReg) (off : Word) (n : Nat) : Bool :=
  (s.seg r).valid && (s.seg r).readable && (s.seg r).inLimit off.toNat n

/-- The conditions of WriteSeg (20_memory.md R121). -/
def State.writeOk (s : State) (r : SegReg) (off : Word) (n : Nat) : Bool :=
  (s.seg r).valid && (s.seg r).writable && (s.seg r).inLimit off.toNat n

/-- No LOCK prefix, or the privilege for one (45_flag_io_misc.md R466). -/
def State.lockOk (s : State) : Bool := !s.pfx.lock || s.ioAllowed

/-- Push16 can be made: the word fits, and SP is not 1 in Real Address Mode (20_memory.md R124, R127). -/
def State.pushOk (s : State) : Bool := !(!s.pe && s.gpr.sp == 1) && s.stackOk (s.gpr.sp - 2) 2

/-- A near target is in the code segment, tested in Protected Mode only (43_control_transfer.md R340). -/
def State.targetOk (s : State) (t : Word) : Bool := !s.pe || decide (t.toNat ≤ s.cs.limit.toNat)

/-- An ESC instruction passes the tests of MSW and, if it is error-checking, of ERROR (48_npx_architecture.md R535). -/
def State.escOk (s : State) (check : Bool) : Bool := !s.em && !s.ts && (!check || !s.npxError)

/-! ### Operands -/

/-- The value of a byte operand. -/
def State.val8 (s : State) : Rm Reg8 → Byte
  | .reg r => s.reg8 r
  | .mem ea => s.mem8 ((s.seg (s.eaSeg ea)).lin (s.eaOff ea))

/-- The value of a word operand. -/
def State.val16 (s : State) : Rm Reg16 → Word
  | .reg r => s.reg16 r
  | .mem ea => s.mem16 ((s.seg (s.eaSeg ea)).lin (s.eaOff ea))

/-- The state after a byte operand has been read: memory is read once (20_memory.md R88). -/
def State.read8 (s : State) : Rm Reg8 → State
  | .reg _ => s
  | .mem ea => s.after8 ((s.seg (s.eaSeg ea)).lin (s.eaOff ea))

/-- The state after a word operand has been read. -/
def State.read16 (s : State) : Rm Reg16 → State
  | .reg _ => s
  | .mem ea => s.after16 ((s.seg (s.eaSeg ea)).lin (s.eaOff ea))

/-- Where the words of an operand of `k` words stand, at ascending offsets. -/
def State.operandAddrs (s : State) (k : Nat) (ea : Ea) : List PhysAddr :=
  (List.range k).map fun j => (s.seg (s.eaSeg ea)).lin (s.eaOff ea + BitVec.ofNat 16 (2 * j))

/-- These words, read in this order. -/
def State.operandWords (s : State) (k : Nat) (ea : Ea) : List Word := s.words (s.operandAddrs k ea)

/-- The state after they have been read. -/
def State.operandRead (s : State) (k : Nat) (ea : Ea) : State := s.afterWords (s.operandAddrs k ea)

/-- An operand of `n` bytes that can be read: a register, or memory that passes the test of ReadSeg. -/
def State.canRead {R : Type} (s : State) (n : Nat) : Rm R → Bool
  | .reg _ => true
  | .mem ea => s.readOk (s.eaSeg ea) (s.eaOff ea) n

/-- An operand of `n` bytes that can be written. -/
def State.canWrite {R : Type} (s : State) (n : Nat) : Rm R → Bool
  | .reg _ => true
  | .mem ea => s.writeOk (s.eaSeg ea) (s.eaOff ea) n

/-- The state `t` with a byte operand replaced; `s` is the state that addresses it. -/
def State.put8 (s t : State) (d : Rm Reg8) (v : Byte) : State :=
  match d with
  | .reg r => t.setReg8 r v
  | .mem ea => t.setMem8 ((s.seg (s.eaSeg ea)).lin (s.eaOff ea)) v

/-- The state `t` with a word operand replaced; `s` is the state that addresses it. -/
def State.put16 (s t : State) (d : Rm Reg16) (v : Word) : State :=
  match d with
  | .reg r => t.setReg16 r v
  | .mem ea => t.setMem16 ((s.seg (s.eaSeg ea)).lin (s.eaOff ea)) v

/-- The state after Push16(v) that can be made (20_memory.md R124). -/
def State.pushed (s : State) (v : Word) : State :=
  (s.setMem16 (s.ss.lin (s.gpr.sp - 2)) v).setReg16 .sp (s.gpr.sp - 2)

/-- The word on top of the stack. -/
def State.stackTop (s : State) : Word := s.mem16 (s.ss.lin s.gpr.sp)

/-- The state after the word on top of the stack has been read. -/
def State.topRead (s : State) : State := s.after16 (s.ss.lin s.gpr.sp)

/-- The word `k` bytes above the top of the stack (43_control_transfer.md R376). -/
def State.stkWord (s : State) (k : Word) : Word := s.mem16 (s.stkAddr k)

/-- The state after that word has been read. -/
def State.afterStk (s : State) (k : Word) : State := s.after16 (s.stkAddr k)

/-- What a completed instruction leaves: no prefix is pending. -/
def State.done (s : State) : State := { s with pfx := Prefixes.none }

/-- The exception an instruction ends in: the state `s` when it is raised, and its delivery. -/
def State.raises (s : State) (a : Abort) : Result := .next (takeAbort a s)

/-- `k` words can be pushed one after the other. -/
def State.pushesOk (s : State) (k : Nat) : Bool :=
  (List.range k).all fun i =>
    !(!s.pe && s.gpr.sp - BitVec.ofNat 16 (2 * i) == 1) && s.stackOk (s.gpr.sp - BitVec.ofNat 16 (2 * i + 2)) 2

/-- Flags that become undefined, with the values drawn for them. -/
def State.undefine (s : State) : List (Flag × Bool) → State
  | [] => s
  | (f, b) :: rest => (({ s with undef := s.undef + 1 }).setFlag f b).undefine rest

/-! ### Results of arithmetic and logic -/

/-- A byte result with its flags, written to `d`. -/
def State.alu8 (s : State) (d : Rm Reg8) (r : Byte × StatusFlags) : State := s.put8 (s.setStatus r.2) d r.1

/-- A word result with its flags, written to `d`. -/
def State.alu16 (s : State) (d : Rm Reg16) (r : Word × StatusFlags) : State := s.put16 (s.setStatus r.2) d r.1

/-- The flags of a Boolean operation with result `r`: CF and OF are 0, AF is undefined (42_logical_shift_rotate.md R310). -/
def State.logical {n : Nat} (s : State) (r : BitVec n) (af : Bool) : State :=
  (((s.setFlag .cf false).setFlag .of false).setResultFlags r).undefine [(.af, af)]

/-- The flags of a multiplication: CF and OF say whether the high half is needed (41_arithmetic.md R279 to R281). -/
def State.multiplied (s : State) (wide sf zf af pf : Bool) : State :=
  ((s.setFlag .cf wide).setFlag .of wide).undefine [(.sf, sf), (.zf, zf), (.af, af), (.pf, pf)]

/-- The flags of a division: none is defined (41_arithmetic.md R282, R283). -/
def State.divided (s : State) (o si z a p c : Bool) : State :=
  s.undefine [(.of, o), (.sf, si), (.zf, z), (.af, a), (.pf, p), (.cf, c)]

/-- The flags of a shift or rotate of `v` by `raw` (42_logical_shift_rotate.md R317, R318): `af` and `ov` are the values
drawn for AF and OF where they are undefined. -/
def State.shifted {n : Nat} (s : State) (k : Shift) (raw : Byte) (v : BitVec n) (af ov : Bool) : State :=
  let c := raw.toNat % 32
  let r := k.iterate c v (s.flag .cf)
  if c = 0 then s.undefine [(.of, ov)]
  else
    let t := s.setFlag .cf r.2
    let t := if k.isShift then (t.setResultFlags r.1).undefine [(.af, af)] else t
    if c = 1 then t.setFlag .of (k.overflow r.1 r.2) else t.undefine [(.of, ov)]

/-- The result of a shift or rotate. -/
def State.shiftValue {n : Nat} (s : State) (k : Shift) (raw : Byte) (v : BitVec n) : BitVec n :=
  (k.iterate (raw.toNat % 32) v (s.flag .cf)).1

/-- A byte shift completes: the operand gets the result, the flags are those of R318, for some values drawn. -/
def State.shifts8 (s : State) (k : Shift) (d : Rm Reg8) (raw : Byte) (i : Instr) : Prop :=
  s.canWrite 1 d = true → ∃ af ov, exec i s =
    .next (s.put8 ((s.read8 d).shifted k raw (s.val8 d) af ov) d (s.shiftValue k raw (s.val8 d))).done

/-- The same for a word. -/
def State.shifts16 (s : State) (k : Shift) (d : Rm Reg16) (raw : Byte) (i : Instr) : Prop :=
  s.canWrite 2 d = true → ∃ af ov, exec i s =
    .next (s.put16 ((s.read16 d).shifted k raw (s.val16 d) af ov) d (s.shiftValue k raw (s.val16 d))).done

/-- A number below 100 in packed decimal. -/
def packed (n : Nat) : Byte := BitVec.ofNat 8 (16 * (n / 10) + n % 10)

/-! ### I/O -/

/-- A word at this port moves as two bytes, the low one first (20_memory.md R130): the port is odd, and not the last one
(log 7). -/
def oddPort (p : Word) : Bool := decide (p.toNat % 2 = 1) && p != 0xFFFF

/-- The word read from a port. -/
def State.portWord (s : State) (p : Word) : Word :=
  if oddPort p then
    Word.of (Config.ioRead (.read p false :: s.io) (p + 1) false).lo (Config.ioRead s.io p false).lo
  else Config.ioRead s.io p true

/-- The state after the word is read from a port. -/
def State.portRead (s : State) (p : Word) : State :=
  if oddPort p then (s.port (.read p false)).port (.read (p + 1) false) else s.port (.read p true)

/-- The state after a word is written to a port. -/
def State.portWritten (s : State) (p v : Word) : State :=
  if oddPort p then (s.port (.write p false (v.lo.setWidth 16))).port (.write (p + 1) false (v.hi.setWidth 16))
  else s.port (.write p true v)

/-! ### Segments -/

/-- A selector that a load of a segment register accepts: every test of LoadData or LoadSS passes
(20_memory.md R150 to R152). -/
def State.segLoadOk (s : State) (r : SegReg) (sel : Word) : Bool :=
  if !s.pe then true
  else if r = .ss then
    !selNull sel && match s.descLookup sel with
      | none => false
      | some d => selRpl sel == s.cpl && (d.isData && d.writable) && d.dpl == s.cpl && d.present
  else
    selNull sel || match s.descLookup sel with
      | none => false
      | some d => (d.isData || (d.isCode && d.readable)) && d.dataAccess s.cpl (selRpl sel) && d.present

/-- A descriptor marked as accessed. -/
def State.accessed (s : State) (d : Desc) : State := s.setMem8 (d.addr + 5) (d.ar ||| 0x01)

/-- The state after a load of a segment register that is accepted (20_memory.md R150 to R152). -/
def State.segLoaded (s : State) (r : SegReg) (sel : Word) : State :=
  if !s.pe then s.setSeg r (SegCache.real sel (sel.setWidth 24 <<< 4))
  else if selNull sel then s.setSeg r { s.seg r with sel := sel, valid := false }
  else match s.descLookup sel with
    | none => s
    | some d => ((s.afterLookup sel).accessed d).setSeg r (d.cache sel)

/-- The two words of a far pointer in memory: offset and selector. -/
def State.farPointer (s : State) (ea : Ea) : Word × Word := (wordAt (s.operandWords 2 ea) 0, wordAt (s.operandWords 2 ea) 1)

/-- The far pointer can be read. -/
def State.farReadOk (s : State) (ea : Ea) : Bool := s.readOk (s.eaSeg ea) (s.eaOff ea) 4

/-! ### Control transfer -/

/-- Code segment `d` entered at `off` with privilege `cpl` (43_control_transfer.md R376). -/
def State.enterCode (s : State) (sel : Word) (d : Desc) (cpl : BitVec 2) (off : Word) : State :=
  ({ s.accessed d with cs := d.cache (withRpl sel cpl), cpl := cpl }).jump off

/-- A code segment that a far JMP or CALL may enter at the same privilege (43_control_transfer.md R377, R378). -/
def State.codeOk (s : State) (sel off : Word) (d : Desc) : Bool :=
  !selNull sel && d.isCode &&
    (if d.conforming then d.dpl.ule s.cpl else (selRpl sel).ule s.cpl && d.dpl == s.cpl) &&
    d.present && decide (off.toNat ≤ d.limit.toNat)

/-- A code segment that a far RET or IRET may return to at the same privilege (43_control_transfer.md R383, R391). -/
def State.returnOk (s : State) (rs off : Word) (d : Desc) : Bool :=
  !selNull rs && selRpl rs == s.cpl && d.isCode && d.codeAt s.cpl && d.present && decide (off.toNat ≤ d.limit.toNat)

/-- A conditional jump: taken, not taken, or taken to a target outside the code segment (43_control_transfer.md R344). -/
def State.jumpsIf (s : State) (c : Bool) (rel : Byte) (i : Instr) : Prop :=
  (c = false → exec i s = .next s.done) ∧
  (c = true → s.targetOk (s.relTarget8 rel) = true → exec i s = .next (s.jump (s.relTarget8 rel)).done) ∧
  (c = true → s.targetOk (s.relTarget8 rel) = false → exec i s = s.raises (.gp 0))

/-- A loop instruction: CX is decremented, and the jump taken or not; a target outside the code segment leaves CX as it
was (43_control_transfer.md R362 to R364). -/
def State.loopsIf (s : State) (c : Bool) (rel : Byte) (i : Instr) : Prop :=
  (c = false → exec i s = .next (s.setReg16 .cx (s.gpr.cx - 1)).done) ∧
  (c = true → s.targetOk (s.relTarget8 rel) = true →
    exec i s = .next ((s.jump (s.relTarget8 rel)).setReg16 .cx (s.gpr.cx - 1)).done) ∧
  (c = true → s.targetOk (s.relTarget8 rel) = false → exec i s = s.raises (.gp 0))

/-- The entry through vector `n` in Real Address Mode can be made: it is inside the table, and FLAGS, CS and IP fit on the
stack (60_exceptions.md R745, R746). -/
def State.realEntryOk (s : State) (n : Byte) : Bool :=
  !s.pe && s.realVectorIn n && !(s.gpr.sp == 1 || s.gpr.sp == 3 || s.gpr.sp == 5) && s.pushesOk 3

/-- Where the two words of vector `n` stand in Real Address Mode: offset and segment. -/
def State.vectorAddrs (s : State) (n : Byte) : List PhysAddr :=
  [s.idtr.base + 4 * n.setWidth 24, s.idtr.base + 4 * n.setWidth 24 + 2]

/-- The vector read, FLAGS, CS and the return address pushed, IF and TF cleared, and CS:IP loaded from the vector
(60_exceptions.md R745). -/
def State.realEntered (s : State) (n : Byte) (ret : Word) : State :=
  let v := s.words (s.vectorAddrs n)
  let t := s.afterWords (s.vectorAddrs n)
  (((((t.pushed s.flags.word).pushed s.cs.sel).pushed ret).setFlag .if_ false).setFlag .tf false).realFar
    (wordAt v 1) (wordAt v 0)

/-- The gate of vector `n` in Protected Mode. -/
def State.gate (s : State) (n : Byte) : Desc := s.descAt (s.idtr.base + 8 * n.setWidth 24)

/-- The state after the gate has been read: its four words (60_exceptions.md R747). -/
def State.gateRead (s : State) (n : Byte) : State := s.afterWords (s.gateWords n)

/-- The state after the descriptor that the gate names has been read as well. -/
def State.targetRead (s : State) (n : Byte) : State := (s.gateRead n).afterLookup (s.gate n).gateSel

/-- Vector `n` holds a present interrupt or trap gate to the code segment `d`, entered at the current privilege, with
room for a frame of `bytes` bytes (60_exceptions.md R747, R748). A software interrupt needs DPL ≥ CPL. -/
def State.gateOk (s : State) (n : Byte) (software : Bool) (bytes : Nat) (d : Desc) : Bool :=
  s.pe && decide (8 * n.toNat + 7 ≤ s.idtr.limit.toNat) && ((s.gate n).isControl 6 || (s.gate n).isControl 7) &&
    !(software && (s.gate n).dpl.ult s.cpl) && (s.gate n).present && !selNull (s.gate n).gateSel &&
    (s.gateRead n).descLookup (s.gate n).gateSel == some d && d.isCode && d.present && d.codeAt s.cpl &&
    s.stackRoom bytes && decide ((s.gate n).gateOffset.toNat ≤ d.limit.toNat)

/-- FLAGS, CS and the return address pushed and the gate's code segment entered (60_exceptions.md R748). -/
def State.gateEntered (s : State) (n : Byte) (d : Desc) (ret : Word) : State :=
  ((((s.targetRead n).pushed s.flags.word).pushed s.cs.sel).pushed ret).enterCode (s.gate n).gateSel d s.cpl
    (s.gate n).gateOffset

/-! ### Transfers between privilege levels (43_control_transfer.md R380, R383 to R385; 60_exceptions.md R749) -/

/-- `d` is the stack segment that `sel` names, and it can be the stack at level `n`. -/
def State.stackFor (s : State) (sel : Word) (n : BitVec 2) (d : Desc) : Bool :=
  !selNull sel && s.descLookup sel == some d && selRpl sel == n && d.dpl == n && d.isData && d.writable && d.present

/-- Where SP and SS for level `n` stand in the current TSS (R384, R392). -/
def State.tssAddrs (s : State) (n : BitVec 2) : List PhysAddr :=
  [s.tr.base + 2 + 4 * n.setWidth 24, s.tr.base + 4 + 4 * n.setWidth 24]

/-- SP and SS for level `n` in the current TSS, SP read first. -/
def State.tssSP (s : State) (n : BitVec 2) : Word := wordAt (s.words (s.tssAddrs n)) 0
def State.tssSS (s : State) (n : BitVec 2) : Word := wordAt (s.words (s.tssAddrs n)) 1

/-- The TSS holds the stack `x` for level `n`, with room for `bytes` bytes. -/
def State.innerStackOk (s : State) (n : BitVec 2) (x : Desc) (bytes : Nat) : Bool :=
  s.tr.valid && decide (4 * n.toNat + 5 ≤ s.tr.limit.toNat) &&
    (s.afterWords (s.tssAddrs n)).stackFor (s.tssSS n) n x && (x.cache (s.tssSS n)).room (s.tssSP n) bytes

/-- The state after the stack for level `n` and its descriptor have been read. -/
def State.innerRead (s : State) (n : BitVec 2) : State := (s.afterWords (s.tssAddrs n)).afterLookup (s.tssSS n)

/-- SS:SP loaded. -/
def State.enterStack (s : State) (sel : Word) (d : Desc) (sp : Word) : State :=
  { s.accessed d with ss := d.cache sel }.setReg16 .sp sp

/-- The stack that the TSS of `s` has for a more privileged level, and the code segment `d` of that level, entered in
`t`, the state after all of it has been read; and the old SS:SP pushed. -/
def State.enterInner (s t : State) (sel off : Word) (d x : Desc) : State :=
  (((t.enterStack (s.tssSS d.dpl) x (s.tssSP d.dpl)).enterCode sel d d.dpl off).pushed s.ss.sel).pushed s.gpr.sp

/-- `d` is a present code segment that `sel` names, of more privilege than CPL, and `off` is in it. -/
def State.innerCode (s : State) (sel off : Word) (d : Desc) : Bool :=
  !selNull sel && s.descLookup sel == some d && d.isCode && !d.conforming && d.dpl.ult s.cpl && d.present &&
    decide (off.toNat ≤ d.limit.toNat)

/-- `g` is a present gate of the given type that `sel` names, and CPL and the selector's RPL may use it. -/
def State.gateFor (s : State) (sel : Word) (g : Desc) (type : BitVec 4) : Bool :=
  !selNull sel && s.descLookup sel == some g && g.isControl type && s.cpl.ule g.dpl && (selRpl sel).ule g.dpl && g.present

/-- A register that held `c` and is revalidated at the level `cpl`: it keeps a segment that this level may use, and
another becomes null (R385). -/
def State.kept (s : State) (cpl : BitVec 2) (c : SegCache) : SegCache :=
  let dpl : BitVec 2 := c.ar.extractLsb' 5 2
  let code := c.ar.getLsbD 3
  let inTable := match s.tableOf c.sel with
    | none => false
    | some t => decide ((selOffset c.sel).toNat + 7 ≤ t.limit.toNat)
  let usable := inTable && c.ar.getLsbD 4 && (!code || c.ar.getLsbD 1) &&
    ((code && c.ar.getLsbD 2) || (decide (cpl.toNat ≤ dpl.toNat) && decide ((selRpl c.sel).toNat ≤ dpl.toNat)))
  if !c.valid || usable then c else { c with sel := 0, ar := 0, valid := false }

/-- In `s`, `i` is a far JMP to `sel:off` that has its target in the state `u`: a direct one, or one through a pointer
in memory, which has then been read. -/
def State.jumpsFar (s : State) (i : Instr) (sel off : Word) (u : State) : Prop :=
  (i = .jmpCd off sel ∧ u = s) ∨
    ∃ ea, i = .jmpEd ea ∧ s.farReadOk ea = true ∧ s.farPointer ea = (off, sel) ∧ u = s.operandRead 2 ea

/-- The same for a far CALL. -/
def State.callsFar (s : State) (i : Instr) (sel off : Word) (u : State) : Prop :=
  (i = .callCd off sel ∧ u = s) ∨
    ∃ ea, i = .callEd ea ∧ s.farReadOk ea = true ∧ s.farPointer ea = (off, sel) ∧ u = s.operandRead 2 ea

/-- `d` is a present code segment that `sel` names and that is entered at the current level, and `off` is in it. -/
def State.sameCode (s : State) (sel off : Word) (d : Desc) : Bool :=
  !selNull sel && s.descLookup sel == some d && d.isCode && d.codeAt s.cpl && d.present &&
    decide (off.toNat ≤ d.limit.toNat)

/-- Vector `n` holds a present interrupt or trap gate to the code segment `d` of more privilege, whose stack `x` has room
for `bytes` bytes (60_exceptions.md R747 to R749). A software interrupt needs DPL ≥ CPL. -/
def State.gateInnerOk (s : State) (n : Byte) (software : Bool) (bytes : Nat) (d x : Desc) : Bool :=
  s.pe && decide (8 * n.toNat + 7 ≤ s.idtr.limit.toNat) && ((s.gate n).isControl 6 || (s.gate n).isControl 7) &&
    !(software && (s.gate n).dpl.ult s.cpl) && (s.gate n).present &&
    (s.gateRead n).innerCode (s.gate n).gateSel (s.gate n).gateOffset d && (s.targetRead n).innerStackOk d.dpl x bytes

/-- The inner stack and code entered, and SS, SP, FLAGS, CS and the return address pushed (60_exceptions.md R749). -/
def State.gateEnteredInner (s : State) (n : Byte) (d x : Desc) (ret : Word) : State :=
  let u := s.targetRead n
  let t := u.enterInner (u.innerRead d.dpl) (s.gate n).gateSel (s.gate n).gateOffset d x
  ((t.pushed s.flags.word).pushed s.cs.sel).pushed ret

/-- A return to the outer level `rpl`: to the code segment `d` at `off`, and to the stack `x` at `sp`. DS and ES keep what
that level may use. -/
def State.returnOuter (s : State) (rs off : Word) (d : Desc) (nss : Word) (x : Desc) (sp : Word) : State :=
  { (s.enterCode rs d (selRpl rs) off).enterStack nss x sp with
    ds := s.kept (selRpl rs) s.ds, es := s.kept (selRpl rs) s.es }

/-- A code segment that a far RET or IRET may return to at an outer level (R383, R391). -/
def State.outerCode (s : State) (rs off : Word) (d : Desc) : Bool :=
  !selNull rs && s.cpl.ult (selRpl rs) && d.isCode && d.codeAt (selRpl rs) && d.present &&
    decide (off.toNat ≤ d.limit.toNat)

/-! ### The task switch (43_control_transfer.md R392) -/

/-- A task switch up to its commit point, the new task's registers read: steps 1 and 4 to 10. -/
def State.switched (s : State) (kind : SwitchKind) (sel : Word) (n : Desc) (ip : Word) : State :=
  let t := ((s.setMem8 (n.addr + 5) (n.ar ||| 0x02)).saveTask kind ip).linkTask kind n
  (t.afterWords (taskWords n.base)).enterTask kind sel n (t.words (taskWords n.base))

/-- The new task's LDT, if its descriptor can be loaded: step 11. -/
def State.taskLdt (s : State) : Option State :=
  if selNull s.ldtr.sel then some s
  else match s.descLookup s.ldtr.sel with
    | none => none
    | some d =>
      if !selLocal s.ldtr.sel && d.isControl 2 && d.present then
        some { s.afterLookup s.ldtr.sel with ldtr := ⟨s.ldtr.sel, d.base, d.limit, true⟩ }
      else none

/-- CPL and the new task's stack: steps 12 and 13. -/
def State.taskStack (s : State) : Option State :=
  match s.descLookup s.ss.sel with
  | none => none
  | some d =>
    if s.stackFor s.ss.sel (selRpl s.cs.sel) d then
      some { (s.afterLookup s.ss.sel).accessed d with cpl := selRpl s.cs.sel, ss := d.cache s.ss.sel }
    else none

/-- The new task's code segment: step 14. -/
def State.taskCode (s : State) : Option State :=
  match s.descLookup s.cs.sel with
  | none => none
  | some d =>
    if !selNull s.cs.sel && d.isCode && d.codeAt s.cpl && d.present then
      some { (s.afterLookup s.cs.sel).accessed d with cs := d.cache s.cs.sel }
    else none

/-- One of the new task's data segments: step 15. -/
def State.taskData (r : SegReg) (s : State) : Option State :=
  if selNull (s.seg r).sel then some s
  else match s.descLookup (s.seg r).sel with
    | none => none
    | some d =>
      if (d.isData || (d.isCode && d.readable)) && d.dataAccess s.cpl (selRpl (s.seg r).sel) && d.present then
        some (((s.afterLookup (s.seg r).sel).accessed d).setSeg r (d.cache (s.seg r).sel))
      else none

/-- The state after a task switch to the TSS `n` that `sel` names, if every test of it passes. -/
def State.taskEntered (s : State) (kind : SwitchKind) (sel : Word) (n : Desc) (ip : Word) : Option State :=
  if s.tr.valid && decide (43 ≤ s.tr.limit.toNat) && decide (43 ≤ n.limit.toNat) then do
    let t ← (s.switched kind sel n ip).taskLdt
    let t ← t.taskStack
    let t ← t.taskCode
    let t ← t.taskData .ds
    let t ← t.taskData .es
    if t.ip.toNat ≤ t.cs.limit.toNat then some { t with stale := [] } else none
  else none

/-- `n` is a present TSS of the GDT that `sel` names: available, or busy. -/
def State.tssFor (s : State) (sel : Word) (n : Desc) (type : BitVec 4) : Bool :=
  !selLocal sel && s.descLookup sel == some n && n.isControl type && n.present

/-- Vector `v` holds a present task gate to the available TSS `n`. A software interrupt needs DPL ≥ CPL. -/
def State.taskGateOk (s : State) (v : Byte) (software : Bool) (n : Desc) : Bool :=
  decide (8 * v.toNat + 7 ≤ s.idtr.limit.toNat) && (s.gate v).isControl 5 &&
    !(software && (s.gate v).dpl.ult s.cpl) && (s.gate v).present && (s.gateRead v).tssFor (s.gate v).gateSel n 1

/-- The addresses of a task switch: byte `k` of the old TSS, of the new TSS, and the two descriptors' rights bytes. -/
def State.oldTss (s : State) (k : Nat) : PhysAddr := s.tr.base + BitVec.ofNat 24 k
def Desc.newTss (n : Desc) (k : Nat) : PhysAddr := n.base + BitVec.ofNat 24 k
def State.oldRights (s : State) : PhysAddr := s.gdtr.base + (selOffset s.tr.sel).setWidth 24 + 5
def Desc.newRights (n : Desc) : PhysAddr := n.addr + 5

/-- The two TSSs and the two rights bytes lie in RAM and share no byte. -/
def State.tasksApart (s : State) (n : Desc) : Prop :=
  (∀ k < 44, s.kindAt (s.oldTss k) = .ram ∧ s.kindAt (n.newTss k) = .ram ∧
    s.oldTss k ≠ s.oldRights ∧ s.oldTss k ≠ n.newRights ∧ n.newTss k ≠ s.oldRights ∧ n.newTss k ≠ n.newRights ∧
    ∀ j < 44, s.oldTss k ≠ n.newTss j) ∧
  s.kindAt s.oldRights = .ram ∧ s.kindAt n.newRights = .ram ∧ s.oldRights ≠ n.newRights

/-! ### Strings -/

/-- What follows one element `t` of the string instruction `i` executed in `s` (44_string.md R435 to R437): without a
repeat prefix nothing; with one, CX counts down, and while iterations remain IP is that of the first prefix byte, and the
instruction is held. `compare` is for CMPS and SCAS, which stop on ZF too. -/
def State.repeatedAfter (s : State) (i : Instr) (compare : Bool) (t : State) : State :=
  match s.pfx.rep with
  | none => t
  | some p =>
    if s.gpr.cx = 0 then s
    else
      let u := t.setReg16 .cx (t.gpr.cx - 1)
      if u.gpr.cx = 0 ∨ (compare = true ∧ u.flag .zf ≠ (p == .rep)) then u
      else { u with ip := u.curIP, ipPast := false, repeating := some ⟨i, s.pfx, s.ip, s.ipPast⟩ }

/-! ### ENTER -/

/-- ENTER's display copied: BP moves down and the word there is pushed (46_extended.md R480). -/
def State.displayed : Nat → State → State
  | 0, s => s
  | k + 1, s =>
    let t := s.setReg16 .bp (s.gpr.bp - 2)
    ((t.after16 (t.ss.lin t.gpr.bp)).pushed (t.mem16 (t.ss.lin t.gpr.bp))).displayed k

/-! ### The 80287 -/

/-- The bits of a numeric operand. -/
def State.operand (s : State) (k : Nat) (ea : Ea) : Nat := wordsValue (s.operandWords k ea)

/-- Words stored at ascending offsets of a segment. -/
def State.stored (r : SegReg) : Nat → List Word → State → State
  | _, [], s => s
  | off, w :: rest, s => State.stored r (off + 2) rest (s.setMem16 ((s.seg r).lin (BitVec.ofNat 16 off)) w)

/-- Words stored at a numeric operand, addressed in `s`. -/
def State.storedAt (s t : State) (ea : Ea) (ws : List Word) : State :=
  State.stored (s.eaSeg ea) (s.eaOff ea).toNat ws t

/-- A numeric operation run in a state: the 80287 and the draws change, and nothing else. -/
def State.computed {α : Type} (s : State) (x : N α) : State :=
  { s with npx := (x.runFrom s.npx s.undef).2.npx, undef := (x.runFrom s.npx s.undef).2.undef }

/-- The value a numeric operation answers, or none if an unmasked exception ended it. -/
def State.answered {α : Type} (s : State) (x : N α) : Option α := (x.runFrom s.npx s.undef).1

/-- A numeric instruction with a memory operand of `k` words can run. -/
def State.escReadOk (s : State) (k : Nat) (ea : Ea) : Bool :=
  s.escOk true && s.npxPresent && s.readOk (s.eaSeg ea) (s.eaOff ea) (2 * k)

/-- A numeric instruction that stores `k` words can run. -/
def State.escWriteOk (s : State) (check : Bool) (k : Nat) (ea : Ea) : Bool :=
  s.escOk check && s.npxPresent && s.writeOk (s.eaSeg ea) (s.eaOff ea) (2 * k)

/-- An ESC with an operand of `k` words completes: the pointers are latched and the operation runs on the operand. -/
def State.escLoads (s : State) (op : BitVec 11) (ea : Ea) (k : Nat) (x : Nat → N Unit) (i : Instr) : Prop :=
  s.escReadOk k ea = true →
    exec i s = .next (((s.operandRead k ea).latch op (some ea)).computed (x (s.operand k ea))).done

/-- An ESC that stores `k` words completes: the words are stored unless an unmasked exception ended the operation. -/
def State.escStores (s : State) (op : BitVec 11) (ea : Ea) (k : Nat) (x : N Nat) (i : Instr) : Prop :=
  s.escWriteOk true k ea = true →
    let t := s.latch op (some ea)
    exec i s = .next (match t.answered x with
      | none => t.computed x
      | some v => s.storedAt (t.computed x) ea (valueWords k v)).done

/-- The processor extension segment overrun (48_npx_architecture.md R537): vector 9 is delivered in `t`, the state after
the words that were moved, or waits while NMI is masked; of the 80287 only the pointers of `p` are known. -/
def State.overruns (t : State) (p : Npx) (r : Result) : Prop :=
  ∃ (n : Npx) (u : Nat),
    let v := { t with npx := { n with ip := p.ip, op := p.op, opcode := p.opcode }, undef := u }
    (t.nmiMask = false → r = .next (deliver 9 .mp none v)) ∧
    (t.nmiMask = true → r = .next { v with mpPending := true, pfx := Prefixes.none })

/-- The segment of a numeric operand ends after `k` of its words. -/
def State.endsAfter (s : State) (ea : Ea) (k : Nat) : Prop :=
  (s.seg (s.eaSeg ea)).inLimit (s.eaOff ea).toNat (2 * k) = true ∧
    (s.seg (s.eaSeg ea)).inLimit (s.eaOff ea).toNat (2 * k + 2) = false

/-- A numeric store whose operand's segment ends after `k` of its `n` words: the first `k` words are stored and the overrun
follows, unless an unmasked exception ended the operation. -/
def State.storeOverruns (s : State) (op : BitVec 11) (ea : Ea) (n : Nat) (x : N Nat) (i : Instr) : Prop :=
  s.escWriteOk true 1 ea = true → ∀ k < n, s.endsAfter ea k →
    let t := s.latch op (some ea)
    match t.answered x with
    | none => exec i s = .next (t.computed x).done
    | some v => (s.storedAt (t.computed x) ea ((valueWords n v).take k)).overruns (t.computed x).npx (exec i s)

/-- An ESC with no memory operand completes. -/
def State.escRuns (s : State) (op : BitVec 11) (x : N Unit) (i : Instr) : Prop :=
  s.escOk true = true → s.npxPresent = true → exec i s = .next ((s.latch op none).computed x).done

/-- Every numeric exception is masked. -/
def Npx.allMasked (n : Npx) : Bool := n.cw &&& 0x003F == 0x003F

/-- The value of a finite temporary real. -/
def realValue (x : Reg80) : ℚ := (if realSign x then -1 else 1) * (realSig x : ℚ) * 2 ^ (realTrue x - 63)

/-- The value of a magnitude that is exact. -/
def Exact.value (x : Exact) : ℚ := (x.n : ℚ) * 2 ^ x.e

/-! ### What the machine keeps -/

/-- Every reserved field reads as the spec says, memory is canonical, and Real Address Mode is as it is entered:
20_memory.md R80; 10_state.md R47, R52; 48_npx_architecture.md R582; 30_encoding.md R181. -/
structure State.Inv (s : State) : Prop where
  mem : Memory.wf s.mem = true
  msw : s.msw ||| 0x000F = 0xFFFF
  npx : s.npx.fixES = s.npx
  prefixes : s.pfx.count ≤ maxLength
  repeats : ∀ r, s.repeating = some r → r.pfx.count ≤ maxLength
  realLevel : s.pe = false → s.cpl = 0
  realSegs : s.pe = false → ∀ r, (s.seg r).valid = true ∧ (s.seg r).rm = true ∧ (s.seg r).limit = 0xFFFF

/-- A result that is a next state with a property. -/
def goesTo (r : Result) (P : State → Prop) : Prop := ∃ t, r = .next t ∧ P t

/-! ### RESET -/

/-- `t` is as RESET leaves a machine: 10_state.md R77 and R78. What the CPU does not touch is as in `s`, and memory and what
devices have seen are as in `u`. -/
structure State.resetFrom (t s u : State) : Prop where
  cpu : t.flags.word = 0x0002 ∧ t.msw = 0xFFF0 ∧ t.ip = 0xFFF0 ∧ t.cs = State.reset.cs ∧ t.ss = State.reset.ss ∧
    t.ds = State.reset.ds ∧ t.es = State.reset.es ∧ t.cpl = 0 ∧ t.idtr = State.reset.idtr ∧ t.run = .running ∧
    t.ldtr.valid = false ∧ t.tr.valid = false
  latches : t.nmiMask = false ∧ t.nmiPending = false ∧ t.mpPending = false ∧ t.inhibit = false ∧ t.stiShadow = false ∧
    t.stepPending = false ∧ t.stale = [] ∧ t.pfx = Prefixes.none ∧ t.repeating = none
  platform : t.memMap = s.memMap ∧ t.npxPresent = s.npxPresent ∧ t.mem = u.mem ∧ t.io = u.io
  npx : t.npx.cw = 0x037F ∧ t.npx.tw = 0xFFFF ∧ t.npx.sw.word &&& 0xB8FF = 0 ∧ t.npx.protectedMode = false ∧
    (∀ k, t.npx.reg k = s.npx.reg k) ∧ t.npx.ip = s.npx.ip ∧ t.npx.op = s.npx.op ∧ t.npx.opcode = s.npx.opcode

/-! ### Boundaries -/

/-- A boundary at which a step begins: no prefix is pending, and the boundary has not been run. -/
def State.boundaryNext (s : State) : Bool :=
  (s.pfx.count == 0 || s.run == .halted) && !s.boundaryDone && s.run != .shutdown

/-- What a step that takes an event at a boundary sees of the state: the latches are spent (60_exceptions.md R734). -/
def State.atEvent (s : State) : State := { s with clock := s.clock + 1, bus := [] }.atBoundary

/-! ### Classes of instructions -/

/-- ESC instructions: first byte D8H to DFH (30_encoding.md R201). -/
def isEsc (i : Instr) : Bool :=
  match encode i with
  | [] => false
  | b :: _ => b.extractLsb' 3 5 == 0b11011

end Sys2Proof.Machine
end

