-- ==== Sys2Proof/Laws/Ops.lean ====
section
/-! SUPPORT. What each shared operation can do: how an instruction rule runs, and one equation for every checked
reference, stack operation and operand form. -/

namespace Sys2Proof.Machine

/-! ### Running an instruction rule -/

@[simp] theorem run_pure {α : Type} (a : α) (s : State) : (pure a : M α).run s = .ok a s := rfl
@[simp] theorem run_get (s : State) : (get : M State).run s = .ok s s := rfl
@[simp] theorem run_set (t s : State) : (set t : M PUnit).run s = .ok ⟨⟩ t := rfl
@[simp] theorem run_modify (f : State → State) (s : State) : (modify f : M PUnit).run s = .ok ⟨⟩ (f s) := rfl
@[simp] theorem run_raise {α : Type} (a : Abort) (s : State) : (raise a : M α).run s = .error a s := rfl

theorem run_bind {α β : Type} (m : M α) (f : α → M β) (s : State) :
    (m >>= f).run s = match m.run s with
      | .ok a s' => (f a).run s'
      | .error e s' => .error e s' := by
  simp only [EStateM.run, bind, EStateM.bind]
  cases m s <;> rfl

theorem run_bind_ok {α β : Type} {m : M α} {f : α → M β} {s s' : State} {a : α} (h : m.run s = .ok a s') :
    (m >>= f).run s = (f a).run s' := by rw [run_bind, h]

theorem run_bind_error {α β : Type} {m : M α} {f : α → M β} {s s' : State} {e : Abort} (h : m.run s = .error e s') :
    (m >>= f).run s = .error e s' := by rw [run_bind, h]

theorem run_map {α β : Type} (g : α → β) (m : M α) (s : State) :
    (g <$> m).run s = match m.run s with
      | .ok a s' => .ok (g a) s'
      | .error e s' => .error e s' := by
  simp only [EStateM.run, Functor.map, EStateM.map]
  cases m s <;> rfl

@[simp] theorem run_get_bind {β : Type} (f : State → M β) (s : State) : (get >>= f).run s = (f s).run s := rfl
@[simp] theorem run_set_bind {β : Type} (t : State) (f : PUnit → M β) (s : State) :
    ((set t : M PUnit) >>= f).run s = (f ⟨⟩).run t := rfl
@[simp] theorem run_modify_bind {β : Type} (g : State → State) (f : PUnit → M β) (s : State) :
    ((modify g : M PUnit) >>= f).run s = (f ⟨⟩).run (g s) := rfl
@[simp] theorem run_pure_bind {α β : Type} (a : α) (f : α → M β) (s : State) :
    ((pure a : M α) >>= f).run s = (f a).run s := rfl

theorem run_ite {α : Type} (c : Prop) [Decidable c] (m k : M α) (s : State) :
    (if c then m else k).run s = if c then m.run s else k.run s := by split <;> rfl

/-- A test passes, or the rule is abandoned with the state as it is. -/
theorem require_run (ok : Bool) (a : Abort) (s : State) :
    (require ok a).run s = if ok = true then .ok () s else .error a s := by
  cases ok <;> rfl

@[simp] theorem require_true (a : Abort) (s : State) : (require true a).run s = .ok () s := rfl
@[simp] theorem require_false (a : Abort) (s : State) : (require false a).run s = .error a s := rfl

theorem require_bind {β : Type} (ok : Bool) (a : Abort) (f : Unit → M β) (s : State) :
    (require ok a >>= f).run s = if ok = true then (f ()).run s else .error a s := by
  cases ok <;> rfl

/-! ### A complete instruction -/

/-- An instruction with no LOCK prefix, or with the privilege for one, whose rule completes. -/
theorem runInstr_ok {body : M Unit} {s t : State} (hl : (!s.pfx.lock || s.ioAllowed) = true)
    (h : body.run s = .ok () t) : runInstr body s = .next { t with pfx := Prefixes.none } := by
  unfold runInstr
  rw [require_bind, if_pos hl, h]

/-- An instruction whose rule is abandoned. -/
theorem runInstr_error {body : M Unit} {s t : State} {a : Abort} (hl : (!s.pfx.lock || s.ioAllowed) = true)
    (h : body.run s = .error a t) : runInstr body s = .next (takeAbort a t) := by
  unfold runInstr
  rw [require_bind, if_pos hl, h]

/-- A complete instruction always answers a next state. -/
theorem runInstr_next (body : M Unit) (s : State) : ∃ t, runInstr body s = .next t := by
  unfold runInstr
  split
  · exact ⟨_, rfl⟩
  · exact ⟨_, rfl⟩

/-! ### Checked references -/

theorem checkRead_run (r : SegReg) (off : Word) (n : Nat) (s : State) :
    (checkRead r off n).run s = if s.readOk r off n = true then .ok () s else .error (violation s r) s :=
  require_run _ _ s

theorem checkWrite_run (r : SegReg) (off : Word) (n : Nat) (s : State) :
    (checkWrite r off n).run s = if s.writeOk r off n = true then .ok () s else .error (violation s r) s :=
  require_run _ _ s

/-- A read of the bus: the value, and the trace it leaves where no memory stands (20_memory.md R88). -/
@[simp] theorem load8_run (a : PhysAddr) (s : State) : (load8 a).run s = .ok (s.mem8 a) (s.after8 a) := rfl
@[simp] theorem load16_run (a : PhysAddr) (s : State) : (load16 a).run s = .ok (s.mem16 a) (s.after16 a) := rfl
@[simp] theorem loadWords_run (as : List PhysAddr) (s : State) :
    (loadWords as).run s = .ok (s.words as) (s.afterWords as) := rfl

theorem readSeg8_run (r : SegReg) (off : Word) (s : State) :
    (readSeg8 r off).run s = if s.readOk r off 1 = true then
        .ok (s.mem8 ((s.seg r).lin off)) (s.after8 ((s.seg r).lin off))
      else .error (violation s r) s := by
  unfold readSeg8
  rw [run_bind, checkRead_run]
  split_ifs <;> rfl

theorem readSeg16_run (r : SegReg) (off : Word) (s : State) :
    (readSeg16 r off).run s = if s.readOk r off 2 = true then
        .ok (s.mem16 ((s.seg r).lin off)) (s.after16 ((s.seg r).lin off))
      else .error (violation s r) s := by
  unfold readSeg16
  rw [run_bind, checkRead_run]
  split_ifs <;> rfl

theorem writeSeg8_run (r : SegReg) (off : Word) (v : Byte) (s : State) :
    (writeSeg8 r off v).run s = if s.writeOk r off 1 = true then .ok () (s.setMem8 ((s.seg r).lin off) v)
      else .error (violation s r) s := by
  unfold writeSeg8
  rw [run_bind, checkWrite_run]
  split_ifs <;> rfl

theorem writeSeg16_run (r : SegReg) (off : Word) (v : Word) (s : State) :
    (writeSeg16 r off v).run s = if s.writeOk r off 2 = true then .ok () (s.setMem16 ((s.seg r).lin off) v)
      else .error (violation s r) s := by
  unfold writeSeg16
  rw [run_bind, checkWrite_run]
  split_ifs <;> rfl

/-- InLimit of a part of an operand that is inside. -/
theorem inLimit_part {c : SegCache} {off n k m : Nat} (h : c.inLimit off n = true) (hm : k + m ≤ n) :
    c.inLimit (off + k) m = true := by
  unfold SegCache.inLimit at *
  split at h <;> simp_all <;> omega

/-- An operand that is inside its segment does not wrap: the offset of its parts. -/
theorem inLimit_offset {c : SegCache} {off : Word} {n k : Nat} (h : c.inLimit off.toNat n = true) (hk : k < n) :
    (off + BitVec.ofNat 16 k).toNat = off.toNat + k := by
  have hl := c.limit.isLt
  have ho := off.isLt
  have : off.toNat + k < 65536 := by
    unfold SegCache.inLimit at h
    split at h <;> simp_all <;> omega
  rw [BitVec.toNat_add, BitVec.toNat_ofNat]
  omega

theorem readOk_part {s : State} {r : SegReg} {off : Word} {n k m : Nat} (h : s.readOk r off n = true)
    (hk : k < n) (hm : k + m ≤ n) : s.readOk r (off + BitVec.ofNat 16 k) m = true := by
  simp only [State.readOk, Bool.and_eq_true] at *
  exact ⟨h.1, by rw [inLimit_offset h.2 hk]; exact inLimit_part h.2 hm⟩

theorem writeOk_part {s : State} {r : SegReg} {off : Word} {n k m : Nat} (h : s.writeOk r off n = true)
    (hk : k < n) (hm : k + m ≤ n) : s.writeOk r (off + BitVec.ofNat 16 k) m = true := by
  simp only [State.writeOk, Bool.and_eq_true] at *
  exact ⟨h.1, by rw [inLimit_offset h.2 hk]; exact inLimit_part h.2 hm⟩

/-- What a read leaves does not matter to the tests. -/
theorem readOk_after16 (s : State) (a : PhysAddr) (r : SegReg) (off : Word) (n : Nat) :
    (s.after16 a).readOk r off n = s.readOk r off n := by
  unfold State.readOk
  rw [after16_seg]

/-- A pair of words: both, the first one first, or the violation. -/
theorem readPair_run (r : SegReg) (off : Word) (s : State) :
    (readPair r off).run s =
      if s.readOk r off 4 = true then
        let a := (s.seg r).lin off
        let b := (s.seg r).lin (off + 2)
        .ok (s.mem16 a, (s.after16 a).mem16 b) ((s.after16 a).after16 b)
      else .error (violation s r) s := by
  unfold readPair
  rw [run_bind, checkRead_run]
  split_ifs with h4
  · have h0 : s.readOk r off 2 = true := by simpa using readOk_part (k := 0) (m := 2) h4 (by omega) (by omega)
    have h2 : s.readOk r (off + 2) 2 = true := readOk_part (k := 2) (m := 2) h4 (by omega) (by omega)
    show (readSeg16 r off >>= fun a => readSeg16 r (off + 2) >>= fun b => pure (a, b)).run s = _
    rw [run_bind, readSeg16_run, if_pos h0]
    show (readSeg16 r (off + 2) >>= fun b => pure (_, b)).run (s.after16 _) = _
    rw [run_bind, readSeg16_run, readOk_after16, if_pos h2, after16_seg]
    rfl
  · rfl

/-! ### The stack -/

/-- Push16 when the word fits: SP moves down and the word is stored (20_memory.md R124). -/
theorem push16_ok {s : State} (v : Word) (h1 : (!s.pe && s.gpr.sp == 1) = false)
    (h2 : s.stackOk (s.gpr.sp - 2) 2 = true) :
    (push16 v).run s = .ok () ((s.setMem16 (s.ss.lin (s.gpr.sp - 2)) v).setReg16 .sp (s.gpr.sp - 2)) := by
  unfold push16
  rw [run_get_bind, h1, if_neg Bool.false_ne_true, require_bind, h2]
  rfl

/-- Push16 that violates the stack segment: nothing changes. -/
theorem push16_fault {s : State} (v : Word) (h1 : (!s.pe && s.gpr.sp == 1) = false)
    (h2 : s.stackOk (s.gpr.sp - 2) 2 = false) : (push16 v).run s = .error (violation s .ss) s := by
  unfold push16
  rw [run_get_bind, h1, if_neg Bool.false_ne_true, require_bind, h2]
  rfl

/-- A push through SP = 1 in Real Address Mode shuts down (20_memory.md R127). -/
theorem push16_shutdown {s : State} (v : Word) (h1 : (!s.pe && s.gpr.sp == 1) = true) :
    (push16 v).run s = .error .shutdown s := by
  unfold push16
  rw [run_get_bind, h1, if_pos rfl]
  rfl

theorem pop16_run (s : State) :
    pop16.run s = if s.stackOk s.gpr.sp 2 = true then
        .ok s.stackTop (s.topRead.setReg16 .sp (s.gpr.sp + 2))
      else .error (violation s .ss) s := by
  unfold pop16
  rw [run_get_bind, require_bind]
  rfl

/-! ### Operands -/

theorem rd8_run (d : Rm Reg8) (s : State) (h : s.canRead 1 d = true) : (rd8 d).run s = .ok (s.val8 d) (s.read8 d) := by
  cases d with
  | reg r => rfl
  | mem ea => simp only [State.canRead] at h; simp [rd8, readSeg8_run, h, State.val8, State.read8]

theorem rd16_run (d : Rm Reg16) (s : State) (h : s.canRead 2 d = true) : (rd16 d).run s = .ok (s.val16 d) (s.read16 d) := by
  cases d with
  | reg r => rfl
  | mem ea => simp only [State.canRead] at h; simp [rd16, readSeg16_run, h, State.val16, State.read16]

theorem wr8_run (d : Rm Reg8) (v : Byte) (s : State) (h : s.canWrite 1 d = true) :
    (wr8 d v).run s = .ok () (s.put8 s d v) := by
  cases d with
  | reg r => rfl
  | mem ea => simp only [State.canWrite] at h; simp [wr8, writeSeg8_run, h, State.put8]

theorem wr16_run (d : Rm Reg16) (v : Word) (s : State) (h : s.canWrite 2 d = true) :
    (wr16 d v).run s = .ok () (s.put16 s d v) := by
  cases d with
  | reg r => rfl
  | mem ea => simp only [State.canWrite] at h; simp [wr16, writeSeg16_run, h, State.put16]

/-- A readable-and-writable cache: writable implies readable. -/
theorem writable_readable {c : SegCache} (h : c.writable = true) : c.readable = true := by
  unfold SegCache.writable SegCache.readable at *
  cases hr : c.rm <;> simp_all

/-- A memory operand that passes the write test passes the read test (20_memory.md R114). -/
theorem writeOk_readOk {s : State} {r : SegReg} {off : Word} {n : Nat} (h : s.writeOk r off n = true) :
    s.readOk r off n = true := by
  simp only [State.writeOk, State.readOk, Bool.and_eq_true] at *
  exact ⟨⟨h.1.1, writable_readable h.1.2⟩, h.2⟩

theorem checkModify_ok (lost : M Unit) (r : SegReg) (off : Word) (n : Nat) (s : State)
    (h : s.writeOk r off n = true) : (checkModify lost r off n).run s = .ok () s := by
  have hw : (s.seg r).writable = true := by
    simp only [State.writeOk, Bool.and_eq_true] at h; exact h.1.2
  unfold checkModify
  simp [hw, checkWrite_run, h]

/-- A byte operand replaced: it is read once, `f` runs on its value, then the result is stored where the operand was. -/
theorem modify8_run (lost : M Unit) (d : Rm Reg8) (f : Byte → M Byte) (s t : State) (v : Byte)
    (h : s.canWrite 1 d = true) (hf : (f (s.val8 d)).run (s.read8 d) = .ok v t) :
    (modify8 lost d f).run s = .ok () (s.put8 t d v) := by
  cases d with
  | reg r =>
    show (f (s.val8 (.reg r)) >>= fun v => modify fun s => s.setReg8 r v).run (s.read8 (.reg r)) = _
    rw [run_bind_ok hf]
    rfl
  | mem ea =>
    simp only [State.canWrite] at h
    simp only [modify8, run_get_bind]
    rw [run_bind_ok (checkModify_ok lost _ _ _ s h)]
    show (f (s.val8 (.mem ea)) >>= fun v =>
      modify fun t => t.setMem8 ((s.seg (s.eaSeg ea)).lin (s.eaOff ea)) v).run (s.read8 (.mem ea)) = _
    rw [run_bind_ok hf]
    rfl

/-- A word operand replaced. -/
theorem modify16_run (lost : M Unit) (d : Rm Reg16) (f : Word → M Word) (s t : State) (v : Word)
    (h : s.canWrite 2 d = true) (hf : (f (s.val16 d)).run (s.read16 d) = .ok v t) :
    (modify16 lost d f).run s = .ok () (s.put16 t d v) := by
  cases d with
  | reg r =>
    show (f (s.val16 (.reg r)) >>= fun v => modify fun s => s.setReg16 r v).run (s.read16 (.reg r)) = _
    rw [run_bind_ok hf]
    rfl
  | mem ea =>
    simp only [State.canWrite] at h
    simp only [modify16, run_get_bind]
    rw [run_bind_ok (checkModify_ok lost _ _ _ s h)]
    show (f (s.val16 (.mem ea)) >>= fun v =>
      modify fun t => t.setMem16 ((s.seg (s.eaSeg ea)).lin (s.eaOff ea)) v).run (s.read16 (.mem ea)) = _
    rw [run_bind_ok hf]
    rfl

/-! ### Undefined values -/

@[simp] theorem drawBit_run (s : State) : drawBit.run s = .ok (Config.undefBit s.undef) { s with undef := s.undef + 1 } := rfl
@[simp] theorem draw16_run (s : State) : draw16.run s = .ok (Config.undef16 s.undef) { s with undef := s.undef + 1 } := rfl

/-- A flag that becomes undefined: the next draw, and nothing else. -/
@[simp] theorem undefFlag_run (f : Flag) (s : State) :
    (undefFlag f).run s = .ok () ({ s with undef := s.undef + 1 }.setFlag f (Config.undefBit s.undef)) := rfl

/-! ### Transfers -/

/-- NearTransfer (43_control_transfer.md R340). -/
theorem nearTransfer_run (t : Word) (s : State) :
    (nearTransfer t).run s = if (!s.pe || decide (t.toNat ≤ s.cs.limit.toNat)) = true then .ok () (s.jump t)
      else .error (.gp 0) s := by
  unfold nearTransfer
  rw [run_get_bind, require_bind]
  rfl

end Sys2Proof.Machine
end

