-- ==== Sys2Proof/Laws/Keeps.lean ====
section
/-! SUPPORT. Properties of the state that the operations keep: a property closed under the primitive updates is kept by
every shared operation, by every delivery of an exception, and by the task switch. -/

namespace Sys2Proof.Machine

/-- However the rule ends, the property still holds. -/
structure Keeps {α : Type} (P : State → Prop) (m : M α) : Prop where
  after : ∀ s, P s → match m.run s with
    | .ok _ t => P t
    | .error _ t => P t

/-- Closed under the primitive updates of the CPU. -/
structure Closed (P : State → Prop) : Prop where
  book : ∀ s gpr ip ipPast inhibit sti nmiMask nmiP mpP stepP run curIP stale undef gdtr idtr, P s →
    P { s with gpr := gpr, ip := ip, ipPast := ipPast, inhibit := inhibit, stiShadow := sti, nmiMask := nmiMask
               nmiPending := nmiP, mpPending := mpP, stepPending := stepP, run := run, curIP := curIP
               stale := stale, undef := undef, gdtr := gdtr, idtr := idtr }
  noPrefix : ∀ s, P s → P { s with pfx := Prefixes.none }
  noRepeat : ∀ s, P s → P { s with repeating := none }
  repeats : ∀ s i, P s → P { s with repeating := some ⟨i, s.pfx, s.ip, s.ipPast⟩ }
  read8 : ∀ s a, P s → P (s.after8 a)
  reads : ∀ s as, P s → P (s.afterWords as)
  port : ∀ s e, P s → P (s.port e)
  mem8 : ∀ s a v, P s → P (s.setMem8 a v)
  mem16 : ∀ s a v, P s → P (s.setMem16 a v)
  flag : ∀ s f b, P s → P (s.setFlag f b)
  popFlags : ∀ s (u : State) w, P s → P { s with flags := u.popFlags w }
  realSeg : ∀ s r sel, P s → s.pe = false → P (s.setSeg r (realSeg sel))
  realFar : ∀ s sel off, P s → s.pe = false → P (s.realFar sel off)
  protSeg : ∀ s r c, P s → s.pe = true → P (s.setSeg r c)
  cpl : ∀ s c, P s → s.pe = true → P { s with cpl := c }
  ldtr : ∀ s t, P s → P { s with ldtr := t }
  tr : ∀ s t, P s → P { s with tr := t }
  enterTask : ∀ s k sel n ws, P s → s.pe = true → P (s.enterTask k sel n ws)

namespace Keeps

variable {P : State → Prop} {α β : Type}

theorem pure (a : α) : Keeps P (Pure.pure a : M α) := ⟨fun _ h => h⟩
theorem raise (a : Abort) : Keeps P (Machine.raise a : M α) := ⟨fun _ h => h⟩

theorem bind {m : M α} {f : α → M β} (hm : Keeps P m) (hf : ∀ a, Keeps P (f a)) : Keeps P (m >>= f) := by
  refine ⟨fun s hs => ?_⟩
  rw [run_bind]
  have := hm.after s hs
  cases h : m.run s with
  | ok a t => rw [h] at this; exact (hf a).after t this
  | error e t => rw [h] at this; exact this

theorem get_bind {f : State → M β} (hf : ∀ s, Keeps P (f s)) : Keeps P (get >>= f) :=
  ⟨fun s hs => (hf s).after s hs⟩

/-- The state read is the state the property holds of. -/
theorem get_bind' {f : State → M β} (hf : ∀ s, P s → Keeps P (f s)) : Keeps P (get >>= f) :=
  ⟨fun s hs => (hf s hs).after s hs⟩

theorem mod {f : State → State} (hf : ∀ s, P s → P (f s)) : Keeps P (modify f : M PUnit) :=
  ⟨fun s hs => hf s hs⟩

theorem set_bind {t : State} {f : PUnit → M β} (ht : P t) (hf : Keeps P (f ⟨⟩)) : Keeps P ((set t : M PUnit) >>= f) :=
  ⟨fun _ _ => hf.after t ht⟩

theorem ite {c : Prop} [Decidable c] {m k : M α} (hm : Keeps P m) (hk : Keeps P k) :
    Keeps P (if c then m else k) := by split <;> assumption

theorem require (ok : Bool) (a : Abort) : Keeps P (Machine.require ok a) := by
  cases ok
  · exact raise a
  · exact pure ()

theorem weaken {Q : State → Prop} {m : M α} (hm : Keeps (fun s => P s ∧ Q s) m) (s : State) (hp : P s) (hq : Q s) :
    match m.run s with
    | .ok _ t => P t
    | .error _ t => P t := by
  have := hm.after s ⟨hp, hq⟩
  split <;> simp_all

/-- A rule that goes by the mode. -/
theorem get_mode {A B : State → M β} (ht : ∀ s, Keeps (fun t => P t ∧ t.pe = true) (A s))
    (hf : ∀ s, Keeps (fun t => P t ∧ t.pe = false) (B s)) :
    Keeps P (get >>= fun s => if s.pe = true then A s else B s) := by
  refine ⟨fun s hs => ?_⟩
  rw [run_get_bind, run_ite]
  by_cases hp : s.pe = true
  · rw [if_pos hp]
    exact weaken (ht s) s hs hp
  · rw [if_neg hp]
    exact weaken (hf s) s hs (by simpa using hp)

end Keeps

theorem pe_setSeg (s : State) (r : SegReg) (c : SegCache) : (s.setSeg r c).pe = s.pe := by cases r <;> rfl
theorem withBit_getLsbD (w : Word) (i j : Nat) (b : Bool) (hj : j ≠ i) :
    (withBit w i b).getLsbD j = w.getLsbD j := by
  unfold withBit
  split
  · simp [BitVec.getLsbD_twoPow]; omega
  · simp [BitVec.getLsbD_twoPow]
    intro h
    exact ⟨BitVec.lt_of_getLsbD h, by omega⟩

theorem pe_enterTask (s : State) (k : SwitchKind) (sel : Word) (n : Desc) (ws : List Word) :
    (s.enterTask k sel n ws).pe = s.pe :=
  withBit_getLsbD s.msw 3 0 true (by omega)

/-- A closed property, with Protected Mode. -/
theorem Closed.prot {P : State → Prop} (h : Closed P) : Closed fun s => P s ∧ s.pe = true where
  book s _ _ _ _ _ _ _ _ _ _ _ _ _ _ _ hs := ⟨h.book s _ _ _ _ _ _ _ _ _ _ _ _ _ _ _ hs.1, hs.2⟩
  noPrefix s hs := ⟨h.noPrefix s hs.1, hs.2⟩
  noRepeat s hs := ⟨h.noRepeat s hs.1, hs.2⟩
  repeats s i hs := ⟨h.repeats s i hs.1, hs.2⟩
  read8 s a hs := ⟨h.read8 s a hs.1, hs.2⟩
  reads s as hs := ⟨h.reads s as hs.1, hs.2⟩
  port s e hs := ⟨h.port s e hs.1, hs.2⟩
  mem8 s a v hs := ⟨h.mem8 s a v hs.1, hs.2⟩
  mem16 s a v hs := ⟨h.mem16 s a v hs.1, hs.2⟩
  flag s f b hs := ⟨h.flag s f b hs.1, hs.2⟩
  popFlags s u w hs := ⟨h.popFlags s u w hs.1, hs.2⟩
  realSeg s r sel hs hf := ⟨h.realSeg s r sel hs.1 hf, by rw [pe_setSeg]; exact hs.2⟩
  realFar s sel off hs hf := ⟨h.realFar s sel off hs.1 hf, hs.2⟩
  protSeg s r c hs ht := ⟨h.protSeg s r c hs.1 ht, by rw [pe_setSeg]; exact hs.2⟩
  cpl s c hs ht := ⟨h.cpl s c hs.1 ht, hs.2⟩
  ldtr s t hs := ⟨h.ldtr s t hs.1, hs.2⟩
  tr s t hs := ⟨h.tr s t hs.1, hs.2⟩
  enterTask s k sel n ws hs ht := ⟨h.enterTask s k sel n ws hs.1 ht, by rw [pe_enterTask]; exact hs.2⟩

/-- A closed property, with Real Address Mode. -/
theorem Closed.real {P : State → Prop} (h : Closed P) : Closed fun s => P s ∧ s.pe = false where
  book s _ _ _ _ _ _ _ _ _ _ _ _ _ _ _ hs := ⟨h.book s _ _ _ _ _ _ _ _ _ _ _ _ _ _ _ hs.1, hs.2⟩
  noPrefix s hs := ⟨h.noPrefix s hs.1, hs.2⟩
  noRepeat s hs := ⟨h.noRepeat s hs.1, hs.2⟩
  repeats s i hs := ⟨h.repeats s i hs.1, hs.2⟩
  read8 s a hs := ⟨h.read8 s a hs.1, hs.2⟩
  reads s as hs := ⟨h.reads s as hs.1, hs.2⟩
  port s e hs := ⟨h.port s e hs.1, hs.2⟩
  mem8 s a v hs := ⟨h.mem8 s a v hs.1, hs.2⟩
  mem16 s a v hs := ⟨h.mem16 s a v hs.1, hs.2⟩
  flag s f b hs := ⟨h.flag s f b hs.1, hs.2⟩
  popFlags s u w hs := ⟨h.popFlags s u w hs.1, hs.2⟩
  realSeg s r sel hs hf := ⟨h.realSeg s r sel hs.1 hf, by rw [pe_setSeg]; exact hs.2⟩
  realFar s sel off hs hf := ⟨h.realFar s sel off hs.1 hf, hs.2⟩
  protSeg s r c hs ht := ⟨h.protSeg s r c hs.1 ht, by rw [pe_setSeg]; exact hs.2⟩
  cpl s c hs ht := ⟨h.cpl s c hs.1 ht, hs.2⟩
  ldtr s t hs := ⟨h.ldtr s t hs.1, hs.2⟩
  tr s t hs := ⟨h.tr s t hs.1, hs.2⟩
  enterTask s k sel n ws hs ht := ⟨h.enterTask s k sel n ws hs.1 ht, by rw [pe_enterTask]; exact hs.2⟩

namespace Closed

variable {P : State → Prop}

/-! ### Primitive updates -/

theorem gpr (h : Closed P) {s : State} (g : Gprs) (hs : P s) : P { s with gpr := g } :=
  h.book s g _ _ _ _ _ _ _ _ _ _ _ _ _ _ hs

theorem reg16 (h : Closed P) {s : State} (r : Reg16) (v : Word) (hs : P s) : P (s.setReg16 r v) := h.gpr _ hs
theorem reg8 (h : Closed P) {s : State} (r : Reg8) (v : Byte) (hs : P s) : P (s.setReg8 r v) := h.gpr _ hs

theorem drawn (h : Closed P) {s : State} (n : Nat) (hs : P s) : P { s with undef := n } :=
  h.book s _ _ _ _ _ _ _ _ _ _ _ _ n _ _ hs

theorem jump (h : Closed P) {s : State} (t : Word) (hs : P s) : P (s.jump t) :=
  h.book s _ t false _ _ _ _ _ _ _ _ [] _ _ _ hs

theorem status (h : Closed P) {s : State} (f : StatusFlags) (hs : P s) : P (s.setStatus f) :=
  h.flag _ _ _ (h.flag _ _ _ (h.flag _ _ _ (h.flag _ _ _ (h.flag _ _ _ (h.flag _ _ _ hs)))))

theorem statusButCarry (h : Closed P) {s : State} (f : StatusFlags) (hs : P s) : P (s.setStatusButCarry f) :=
  h.flag _ _ _ (h.flag _ _ _ (h.flag _ _ _ (h.flag _ _ _ (h.flag _ _ _ hs))))

theorem resultFlags (h : Closed P) {s : State} {n : Nat} (r : BitVec n) (hs : P s) : P (s.setResultFlags r) :=
  h.flag _ _ _ (h.flag _ _ _ (h.flag _ _ _ hs))

theorem advance (h : Closed P) {s : State} (r : Reg16) (n : Word) (hs : P s) : P (s.advance r n) := h.reg16 _ _ hs

/-! ### Shared operations -/

theorem drawBit (h : Closed P) : Keeps P Machine.drawBit :=
  Keeps.get_bind' fun _ hs => Keeps.set_bind (h.drawn _ hs) (Keeps.pure _)

theorem draw16 (h : Closed P) : Keeps P Machine.draw16 :=
  Keeps.get_bind' fun _ hs => Keeps.set_bind (h.drawn _ hs) (Keeps.pure _)

theorem undefFlag (h : Closed P) (f : Flag) : Keeps P (Machine.undefFlag f) :=
  Keeps.bind h.drawBit fun _ => Keeps.mod fun _ hs => h.flag _ _ _ hs

theorem undefFlags (h : Closed P) : ∀ l, Keeps P (Machine.undefFlags l)
  | [] => Keeps.pure _
  | f :: rest => Keeps.bind (h.undefFlag f) fun _ => h.undefFlags rest

theorem checkRead (_h : Closed P) (r : SegReg) (off : Word) (n : Nat) : Keeps P (Machine.checkRead r off n) :=
  Keeps.get_bind fun _ => Keeps.require _ _

theorem checkWrite (_h : Closed P) (r : SegReg) (off : Word) (n : Nat) : Keeps P (Machine.checkWrite r off n) :=
  Keeps.get_bind fun _ => Keeps.require _ _

theorem load8 (h : Closed P) (a : PhysAddr) : Keeps P (Machine.load8 a) :=
  Keeps.get_bind' fun _ hs => Keeps.set_bind (h.read8 _ _ hs) (Keeps.pure _)

theorem load16 (h : Closed P) (a : PhysAddr) : Keeps P (Machine.load16 a) :=
  Keeps.get_bind' fun _ hs => Keeps.set_bind (h.reads _ _ hs) (Keeps.pure _)

theorem loadWords (h : Closed P) (as : List PhysAddr) : Keeps P (Machine.loadWords as) :=
  Keeps.get_bind' fun _ hs => Keeps.set_bind (h.reads _ _ hs) (Keeps.pure _)

theorem stkRead (h : Closed P) (k : Word) : Keeps P (Machine.stkRead k) := Keeps.get_bind fun _ => h.load16 _

theorem readSeg8 (h : Closed P) (r : SegReg) (off : Word) : Keeps P (Machine.readSeg8 r off) :=
  Keeps.bind (h.checkRead r off 1) fun _ => Keeps.get_bind fun _ => h.load8 _

theorem readSeg16 (h : Closed P) (r : SegReg) (off : Word) : Keeps P (Machine.readSeg16 r off) :=
  Keeps.bind (h.checkRead r off 2) fun _ => Keeps.get_bind fun _ => h.load16 _

theorem writeSeg8 (h : Closed P) (r : SegReg) (off : Word) (v : Byte) : Keeps P (Machine.writeSeg8 r off v) :=
  Keeps.bind (h.checkWrite r off 1) fun _ => Keeps.mod fun s hs => h.mem8 s _ _ hs

theorem writeSeg16 (h : Closed P) (r : SegReg) (off : Word) (v : Word) : Keeps P (Machine.writeSeg16 r off v) :=
  Keeps.bind (h.checkWrite r off 2) fun _ => Keeps.mod fun _ hs => h.mem16 _ _ _ hs

theorem readPair (h : Closed P) (r : SegReg) (off : Word) : Keeps P (Machine.readPair r off) :=
  Keeps.bind (h.checkRead r off 4) fun _ => Keeps.bind (h.readSeg16 r off) fun _ =>
    Keeps.bind (h.readSeg16 r (off + 2)) fun _ => Keeps.pure _

theorem push16 (h : Closed P) (v : Word) : Keeps P (Machine.push16 v) :=
  Keeps.get_bind fun _ => Keeps.ite (Keeps.raise _) <|
    Keeps.bind (Keeps.require _ _) fun _ => Keeps.mod fun _ hs => h.reg16 _ _ (h.mem16 _ _ _ hs)

theorem pop16 (h : Closed P) : Keeps P Machine.pop16 :=
  Keeps.get_bind fun _ => Keeps.bind (Keeps.require _ _) fun _ => Keeps.bind (h.load16 _) fun _ =>
    Keeps.bind (Keeps.mod fun _ hs => h.reg16 _ _ hs) fun _ => Keeps.pure _

theorem checkStackRoom (_h : Closed P) (n : Nat) : Keeps P (Machine.checkStackRoom n) :=
  Keeps.get_bind fun _ => Keeps.require _ _

theorem ioPriv (_h : Closed P) : Keeps P Machine.ioPriv := Keeps.get_bind fun _ => Keeps.require _ _

theorem ioCycle (h : Closed P) (p : Word) (wide : Bool) : Keeps P (Machine.ioCycle p wide) :=
  Keeps.get_bind' fun _ hs => Keeps.set_bind (h.port _ _ hs) (Keeps.pure _)

theorem ioRead8 (h : Closed P) (p : Word) : Keeps P (Machine.ioRead8 p) :=
  Keeps.bind (h.ioCycle _ _) fun _ => Keeps.pure _

theorem ioRead16 (h : Closed P) (p : Word) : Keeps P (Machine.ioRead16 p) :=
  Keeps.ite (Keeps.bind (h.ioRead8 _) fun _ => Keeps.bind (h.ioRead8 _) fun _ => Keeps.pure _) (h.ioCycle _ _)

theorem ioWrite8 (h : Closed P) (p : Word) (v : Byte) : Keeps P (Machine.ioWrite8 p v) :=
  Keeps.mod fun _ hs => h.port _ _ hs

theorem ioWrite16 (h : Closed P) (p v : Word) : Keeps P (Machine.ioWrite16 p v) :=
  Keeps.ite (Keeps.bind (h.ioWrite8 _ _) fun _ => h.ioWrite8 _ _)
    (Keeps.mod fun _ hs => h.port _ _ hs)

theorem flush (h : Closed P) : Keeps P Machine.flush :=
  Keeps.mod fun s hs => h.book s _ _ _ _ _ _ _ _ _ _ _ _ _ _ _ hs

theorem lookup (h : Closed P) (sel : Word) (a : Abort) : Keeps P (Machine.lookup sel a) := by
  refine Keeps.get_bind' fun s hs => Keeps.set_bind (h.reads _ _ hs) ?_
  cases s.descLookup sel with
  | none => exact Keeps.raise _
  | some d => exact Keeps.pure _

theorem setAccessed (h : Closed P) (d : Desc) : Keeps P (Machine.setAccessed d) := Keeps.mod fun s hs => h.mem8 s _ _ hs

theorem nearTransfer (h : Closed P) (t : Word) : Keeps P (Machine.nearTransfer t) :=
  Keeps.get_bind fun _ => Keeps.bind (Keeps.require _ _) fun _ => Keeps.mod fun _ hs => h.jump _ hs

end Closed

end Sys2Proof.Machine
end

