-- ==== Sys2Proof/Laws/Delivery.lean ====
section
/-! SUPPORT. A closed property is kept by segment loads, far transfers, the task switch, the delivery of exceptions and
interrupts, and the return from one. -/

namespace Sys2Proof.Machine

namespace Closed

variable {P : State → Prop}

/-! ### Loading segment registers -/

theorem loadData (h : Closed P) (r : SegReg) (sel : Word) :
    Keeps (fun s => P s ∧ s.pe = true) (Machine.loadData r sel) := by
  refine Keeps.ite (Keeps.mod fun s hs => h.prot.protSeg s _ _ hs hs.2) ?_
  refine Keeps.bind (h.prot.lookup _ _) fun _ => Keeps.get_bind fun _ => ?_
  refine Keeps.bind (Keeps.require _ _) fun _ => Keeps.bind (Keeps.require _ _) fun _ =>
    Keeps.bind (Keeps.require _ _) fun _ => Keeps.bind (h.prot.setAccessed _) fun _ => ?_
  exact Keeps.mod fun s hs => h.prot.protSeg s _ _ hs hs.2

theorem loadSS (h : Closed P) (sel : Word) : Keeps (fun s => P s ∧ s.pe = true) (Machine.loadSS sel) := by
  refine Keeps.bind (Keeps.require _ _) fun _ => Keeps.bind (h.prot.lookup _ _) fun _ => Keeps.get_bind fun _ => ?_
  refine Keeps.bind (Keeps.require _ _) fun _ => Keeps.bind (Keeps.require _ _) fun _ =>
    Keeps.bind (Keeps.require _ _) fun _ => Keeps.bind (Keeps.require _ _) fun _ =>
    Keeps.bind (h.prot.setAccessed _) fun _ => ?_
  exact Keeps.mod fun s hs => h.prot.protSeg s .ss _ hs hs.2

theorem loadSeg (h : Closed P) (r : SegReg) (sel : Word) : Keeps P (Machine.loadSeg r sel) := by
  refine Keeps.get_mode (fun _ => ?_) fun _ => ?_
  · exact Keeps.ite (h.loadSS sel) (h.loadData r sel)
  · exact Keeps.mod fun s hs => h.real.realSeg s _ _ hs hs.2

theorem loadLDTR (h : Closed P) (sel : Word) : Keeps P (Machine.loadLDTR sel) := by
  refine Keeps.ite (Keeps.mod fun s hs => h.ldtr s _ hs) ?_
  refine Keeps.bind (Keeps.require _ _) fun _ => Keeps.bind (h.lookup _ _) fun _ =>
    Keeps.bind (Keeps.require _ _) fun _ => Keeps.bind (Keeps.require _ _) fun _ => ?_
  exact Keeps.mod fun s hs => h.ldtr s _ hs

theorem loadTR (h : Closed P) (sel : Word) : Keeps P (Machine.loadTR sel) := by
  refine Keeps.bind (Keeps.require _ _) fun _ => Keeps.bind (Keeps.require _ _) fun _ =>
    Keeps.bind (h.lookup _ _) fun _ =>
    Keeps.bind (Keeps.require _ _) fun _ => Keeps.bind (Keeps.require _ _) fun _ => ?_
  exact Keeps.mod fun s hs => h.tr _ _ (h.mem8 s _ _ hs)

/-! ### Transfers -/

theorem loadCS (h : Closed P) (sel : Word) (d : Desc) (cpl : BitVec 2) (off : Word) :
    Keeps (fun s => P s ∧ s.pe = true) (Machine.loadCS sel d cpl off) := by
  refine Keeps.bind (h.prot.setAccessed _) fun _ => Keeps.mod fun s hs => h.prot.jump off ?_
  have h1 := h.prot.protSeg s .cs (d.cache (withRpl sel cpl)) hs hs.2
  exact h.prot.cpl _ cpl h1 h1.2

theorem commitStack (h : Closed P) (sel : Word) (d : Desc) (sp : Word) :
    Keeps (fun s => P s ∧ s.pe = true) (Machine.commitStack sel d sp) := by
  refine Keeps.bind (h.prot.setAccessed _) fun _ => Keeps.mod fun s hs => h.prot.reg16 _ _ ?_
  exact h.prot.protSeg s .ss (d.cache sel) hs hs.2

theorem innerStack (h : Closed P) (n : BitVec 2) (ext : Word) : Keeps P (Machine.innerStack n ext) := by
  refine Keeps.get_bind fun _ => Keeps.bind (Keeps.require _ _) fun _ => ?_
  refine Keeps.bind (h.load16 _) fun _ => Keeps.bind (h.load16 _) fun _ => ?_
  refine Keeps.bind (Keeps.require _ _) fun _ => Keeps.bind (h.lookup _ _) fun _ => ?_
  exact Keeps.bind (Keeps.require _ _) fun _ => Keeps.bind (Keeps.require _ _) fun _ =>
    Keeps.bind (Keeps.require _ _) fun _ => Keeps.bind (Keeps.require _ _) fun _ => Keeps.pure _

theorem revalidate (h : Closed P) (s : State) (r : SegReg) (hs : P s) (hp : s.pe = true) : P (s.revalidate r) := by
  unfold State.revalidate
  extract_lets
  split
  · exact hs
  · split
    · exact hs
    · exact h.protSeg s _ _ hs hp

theorem pe_revalidate (s : State) (r : SegReg) : (s.revalidate r).pe = s.pe := by
  unfold State.revalidate
  extract_lets
  split
  · rfl
  · split
    · rfl
    · exact pe_setSeg _ _ _

/-! ### The task switch -/

theorem saveTask (h : Closed P) (s : State) (k : SwitchKind) (ip : Word) (hs : P s) : P (s.saveTask k ip) := by
  unfold State.saveTask
  repeat' apply h.mem16
  exact hs

theorem linkTask (h : Closed P) (s : State) (k : SwitchKind) (n : Desc) (hs : P s) : P (s.linkTask k n) := by
  unfold State.linkTask
  split
  · exact h.mem16 _ _ _ hs
  · exact h.mem8 _ _ _ (h.read8 _ _ hs)

theorem switchLDT (h : Closed P) : Keeps P Machine.switchLDT := by
  refine Keeps.get_bind fun _ => Keeps.ite (Keeps.pure _) ?_
  refine Keeps.bind (Keeps.require _ _) fun _ => Keeps.bind (h.lookup _ _) fun _ =>
    Keeps.bind (Keeps.require _ _) fun _ => Keeps.bind (Keeps.require _ _) fun _ => ?_
  exact Keeps.mod fun s hs => h.ldtr s _ hs

theorem switchSS (h : Closed P) : Keeps (fun s => P s ∧ s.pe = true) Machine.switchSS := by
  refine Keeps.bind (Keeps.mod fun s hs => h.prot.cpl s _ hs hs.2) fun _ => Keeps.get_bind fun _ => ?_
  refine Keeps.bind (Keeps.require _ _) fun _ => Keeps.bind (h.prot.lookup _ _) fun _ => ?_
  refine Keeps.bind (Keeps.require _ _) fun _ => Keeps.bind (Keeps.require _ _) fun _ =>
    Keeps.bind (Keeps.require _ _) fun _ => Keeps.bind (Keeps.require _ _) fun _ =>
    Keeps.bind (h.prot.setAccessed _) fun _ => ?_
  exact Keeps.mod fun s hs => h.prot.protSeg s .ss _ hs hs.2

theorem switchCS (h : Closed P) : Keeps (fun s => P s ∧ s.pe = true) Machine.switchCS := by
  refine Keeps.get_bind fun _ => Keeps.bind (Keeps.require _ _) fun _ => Keeps.bind (h.prot.lookup _ _) fun _ => ?_
  refine Keeps.bind (Keeps.require _ _) fun _ => Keeps.bind (Keeps.require _ _) fun _ =>
    Keeps.bind (Keeps.require _ _) fun _ => Keeps.bind (h.prot.setAccessed _) fun _ => ?_
  exact Keeps.mod fun s hs => h.prot.protSeg s .cs _ hs hs.2

theorem switchData (h : Closed P) (r : SegReg) : Keeps (fun s => P s ∧ s.pe = true) (Machine.switchData r) := by
  refine Keeps.get_bind fun _ => Keeps.ite (Keeps.pure _) ?_
  refine Keeps.bind (h.prot.lookup _ _) fun _ => ?_
  refine Keeps.bind (Keeps.require _ _) fun _ => Keeps.bind (Keeps.require _ _) fun _ =>
    Keeps.bind (Keeps.require _ _) fun _ => Keeps.bind (h.prot.setAccessed _) fun _ => ?_
  exact Keeps.mod fun s hs => h.prot.protSeg s _ _ hs hs.2

theorem switchTasks (h : Closed P) (sel : Word) (n : Desc) (k : SwitchKind) (ip : Word) :
    Keeps (fun s => P s ∧ s.pe = true) (Machine.switchTasks sel n k ip) := by
  refine Keeps.bind (Keeps.mod fun s hs => h.prot.mem8 s _ _ hs) fun _ => Keeps.get_bind fun _ => ?_
  refine Keeps.bind (Keeps.require _ _) fun _ => Keeps.bind (Keeps.require _ _) fun _ => ?_
  refine Keeps.bind (Keeps.mod fun s hs => h.prot.linkTask _ k n (h.prot.saveTask s k ip hs)) fun _ => ?_
  refine Keeps.bind (h.prot.loadWords _) fun ws => Keeps.bind (Keeps.mod fun s hs => ?_) fun _ => ?_
  · exact h.prot.enterTask _ k sel n ws hs hs.2
  · exact Keeps.bind h.prot.switchLDT fun _ => Keeps.bind h.switchSS fun _ => Keeps.bind h.switchCS fun _ =>
      Keeps.bind (h.switchData .ds) fun _ => Keeps.bind (h.switchData .es) fun _ => h.prot.flush

theorem checkNewIP (_h : Closed P) (ext : Word) : Keeps P (Machine.checkNewIP ext) :=
  Keeps.get_bind fun _ => Keeps.require _ _

theorem availableTss (h : Closed P) (t ext : Word) : Keeps P (Machine.availableTss t ext) :=
  Keeps.bind (Keeps.require _ _) fun _ => Keeps.bind (h.lookup _ _) fun _ =>
    Keeps.bind (Keeps.require _ _) fun _ => Keeps.bind (Keeps.require _ _) fun _ => Keeps.pure _

/-! ### Delivery -/

theorem realEntry (h : Closed P) (n : Byte) (ret : Word) :
    Keeps (fun s => P s ∧ s.pe = false) (Machine.realEntry n ret) := by
  refine Keeps.get_bind fun _ => Keeps.ite (Keeps.raise _) ?_
  refine Keeps.bind (h.real.load16 _) fun _ => Keeps.bind (h.real.load16 _) fun _ => ?_
  refine Keeps.bind (h.real.push16 _) fun _ => Keeps.bind (h.real.push16 _) fun _ =>
    Keeps.bind (h.real.push16 _) fun _ => Keeps.mod fun s hs => ?_
  have h1 := h.real.flag _ .tf false (h.real.flag s .if_ false hs)
  exact h.real.realFar _ _ _ h1 h1.2

theorem deliverReal (h : Closed P) (n : Byte) (k : EventKind) :
    Keeps (fun s => P s ∧ s.pe = false) (Machine.deliverReal n k) :=
  Keeps.get_bind fun _ => Keeps.ite (h.realEntry _ _) (Keeps.ite (Keeps.raise _) (h.realEntry _ _))

theorem gateFlags (h : Closed P) {s : State} (t : BitVec 4) (hs : P s) : P (s.gateFlags t) := by
  unfold State.gateFlags
  split
  · exact h.flag _ _ _ (h.flag _ _ _ (h.flag _ _ _ hs))
  · exact h.flag _ _ _ (h.flag _ _ _ hs)

theorem pushError (h : Closed P) : ∀ ec, Keeps P (Machine.pushError ec)
  | none => Keeps.pure _
  | some _ => h.push16 _

theorem intInner (h : Closed P) (g d : Desc) (ec : Option Word) (ext ret : Word) :
    Keeps (fun s => P s ∧ s.pe = true) (Machine.intInner g d ec ext ret) := by
  refine Keeps.bind (h.prot.innerStack _ _) fun x => ?_
  refine Keeps.bind (Keeps.require _ _) fun _ => Keeps.bind (Keeps.require _ _) fun _ => Keeps.get_bind fun _ => ?_
  refine Keeps.bind (h.commitStack _ _ _) fun _ => Keeps.bind (h.loadCS _ _ _ _) fun _ => ?_
  exact Keeps.bind (h.prot.push16 _) fun _ => Keeps.bind (h.prot.push16 _) fun _ => Keeps.bind (h.prot.push16 _) fun _ =>
    Keeps.bind (h.prot.push16 _) fun _ => Keeps.bind (h.prot.push16 _) fun _ =>
    Keeps.bind (h.prot.pushError _) fun _ => Keeps.mod fun _ hs => h.prot.gateFlags _ hs

theorem intSame (h : Closed P) (g d : Desc) (ec : Option Word) (ext ret : Word) :
    Keeps (fun s => P s ∧ s.pe = true) (Machine.intSame g d ec ext ret) := by
  refine Keeps.get_bind fun _ => Keeps.bind (Keeps.require _ _) fun _ => Keeps.bind (Keeps.require _ _) fun _ => ?_
  exact Keeps.bind (h.prot.push16 _) fun _ => Keeps.bind (h.prot.push16 _) fun _ => Keeps.bind (h.prot.push16 _) fun _ =>
    Keeps.bind (h.loadCS _ _ _ _) fun _ => Keeps.bind (h.prot.pushError _) fun _ =>
    Keeps.mod fun _ hs => h.prot.gateFlags _ hs

theorem intGate (h : Closed P) (g : Desc) (ec : Option Word) (ext ret : Word) :
    Keeps (fun s => P s ∧ s.pe = true) (Machine.intGate g ec ext ret) := by
  refine Keeps.bind (Keeps.require _ _) fun _ => Keeps.bind (h.prot.lookup _ _) fun _ => Keeps.get_bind fun _ => ?_
  refine Keeps.bind (Keeps.require _ _) fun _ => Keeps.bind (Keeps.require _ _) fun _ => ?_
  exact Keeps.ite (h.intInner _ _ _ _ _) (Keeps.ite (h.intSame _ _ _ _ _) (Keeps.raise _))

theorem intTaskGate (h : Closed P) (g : Desc) (ec : Option Word) (ext ret : Word) :
    Keeps (fun s => P s ∧ s.pe = true) (Machine.intTaskGate g ec ext ret) := by
  refine Keeps.bind (h.prot.availableTss _ _) fun _ => Keeps.bind (h.switchTasks _ _ _ _) fun _ => ?_
  cases ec with
  | none => exact h.prot.checkNewIP _
  | some e =>
    exact Keeps.get_bind fun _ => Keeps.bind (Keeps.require _ _) fun _ => Keeps.bind (h.prot.push16 _) fun _ =>
      h.prot.checkNewIP _

theorem deliverProt (h : Closed P) (n : Byte) (k : EventKind) (ec : Option Word) :
    Keeps (fun s => P s ∧ s.pe = true) (Machine.deliverProt n k ec) := by
  refine Keeps.get_bind' fun _ hs => Keeps.bind (Keeps.require _ _) fun _ => Keeps.set_bind (h.prot.reads _ _ hs) ?_
  refine Keeps.bind (Keeps.require _ _) fun _ => ?_
  exact Keeps.bind (Keeps.require _ _) fun _ => Keeps.bind (Keeps.require _ _) fun _ =>
    Keeps.ite (h.intTaskGate _ _ _ _) (h.intGate _ _ _ _)

theorem delivered (h : Closed P) {s : State} (k : EventKind) (hs : P s) : P (s.delivered k) :=
  h.book _ _ _ _ _ _ (if k = .nmi then true else s.nmiMask) _ _ false .running _ [] _ _ _ (h.noRepeat _ (h.noPrefix s hs))

theorem enterShutdown (h : Closed P) {s : State} (hs : P s) : P s.enterShutdown :=
  h.book _ _ s.curIP _ _ _ _ _ _ _ .shutdown _ _ _ _ _ (h.noRepeat _ (h.noPrefix s hs))

theorem doubleFault (h : Closed P) {s : State} (hs : P s) (hp : s.pe = true) :
    P (Machine.doubleFault s) ∧ (Machine.doubleFault s).pe = true := by
  have hd := (h.deliverProt 8 .fault (some 0)).after s ⟨hs, hp⟩
  unfold Machine.doubleFault
  split <;> rename_i e <;> rw [e] at hd
  · exact h.prot.delivered _ hd
  · exact h.prot.enterShutdown hd

theorem deliverFault (h : Closed P) {s : State} (n : Byte) (ec : Option Word) (hs : P s) (hp : s.pe = true) :
    P (Machine.deliverFault n ec s) ∧ (Machine.deliverFault n ec s).pe = true := by
  have hd := (h.deliverProt n .fault ec).after s ⟨hs, hp⟩
  unfold Machine.deliverFault
  split <;> rename_i e <;> rw [e] at hd
  · exact h.prot.delivered _ hd
  · split
    · exact h.prot.enterShutdown hd
    · exact h.doubleFault hd.1 hd.2

theorem secondFault (h : Closed P) {s : State} (k : EventKind) (a : Abort) (hs : P s) (hp : s.pe = true) :
    P (Machine.secondFault k a s) ∧ (Machine.secondFault k a s).pe = true := by
  unfold Machine.secondFault
  split
  · exact h.prot.enterShutdown ⟨hs, hp⟩
  · exact h.deliverFault _ _ hs hp

theorem deliver (h : Closed P) {s : State} (n : Byte) (k : EventKind) (ec : Option Word) (hs : P s) :
    P (Machine.deliver n k ec s) := by
  unfold Machine.deliver
  extract_lets s'
  have hs' : P s' := by
    show P (if k = .software then s else { s with curIP := s.retIP k })
    split
    · exact hs
    · exact h.book s _ _ _ _ _ _ _ _ _ _ (s.retIP k) _ _ _ _ hs
  by_cases hp : s'.pe = true
  · rw [if_pos hp]
    split
    · exact (h.deliverFault _ _ hs' hp).1
    · have hd := (h.deliverProt n k ec).after s' ⟨hs', hp⟩
      split <;> rename_i e <;> rw [e] at hd
      · exact h.delivered _ hd.1
      · exact (h.secondFault _ _ hd.1 hd.2).1
  · rw [if_neg hp]
    have hd := (h.deliverReal n k).after s' ⟨hs', by simpa using hp⟩
    split <;> rename_i e <;> rw [e] at hd
    · exact h.delivered _ hd.1
    · exact h.enterShutdown hd.1

theorem takeAbort (h : Closed P) {s : State} (a : Abort) (hs : P s) : P (Machine.takeAbort a s) := by
  unfold Machine.takeAbort
  split
  · exact h.enterShutdown hs
  · split
    · exact h.book _ _ _ _ _ _ _ _ true _ _ _ _ _ _ _ (h.noPrefix s hs)
    · exact h.deliver _ _ _ hs

/-- A complete instruction keeps what its rule keeps. -/
theorem runInstr (h : Closed P) {body : M Unit} (hb : Keeps P body) {s t : State} (hs : P s)
    (ht : Machine.runInstr body s = .next t) : P t := by
  have hk := Keeps.bind (Keeps.require (!s.pfx.lock || s.ioAllowed) (.gp 0)) (fun _ => hb) |>.after s hs
  unfold Machine.runInstr at ht
  split at ht <;> rename_i e <;> rw [e] at hk <;> injection ht with ht <;> subst ht
  · exact h.noPrefix _ hk
  · exact h.takeAbort _ hk

/-! ### IRET -/

theorem returnCode (h : Closed P) (rs : Word) (rpl : BitVec 2) : Keeps P (Machine.returnCode rs rpl) :=
  Keeps.bind (Keeps.require _ _) fun _ => Keeps.bind (h.lookup _ _) fun _ => Keeps.bind (Keeps.require _ _) fun _ =>
    Keeps.bind (Keeps.require _ _) fun _ => Keeps.bind (Keeps.require _ _) fun _ => Keeps.pure _

theorem returnStack (h : Closed P) (rs : Word) (rpl : BitVec 2) : Keeps P (Machine.returnStack rs rpl) :=
  Keeps.bind (Keeps.require _ _) fun _ => Keeps.bind (h.lookup _ _) fun _ => Keeps.bind (Keeps.require _ _) fun _ =>
    Keeps.bind (Keeps.require _ _) fun _ => Keeps.bind (Keeps.require _ _) fun _ =>
    Keeps.bind (Keeps.require _ _) fun _ => Keeps.pure _

end Closed

end Sys2Proof.Machine
end

