-- ==== Sys2Proof/Laws/Npx.lean ====
section
/-! SUPPORT. The 80287: how a numeric operation runs, and that every one keeps ES a function of the flags and
masks (48_npx_architecture.md R582). -/

namespace Sys2Proof.Machine

/-! ### ES -/

/-- ES stands as the flags and masks say. -/
def Npx.esOk (n : Npx) : Prop := n.sw.es = unmaskedFlag n.sw.exc n.cw

theorem fixES_eq_iff (n : Npx) : n.fixES = n ↔ n.esOk :=
  ⟨fun h => (congrArg (fun m : Npx => m.sw.es) h).symm, fun h => by unfold Npx.fixES; rw [← h]⟩

theorem esOk_fixES (n : Npx) : n.fixES.esOk := rfl

/-- ES computed once stands. -/
theorem fixES_fixES (n : Npx) : n.fixES.fixES = n.fixES := rfl

/-- The status word read from its own image. -/
theorem StatusWord.ofWord_word (w : StatusWord) : StatusWord.ofWord w.word = w := by
  obtain ⟨c3, c2, c1, c0, top, es, bit6, exc⟩ := w
  unfold StatusWord.ofWord StatusWord.word
  congr 1 <;> first
    | (simp only [BitVec.getLsbD_append]; simp; done)
    | (apply BitVec.eq_of_getLsbD_eq
       intro i hi
       simp only [BitVec.getLsbD_extractLsb', BitVec.getLsbD_append]
       interval_cases i <;> simp)

theorem esOk_setTop {n : Npx} (t : BitVec 3) (h : n.esOk) : (n.setTop t).esOk := h

theorem esOk_setReg {n : Npx} (k : BitVec 3) (v : Reg80) (h : n.esOk) : (n.setReg k v).esOk := by
  unfold Npx.setReg
  split_ifs <;> exact h

theorem esOk_setTag {n : Npx} (k : BitVec 3) (t : BitVec 2) (h : n.esOk) : (n.setTag k t).esOk := h

theorem esOk_put {n : Npx} (k : BitVec 3) (v : Reg80) (h : n.esOk) : (n.put k v).esOk :=
  esOk_setTag _ _ (esOk_setReg _ _ h)

theorem esOk_pop {n : Npx} (h : n.esOk) : n.pop.esOk := esOk_setTop _ (esOk_setTag _ _ h)

theorem esOk_push {n : Npx} (v : Reg80) (h : n.esOk) : (n.push v).esOk := esOk_put _ _ (esOk_setTop _ h)

theorem esOk_retag {n : Npx} (h : n.esOk) : n.retag.esOk := h

theorem esOk_flag (n : Npx) (e : NumExc) : (n.flag e).esOk := esOk_fixES _

theorem esOk_setCond {n : Npx} (c3 c2 c1 c0 : Bool) (h : n.esOk) : (n.setCond c3 c2 c1 c0).esOk := h

theorem unmaskedFlag_zero (cw : Word) : unmaskedFlag 0 cw = false := by simp [unmaskedFlag]

theorem esOk_init (n : Npx) (cc : Word) : (n.init cc).esOk := (unmaskedFlag_zero _).symm

/-! ### Running a numeric operation -/

namespace N

theorem runFrom_pure {α : Type} (a : α) (n : Npx) (u : Nat) : N.runFrom (pure a : N α) n u = (some a, ⟨n, u⟩) := rfl
theorem runFrom_failure {α : Type} (n : Npx) (u : Nat) : N.runFrom (failure : N α) n u = (none, ⟨n, u⟩) := rfl
theorem runFrom_theNpx (n : Npx) (u : Nat) : N.runFrom theNpx n u = (some n, ⟨n, u⟩) := rfl
theorem runFrom_changeNpx (f : Npx → Npx) (n : Npx) (u : Nat) :
    N.runFrom (changeNpx f) n u = (some (), ⟨f n, u⟩) := rfl
theorem runFrom_anyReal (n : Npx) (u : Nat) : N.runFrom anyReal n u = (some (Config.undef80 u), ⟨n, u + 1⟩) := rfl
theorem runFrom_anyBit (n : Npx) (u : Nat) : N.runFrom anyBit n u = (some (Config.undefBit u), ⟨n, u + 1⟩) := rfl
theorem runFrom_anyWord (n : Npx) (u : Nat) : N.runFrom anyWord n u = (some (Config.undef16 u), ⟨n, u + 1⟩) := rfl

theorem runFrom_bind {α β : Type} (x : N α) (f : α → N β) (n : Npx) (u : Nat) :
    N.runFrom (x >>= f) n u = match N.runFrom x n u with
      | (some a, t) => N.runFrom (f a) t.npx t.undef
      | (none, t) => (none, t) := by
  unfold N.runFrom
  simp only [OptionT.run_bind]
  rcases h : Id.run (StateT.run x.run ⟨n, u⟩) with ⟨_ | a, t⟩ <;> simp [Option.elimM, h]

end N

/-- However it ends, a numeric operation leaves ES as R582 says. -/
structure KeepsES {α : Type} (x : N α) : Prop where
  after : ∀ n u, n.esOk → (N.runFrom x n u).2.npx.esOk

namespace KeepsES

variable {α β : Type}

theorem pure (a : α) : KeepsES (Pure.pure a : N α) := ⟨fun _ _ h => h⟩
theorem failure : KeepsES (Alternative.failure : N α) := ⟨fun _ _ h => h⟩
theorem theNpx : KeepsES Machine.theNpx := ⟨fun _ _ h => h⟩
theorem anyReal : KeepsES Machine.anyReal := ⟨fun _ _ h => h⟩
theorem anyBit : KeepsES Machine.anyBit := ⟨fun _ _ h => h⟩
theorem anyWord : KeepsES Machine.anyWord := ⟨fun _ _ h => h⟩
theorem change {f : Npx → Npx} (hf : ∀ n : Npx, n.esOk → (f n).esOk) : KeepsES (changeNpx f) :=
  ⟨fun n _ h => hf n h⟩

theorem bind {x : N α} {f : α → N β} (hx : KeepsES x) (hf : ∀ a, KeepsES (f a)) : KeepsES (x >>= f) := by
  refine ⟨fun n u h => ?_⟩
  rw [N.runFrom_bind]
  have := hx.after n u h
  rcases e : N.runFrom x n u with ⟨_ | a, t⟩
  · rw [e] at this; exact this
  · rw [e] at this; exact (hf a).after _ _ this

theorem ite {c : Prop} [Decidable c] {x y : N α} (hx : KeepsES x) (hy : KeepsES y) : KeepsES (if c then x else y) := by
  split <;> assumption

theorem signal (e : NumExc) : KeepsES (Machine.signal e) :=
  bind (change fun n _ => esOk_flag n e) fun _ => bind theNpx fun _ => ite (pure _) failure

theorem signalPrecision (b : Bool) : KeepsES (Machine.signalPrecision b) := by
  refine change fun n h => ?_
  split
  · exact esOk_flag n _
  · exact h

theorem signalIf (c : Bool) (e : NumExc) : KeepsES (Machine.signalIf c e) := ite (signal e) (pure _)
theorem signalUnmasked (c : Bool) (e : NumExc) : KeepsES (Machine.signalUnmasked c e) :=
  bind theNpx fun _ => signalIf _ _

theorem source (i : BitVec 3) : KeepsES (Machine.source i) :=
  bind theNpx fun _ => ite (bind (signal _) fun _ => pure _) (pure _)

theorem putST (i : BitVec 3) (v : Reg80) : KeepsES (Machine.putST i v) := change fun _ h => esOk_put _ _ h
theorem popST : KeepsES Machine.popST := change fun _ h => esOk_pop h
theorem stackRoom : KeepsES Machine.stackRoom :=
  bind theNpx fun _ => ite (bind (signal _) fun _ => pure _) (pure _)
theorem pushST (v : Reg80) : KeepsES (Machine.pushST v) :=
  bind stackRoom fun _ => change fun _ h => esOk_push _ h

theorem overflowResult (b neg : Bool) (sig : Nat) : KeepsES (Machine.overflowResult b neg sig) :=
  bind (change fun n _ => esOk_flag n _) fun _ => bind theNpx fun _ =>
    ite anyReal (bind (signalPrecision _) fun _ => pure _)

theorem underflowResult (neg : Bool) (x : Exact) : KeepsES (Machine.underflowResult neg x) :=
  bind (change fun n _ => esOk_flag n _) fun _ => bind theNpx fun _ =>
    ite (bind anyReal fun _ => pure _) (pure _)

theorem deliverReal80 (p lz : Nat) (neg : Bool) (x : Exact) : KeepsES (Machine.deliverReal80 p lz neg x) :=
  bind theNpx fun _ => ite (overflowResult _ _ _) <|
    ite (bind (underflowResult _ _) fun _ => bind (signalPrecision _) fun _ => pure _)
      (bind (signalPrecision _) fun _ => pure _)

theorem deliverPseudoZero (neg : Bool) (te : Int) : KeepsES (Machine.deliverPseudoZero neg te) :=
  ite (overflowResult _ _ _) (pure _)

theorem invalidResult (v : Reg80) : KeepsES (Machine.invalidResult v) := bind (signal _) fun _ => pure _

theorem loseNpx : KeepsES Machine.loseNpx :=
  bind anyReal fun _ => bind anyReal fun _ => bind anyReal fun _ => bind anyReal fun _ => bind anyReal fun _ =>
    bind anyReal fun _ => bind anyReal fun _ => bind anyReal fun _ => bind anyWord fun _ => bind anyWord fun _ =>
    bind anyWord fun _ => bind anyBit fun _ => change fun _ _ => esOk_fixES _

end KeepsES

end Sys2Proof.Machine
end

