-- ==== Sys2Proof/Laws/Families.lean ====
section
/-! SUPPORT. A closed property is kept by the rule of every instruction of the CPU. -/

namespace Sys2Proof.Machine

namespace Closed

variable {P : State → Prop}

/-! ### Operand forms -/

theorem rd8 (h : Closed P) : ∀ d, Keeps P (Machine.rd8 d)
  | .reg _ => Keeps.get_bind fun _ => Keeps.pure _
  | .mem _ => Keeps.get_bind fun _ => h.readSeg8 _ _

theorem rd16 (h : Closed P) : ∀ d, Keeps P (Machine.rd16 d)
  | .reg _ => Keeps.get_bind fun _ => Keeps.pure _
  | .mem _ => Keeps.get_bind fun _ => h.readSeg16 _ _

theorem wr8 (h : Closed P) : ∀ d v, Keeps P (Machine.wr8 d v)
  | .reg _, _ => Keeps.mod fun _ hs => h.reg8 _ _ hs
  | .mem _, _ => Keeps.get_bind fun _ => h.writeSeg8 _ _ _

theorem wr16 (h : Closed P) : ∀ d v, Keeps P (Machine.wr16 d v)
  | .reg _, _ => Keeps.mod fun _ hs => h.reg16 _ _ hs
  | .mem _, _ => Keeps.get_bind fun _ => h.writeSeg16 _ _ _

theorem checkModify (h : Closed P) {lost : M Unit} (hl : Keeps P lost) (r : SegReg) (off : Word) (n : Nat) :
    Keeps P (Machine.checkModify lost r off n) :=
  Keeps.get_bind fun _ => Keeps.ite (Keeps.bind hl fun _ => h.checkWrite _ _ _) (h.checkWrite _ _ _)

theorem modify8 (h : Closed P) {lost : M Unit} {f : Byte → M Byte} (hl : Keeps P lost) (hf : ∀ a, Keeps P (f a)) :
    ∀ d, Keeps P (Machine.modify8 lost d f)
  | .reg _ => Keeps.get_bind fun _ => Keeps.bind (hf _) fun _ => Keeps.mod fun _ hs => h.reg8 _ _ hs
  | .mem _ => Keeps.get_bind fun _ => Keeps.bind (h.checkModify hl _ _ _) fun _ =>
    Keeps.bind (h.load8 _) fun _ => Keeps.bind (hf _) fun _ => Keeps.mod fun s hs => h.mem8 s _ _ hs

theorem modify16 (h : Closed P) {lost : M Unit} {f : Word → M Word} (hl : Keeps P lost) (hf : ∀ a, Keeps P (f a)) :
    ∀ d, Keeps P (Machine.modify16 lost d f)
  | .reg _ => Keeps.get_bind fun _ => Keeps.bind (hf _) fun _ => Keeps.mod fun _ hs => h.reg16 _ _ hs
  | .mem _ => Keeps.get_bind fun _ => Keeps.bind (h.checkModify hl _ _ _) fun _ =>
    Keeps.bind (h.load16 _) fun _ => Keeps.bind (hf _) fun _ => Keeps.mod fun _ hs => h.mem16 _ _ _ hs

theorem rdPair (h : Closed P) (ea : Ea) : Keeps P (Machine.rdPair ea) := Keeps.get_bind fun _ => h.readPair _ _

theorem nothingLost (_h : Closed P) : Keeps P Machine.nothingLost := Keeps.pure _
theorem carryLost (h : Closed P) : Keeps P Machine.carryLost := h.undefFlag _

section Forms

variable {lost : M Unit} {f8 : Byte → Byte → M Byte} {f16 : Word → Word → M Word} {g8 : Byte → Byte → M Unit}
  {g16 : Word → Word → M Unit}

theorem ebRb (h : Closed P) (hl : Keeps P lost) (hf : ∀ a b, Keeps P (f8 a b)) (d : Rm Reg8) (r : Reg8) :
    Keeps P (Machine.ebRb lost f8 d r) := Keeps.get_bind fun _ => h.modify8 hl (fun a => hf a _) d

theorem ewRw (h : Closed P) (hl : Keeps P lost) (hf : ∀ a b, Keeps P (f16 a b)) (d : Rm Reg16) (r : Reg16) :
    Keeps P (Machine.ewRw lost f16 d r) := Keeps.get_bind fun _ => h.modify16 hl (fun a => hf a _) d

theorem rbEb (h : Closed P) (hf : ∀ a b, Keeps P (f8 a b)) (r : Reg8) (d : Rm Reg8) :
    Keeps P (Machine.rbEb f8 r d) :=
  Keeps.bind (h.rd8 d) fun _ => Keeps.get_bind fun _ => Keeps.bind (hf _ _) fun _ => Keeps.mod fun _ hs => h.reg8 _ _ hs

theorem rwEw (h : Closed P) (hf : ∀ a b, Keeps P (f16 a b)) (r : Reg16) (d : Rm Reg16) :
    Keeps P (Machine.rwEw f16 r d) :=
  Keeps.bind (h.rd16 d) fun _ => Keeps.get_bind fun _ => Keeps.bind (hf _ _) fun _ =>
    Keeps.mod fun _ hs => h.reg16 _ _ hs

theorem ebDb (h : Closed P) (hl : Keeps P lost) (hf : ∀ a b, Keeps P (f8 a b)) (d : Rm Reg8) (b : Byte) :
    Keeps P (Machine.ebDb lost f8 d b) := h.modify8 hl (fun a => hf a _) d

theorem ewDw (h : Closed P) (hl : Keeps P lost) (hf : ∀ a b, Keeps P (f16 a b)) (d : Rm Reg16) (b : Word) :
    Keeps P (Machine.ewDw lost f16 d b) := h.modify16 hl (fun a => hf a _) d

theorem cmpEbRb (h : Closed P) (hg : ∀ a b, Keeps P (g8 a b)) (d : Rm Reg8) (r : Reg8) :
    Keeps P (Machine.cmpEbRb g8 d r) := Keeps.bind (h.rd8 d) fun _ => Keeps.get_bind fun _ => hg _ _

theorem cmpEwRw (h : Closed P) (hg : ∀ a b, Keeps P (g16 a b)) (d : Rm Reg16) (r : Reg16) :
    Keeps P (Machine.cmpEwRw g16 d r) := Keeps.bind (h.rd16 d) fun _ => Keeps.get_bind fun _ => hg _ _

theorem cmpRbEb (h : Closed P) (hg : ∀ a b, Keeps P (g8 a b)) (r : Reg8) (d : Rm Reg8) :
    Keeps P (Machine.cmpRbEb g8 r d) := Keeps.bind (h.rd8 d) fun _ => Keeps.get_bind fun _ => hg _ _

theorem cmpRwEw (h : Closed P) (hg : ∀ a b, Keeps P (g16 a b)) (r : Reg16) (d : Rm Reg16) :
    Keeps P (Machine.cmpRwEw g16 r d) := Keeps.bind (h.rd16 d) fun _ => Keeps.get_bind fun _ => hg _ _

theorem cmpEbDb (h : Closed P) (hg : ∀ a b, Keeps P (g8 a b)) (d : Rm Reg8) (b : Byte) :
    Keeps P (Machine.cmpEbDb g8 d b) := Keeps.bind (h.rd8 d) fun _ => hg _ _

theorem cmpEwDw (h : Closed P) (hg : ∀ a b, Keeps P (g16 a b)) (d : Rm Reg16) (b : Word) :
    Keeps P (Machine.cmpEwDw g16 d b) := Keeps.bind (h.rd16 d) fun _ => hg _ _

end Forms

/-! ### Data movement -/

theorem pushReg (h : Closed P) (r : Reg16) : Keeps P (Machine.pushReg r) := Keeps.get_bind fun _ => h.push16 _
theorem pushSeg (h : Closed P) (r : SegReg) : Keeps P (Machine.pushSeg r) := Keeps.get_bind fun _ => h.push16 _
theorem pushRm (h : Closed P) (d : Rm Reg16) : Keeps P (Machine.pushRm d) := Keeps.bind (h.rd16 d) fun _ => h.push16 _
theorem popReg (h : Closed P) (r : Reg16) : Keeps P (Machine.popReg r) :=
  Keeps.bind h.pop16 fun _ => Keeps.mod fun _ hs => h.reg16 _ _ hs

theorem popRm (h : Closed P) : ∀ d, Keeps P (Machine.popRm d)
  | .reg r => h.popReg r
  | .mem _ => Keeps.get_bind fun _ => Keeps.bind (Keeps.require _ _) fun _ => Keeps.bind (h.load16 _) fun _ =>
    Keeps.bind (h.writeSeg16 _ _ _) fun _ => Keeps.mod fun _ hs => h.reg16 _ _ hs

theorem popSeg (h : Closed P) (r : SegReg) : Keeps P (Machine.popSeg r) :=
  Keeps.get_bind fun _ => Keeps.bind (Keeps.require _ _) fun _ => Keeps.bind (h.load16 _) fun _ =>
    Keeps.bind (h.loadSeg _ _) fun _ => Keeps.mod fun _ hs => h.reg16 _ _ hs

theorem inhibitNext (h : Closed P) : Keeps P Machine.inhibitNext :=
  Keeps.mod fun s hs => h.book s _ _ _ true _ _ _ _ _ _ _ _ _ _ _ hs

theorem pushAll (h : Closed P) : Keeps P Machine.pushAll := by
  refine Keeps.get_bind fun _ => Keeps.bind ?_ fun _ => ?_
  · exact Keeps.get_bind fun _ => Keeps.ite (h.checkStackRoom _) (Keeps.ite (Keeps.raise _) (Keeps.require _ _))
  · exact Keeps.bind (h.push16 _) fun _ => Keeps.bind (h.push16 _) fun _ => Keeps.bind (h.push16 _) fun _ =>
      Keeps.bind (h.push16 _) fun _ => Keeps.bind (h.push16 _) fun _ => Keeps.bind (h.push16 _) fun _ =>
      Keeps.bind (h.push16 _) fun _ => h.push16 _

theorem popAll (h : Closed P) : Keeps P Machine.popAll :=
  Keeps.get_bind fun _ => Keeps.bind (Keeps.require _ _) fun _ =>
    Keeps.bind h.pop16 fun _ => Keeps.bind h.pop16 fun _ => Keeps.bind h.pop16 fun _ => Keeps.bind h.pop16 fun _ =>
    Keeps.bind h.pop16 fun _ => Keeps.bind h.pop16 fun _ => Keeps.bind h.pop16 fun _ => Keeps.bind h.pop16 fun _ =>
    Keeps.mod fun _ hs => h.gpr _ hs

theorem movToRm8 (h : Closed P) (d : Rm Reg8) (r : Reg8) : Keeps P (Machine.movToRm8 d r) :=
  Keeps.get_bind fun _ => h.wr8 _ _
theorem movToRm16 (h : Closed P) (d : Rm Reg16) (r : Reg16) : Keeps P (Machine.movToRm16 d r) :=
  Keeps.get_bind fun _ => h.wr16 _ _
theorem movFromRm8 (h : Closed P) (r : Reg8) (d : Rm Reg8) : Keeps P (Machine.movFromRm8 r d) :=
  Keeps.bind (h.rd8 d) fun _ => Keeps.mod fun _ hs => h.reg8 _ _ hs
theorem movFromRm16 (h : Closed P) (r : Reg16) (d : Rm Reg16) : Keeps P (Machine.movFromRm16 r d) :=
  Keeps.bind (h.rd16 d) fun _ => Keeps.mod fun _ hs => h.reg16 _ _ hs
theorem storeSeg (h : Closed P) (d : Rm Reg16) (r : SegReg) : Keeps P (Machine.storeSeg d r) :=
  Keeps.get_bind fun _ => h.wr16 _ _
theorem movSeg (h : Closed P) (r : SegReg) (d : Rm Reg16) : Keeps P (Machine.movSeg r d) :=
  Keeps.bind (h.rd16 d) fun _ => h.loadSeg _ _

theorem exchange8 (h : Closed P) (d : Rm Reg8) (r : Reg8) : Keeps P (Machine.exchange8 d r) :=
  Keeps.get_bind fun _ => h.modify8 (Keeps.bind h.draw16 fun _ => Keeps.mod fun _ hs => h.reg8 _ _ hs)
    (fun _ => Keeps.bind (Keeps.mod fun _ hs => h.reg8 _ _ hs) fun _ => Keeps.pure _) d

theorem exchange16 (h : Closed P) (d : Rm Reg16) (r : Reg16) : Keeps P (Machine.exchange16 d r) :=
  Keeps.get_bind fun _ => h.modify16 (Keeps.bind h.draw16 fun _ => Keeps.mod fun _ hs => h.reg16 _ _ hs)
    (fun _ => Keeps.bind (Keeps.mod fun _ hs => h.reg16 _ _ hs) fun _ => Keeps.pure _) d

theorem exchangeAx (h : Closed P) (r : Reg16) : Keeps P (Machine.exchangeAx r) :=
  Keeps.mod fun _ hs => h.reg16 _ _ (h.reg16 _ _ hs)

theorem loadPointer (h : Closed P) (sr : SegReg) (r : Reg16) (ea : Ea) : Keeps P (Machine.loadPointer sr r ea) :=
  Keeps.bind (h.rdPair ea) fun _ => Keeps.bind (h.loadSeg _ _) fun _ => Keeps.mod fun _ hs => h.reg16 _ _ hs

theorem translate (h : Closed P) : Keeps P Machine.translate :=
  Keeps.get_bind fun _ => Keeps.bind (h.readSeg8 _ _) fun _ => Keeps.mod fun _ hs => h.reg8 _ _ hs

theorem storeAh (h : Closed P) : Keeps P Machine.storeAh :=
  Keeps.mod fun _ hs => h.flag _ _ _ (h.flag _ _ _ (h.flag _ _ _ (h.flag _ _ _ (h.flag _ _ _ hs))))

theorem pushFlags (h : Closed P) : Keeps P Machine.pushFlags := Keeps.get_bind fun _ => h.push16 _
theorem popFlagsWord (h : Closed P) : Keeps P Machine.popFlagsWord :=
  Keeps.bind h.pop16 fun _ => Keeps.mod fun s hs => h.popFlags s s _ hs

theorem loadDirect8 (h : Closed P) (off : Word) : Keeps P (Machine.loadDirect8 off) :=
  Keeps.get_bind fun _ => Keeps.bind (h.readSeg8 _ _) fun _ => Keeps.mod fun _ hs => h.reg8 _ _ hs
theorem loadDirect16 (h : Closed P) (off : Word) : Keeps P (Machine.loadDirect16 off) :=
  Keeps.get_bind fun _ => Keeps.bind (h.readSeg16 _ _) fun _ => Keeps.mod fun _ hs => h.reg16 _ _ hs
theorem storeDirect8 (h : Closed P) (off : Word) : Keeps P (Machine.storeDirect8 off) :=
  Keeps.get_bind fun _ => h.writeSeg8 _ _ _
theorem storeDirect16 (h : Closed P) (off : Word) : Keeps P (Machine.storeDirect16 off) :=
  Keeps.get_bind fun _ => h.writeSeg16 _ _ _

/-! ### Arithmetic and logic -/

section Ops

variable {n : Nat}

theorem opAdd (h : Closed P) (a b : BitVec n) : Keeps P (Machine.opAdd a b) :=
  Keeps.bind (Keeps.mod fun _ hs => h.status _ hs) fun _ => Keeps.pure _
theorem opAdc (h : Closed P) (a b : BitVec n) : Keeps P (Machine.opAdc a b) :=
  Keeps.get_bind fun _ => Keeps.bind (Keeps.mod fun _ hs => h.status _ hs) fun _ => Keeps.pure _
theorem opSub (h : Closed P) (a b : BitVec n) : Keeps P (Machine.opSub a b) :=
  Keeps.bind (Keeps.mod fun _ hs => h.status _ hs) fun _ => Keeps.pure _
theorem opSbb (h : Closed P) (a b : BitVec n) : Keeps P (Machine.opSbb a b) :=
  Keeps.get_bind fun _ => Keeps.bind (Keeps.mod fun _ hs => h.status _ hs) fun _ => Keeps.pure _
theorem opCmp (h : Closed P) (a b : BitVec n) : Keeps P (Machine.opCmp a b) := Keeps.mod fun _ hs => h.status _ hs
theorem opInc (h : Closed P) (a : BitVec n) : Keeps P (Machine.opInc a) :=
  Keeps.bind (Keeps.mod fun _ hs => h.statusButCarry _ hs) fun _ => Keeps.pure _
theorem opDec (h : Closed P) (a : BitVec n) : Keeps P (Machine.opDec a) :=
  Keeps.bind (Keeps.mod fun _ hs => h.statusButCarry _ hs) fun _ => Keeps.pure _
theorem opNeg (h : Closed P) (a : BitVec n) : Keeps P (Machine.opNeg a) := h.opSub _ _

theorem logicFlags (h : Closed P) (r : BitVec n) : Keeps P (Machine.logicFlags r) :=
  Keeps.bind (Keeps.mod fun _ hs => h.resultFlags _ (h.flag _ _ _ (h.flag _ _ _ hs))) fun _ => h.undefFlag _
theorem opAnd (h : Closed P) (a b : BitVec n) : Keeps P (Machine.opAnd a b) :=
  Keeps.bind (h.logicFlags _) fun _ => Keeps.pure _
theorem opOr (h : Closed P) (a b : BitVec n) : Keeps P (Machine.opOr a b) :=
  Keeps.bind (h.logicFlags _) fun _ => Keeps.pure _
theorem opXor (h : Closed P) (a b : BitVec n) : Keeps P (Machine.opXor a b) :=
  Keeps.bind (h.logicFlags _) fun _ => Keeps.pure _
theorem opTest (h : Closed P) (a b : BitVec n) : Keeps P (Machine.opTest a b) := h.logicFlags _
theorem opNot (_h : Closed P) (a : BitVec n) : Keeps P (Machine.opNot a) := Keeps.pure _

theorem opShift (h : Closed P) (k : Shift) (raw : Byte) (v : BitVec n) : Keeps P (Machine.opShift k raw v) := by
  refine Keeps.get_bind fun s => ?_
  dsimp only
  refine Keeps.ite (Keeps.bind (h.undefFlag _) fun _ => Keeps.pure _) ?_
  refine Keeps.bind (Keeps.mod fun _ hs => h.flag _ _ _ hs) fun _ => ?_
  have last : ∀ c : Prop, [Decidable c] → ∀ (g : State → State) (r : BitVec n), (∀ t, P t → P (g t)) →
      Keeps P (if c then (do modify g; pure r) else (do Machine.undefFlag .of; pure r)) := fun c _ g r hg =>
    Keeps.ite (Keeps.bind (Keeps.mod hg) fun _ => Keeps.pure _) (Keeps.bind (h.undefFlag _) fun _ => Keeps.pure _)
  refine Keeps.ite (Keeps.bind (Keeps.mod fun _ hs => h.resultFlags _ hs) fun _ => Keeps.bind (h.undefFlag _) fun _ => ?_) ?_
  · exact last _ _ _ fun _ hs => h.flag _ _ _ hs
  · exact last _ _ _ fun _ hs => h.flag _ _ _ hs

end Ops

theorem shiftLost (h : Closed P) : ∀ k : Shift, Keeps P k.lost
  | .rcl | .rcr => h.carryLost
  | .rol | .ror | .sal | .shr | .sar => h.nothingLost

theorem shift8 (h : Closed P) (k : Shift) (d : Rm Reg8) (raw : Byte) : Keeps P (Machine.shift8 k d raw) :=
  h.modify8 (h.shiftLost k) (fun _ => h.opShift _ _ _) d
theorem shift16 (h : Closed P) (k : Shift) (d : Rm Reg16) (raw : Byte) : Keeps P (Machine.shift16 k d raw) :=
  h.modify16 (h.shiftLost k) (fun _ => h.opShift _ _ _) d
theorem shiftCl8 (h : Closed P) (k : Shift) (d : Rm Reg8) : Keeps P (Machine.shiftCl8 k d) :=
  Keeps.get_bind fun _ => h.shift8 _ _ _
theorem shiftCl16 (h : Closed P) (k : Shift) (d : Rm Reg16) : Keeps P (Machine.shiftCl16 k d) :=
  Keeps.get_bind fun _ => h.shift16 _ _ _

theorem mulFlags (h : Closed P) (b : Bool) : Keeps P (Machine.mulFlags b) :=
  Keeps.bind (Keeps.mod fun _ hs => h.flag _ _ _ (h.flag _ _ _ hs)) fun _ => h.undefFlags _
theorem divFlags (h : Closed P) : Keeps P Machine.divFlags := h.undefFlags _

theorem mul8 (h : Closed P) (d : Rm Reg8) : Keeps P (Machine.mul8 d) := by
  refine Keeps.bind (h.rd8 d) fun _ => ?_
  refine Keeps.get_bind fun _ => ?_
  dsimp only
  refine Keeps.bind (Keeps.mod fun _ hs => ?_) fun _ => ?_
  · exact h.reg16 _ _ hs
  · exact h.mulFlags _
theorem imul8 (h : Closed P) (d : Rm Reg8) : Keeps P (Machine.imul8 d) := by
  refine Keeps.bind (h.rd8 d) fun _ => ?_
  refine Keeps.get_bind fun _ => ?_
  dsimp only
  refine Keeps.bind (Keeps.mod fun _ hs => ?_) fun _ => ?_
  · exact h.reg16 _ _ hs
  · exact h.mulFlags _
theorem mul16 (h : Closed P) (d : Rm Reg16) : Keeps P (Machine.mul16 d) := by
  refine Keeps.bind (h.rd16 d) fun _ => ?_
  refine Keeps.get_bind fun _ => ?_
  dsimp only
  refine Keeps.bind (Keeps.mod fun _ hs => ?_) fun _ => ?_
  · exact h.reg16 _ _ (h.reg16 _ _ hs)
  · exact h.mulFlags _
theorem imul16 (h : Closed P) (d : Rm Reg16) : Keeps P (Machine.imul16 d) := by
  refine Keeps.bind (h.rd16 d) fun _ => ?_
  refine Keeps.get_bind fun _ => ?_
  dsimp only
  refine Keeps.bind (Keeps.mod fun _ hs => ?_) fun _ => ?_
  · exact h.reg16 _ _ (h.reg16 _ _ hs)
  · exact h.mulFlags _
theorem imulImm (h : Closed P) (r : Reg16) (d : Rm Reg16) (imm : Word) : Keeps P (Machine.imulImm r d imm) := by
  refine Keeps.bind (h.rd16 d) fun _ => ?_
  dsimp only
  refine Keeps.bind (Keeps.mod fun _ hs => ?_) fun _ => ?_
  · exact h.reg16 _ _ hs
  · exact h.mulFlags _
theorem div8 (h : Closed P) (d : Rm Reg8) : Keeps P (Machine.div8 d) := by
  refine Keeps.bind (h.rd8 d) fun _ => ?_
  refine Keeps.get_bind fun _ => ?_
  dsimp only
  refine Keeps.bind (Keeps.require _ _) fun _ => ?_
  refine Keeps.bind (Keeps.mod fun _ hs => ?_) fun _ => ?_
  · exact h.reg16 _ _ hs
  · exact h.divFlags
theorem idiv8 (h : Closed P) (d : Rm Reg8) : Keeps P (Machine.idiv8 d) := by
  refine Keeps.bind (h.rd8 d) fun _ => ?_
  refine Keeps.get_bind fun _ => ?_
  dsimp only
  refine Keeps.bind (Keeps.require _ _) fun _ => ?_
  refine Keeps.bind (Keeps.mod fun _ hs => ?_) fun _ => ?_
  · exact h.reg16 _ _ hs
  · exact h.divFlags
theorem div16 (h : Closed P) (d : Rm Reg16) : Keeps P (Machine.div16 d) := by
  refine Keeps.bind (h.rd16 d) fun _ => ?_
  refine Keeps.get_bind fun _ => ?_
  dsimp only
  refine Keeps.bind (Keeps.require _ _) fun _ => ?_
  refine Keeps.bind (Keeps.mod fun _ hs => ?_) fun _ => ?_
  · exact h.reg16 _ _ (h.reg16 _ _ hs)
  · exact h.divFlags
theorem idiv16 (h : Closed P) (d : Rm Reg16) : Keeps P (Machine.idiv16 d) := by
  refine Keeps.bind (h.rd16 d) fun _ => ?_
  refine Keeps.get_bind fun _ => ?_
  dsimp only
  refine Keeps.bind (Keeps.require _ _) fun _ => ?_
  refine Keeps.bind (Keeps.mod fun _ hs => ?_) fun _ => ?_
  · exact h.reg16 _ _ (h.reg16 _ _ hs)
  · exact h.divFlags
theorem decimalAdjust (h : Closed P) (st : Byte → Byte → Byte) : Keeps P (Machine.decimalAdjust st) := by
  refine Keeps.get_bind fun _ => ?_
  dsimp only
  refine Keeps.bind (Keeps.mod fun _ hs => ?_) fun _ => ?_
  · exact h.resultFlags _ (h.flag _ _ _ (h.flag _ _ _ (h.reg8 _ _ hs)))
  · exact h.undefFlag _
theorem asciiAdjust (h : Closed P) (st : Byte → Byte → Byte) : Keeps P (Machine.asciiAdjust st) := by
  refine Keeps.get_bind fun _ => ?_
  dsimp only
  refine Keeps.bind (Keeps.mod fun _ hs => ?_) fun _ => ?_
  · exact h.flag _ _ _ (h.flag _ _ _ (h.reg16 _ _ hs))
  · exact h.undefFlags _
theorem setUnpacked (h : Closed P) (a b : Byte) : Keeps P (Machine.setUnpacked a b) := by
  refine Keeps.bind (Keeps.mod fun _ hs => ?_) fun _ => ?_
  · exact h.resultFlags _ (h.reg16 _ _ hs)
  · exact h.undefFlags _
theorem asciiMul (h : Closed P) : Keeps P Machine.asciiMul := Keeps.get_bind fun _ => h.setUnpacked _ _
theorem asciiDiv (h : Closed P) : Keeps P Machine.asciiDiv := Keeps.get_bind fun _ => h.setUnpacked _ _

/-! ### Control transfer -/

theorem jumpIf (h : Closed P) (c : State → Bool) (rel : Byte) : Keeps P (Machine.jumpIf c rel) :=
  Keeps.get_bind fun _ => Keeps.ite (h.nearTransfer _) (Keeps.pure _)
theorem loopIf (h : Closed P) (c : State → Bool) (rel : Byte) : Keeps P (Machine.loopIf c rel) :=
  Keeps.get_bind fun _ => Keeps.ite
    (Keeps.bind (h.nearTransfer _) fun _ => Keeps.mod fun _ hs => h.reg16 _ _ hs)
    (Keeps.mod fun _ hs => h.reg16 _ _ hs)
theorem checkPush (_h : Closed P) : Keeps P Machine.checkPush :=
  Keeps.get_bind fun _ => Keeps.ite (Keeps.raise _) (Keeps.require _ _)
theorem nearCall (h : Closed P) (t : Word) : Keeps P (Machine.nearCall t) :=
  Keeps.get_bind fun _ => Keeps.bind h.checkPush fun _ => Keeps.bind (Keeps.require _ _) fun _ =>
    Keeps.bind (h.push16 _) fun _ => Keeps.mod fun _ hs => h.jump _ hs
theorem nearCallRm (h : Closed P) (d : Rm Reg16) : Keeps P (Machine.nearCallRm d) :=
  Keeps.bind (h.rd16 d) fun _ => h.nearCall _
theorem nearJumpRm (h : Closed P) (d : Rm Reg16) : Keeps P (Machine.nearJumpRm d) :=
  Keeps.bind (h.rd16 d) fun _ => h.nearTransfer _
theorem nearRet (h : Closed P) (imm : Word) : Keeps P (Machine.nearRet imm) :=
  Keeps.get_bind fun _ => Keeps.bind (Keeps.require _ _) fun _ => Keeps.bind (h.load16 _) fun _ =>
    Keeps.bind (h.nearTransfer _) fun _ => Keeps.mod fun _ hs => h.reg16 _ _ hs
theorem jumpRel8 (h : Closed P) (r : Byte) : Keeps P (Machine.jumpRel8 r) := Keeps.get_bind fun _ => h.nearTransfer _
theorem jumpRel16 (h : Closed P) (r : Word) : Keeps P (Machine.jumpRel16 r) := Keeps.get_bind fun _ => h.nearTransfer _
theorem callRel16 (h : Closed P) (r : Word) : Keeps P (Machine.callRel16 r) := Keeps.get_bind fun _ => h.nearCall _

theorem directCode (_h : Closed P) (sel : Word) (d : Desc) : Keeps P (Machine.directCode sel d) :=
  Keeps.get_bind fun _ => Keeps.ite (Keeps.bind (Keeps.require _ _) fun _ => Keeps.require _ _)
    (Keeps.bind (Keeps.require _ _) fun _ => Keeps.bind (Keeps.require _ _) fun _ => Keeps.require _ _)
theorem gateUsable (_h : Closed P) (sel : Word) (d : Desc) : Keeps P (Machine.gateUsable sel d) :=
  Keeps.get_bind fun _ => Keeps.bind (Keeps.require _ _) fun _ => Keeps.require _ _

theorem taskGate (h : Closed P) (sel : Word) (g : Desc) (k : SwitchKind) :
    Keeps (fun s => P s ∧ s.pe = true) (Machine.taskGate sel g k) :=
  Keeps.bind (h.prot.gateUsable _ _) fun _ => Keeps.bind (h.prot.availableTss _ _) fun _ => Keeps.get_bind fun _ =>
    Keeps.bind (h.switchTasks _ _ _ _) fun _ => h.prot.checkNewIP _
theorem tssDirect (h : Closed P) (sel : Word) (g : Desc) (k : SwitchKind) :
    Keeps (fun s => P s ∧ s.pe = true) (Machine.tssDirect sel g k) :=
  Keeps.get_bind fun _ => Keeps.bind (Keeps.require _ _) fun _ => Keeps.bind (Keeps.require _ _) fun _ =>
    Keeps.bind (Keeps.require _ _) fun _ => Keeps.bind (Keeps.require _ _) fun _ =>
    Keeps.bind (h.switchTasks _ _ _ _) fun _ => h.prot.checkNewIP _
theorem gateJmp (h : Closed P) (sel : Word) (g : Desc) :
    Keeps (fun s => P s ∧ s.pe = true) (Machine.gateJmp sel g) :=
  Keeps.bind (h.prot.gateUsable _ _) fun _ => Keeps.bind (Keeps.require _ _) fun _ =>
    Keeps.bind (h.prot.lookup _ _) fun _ => Keeps.get_bind fun _ => Keeps.bind (Keeps.require _ _) fun _ =>
    Keeps.bind (Keeps.require _ _) fun _ => Keeps.bind (Keeps.require _ _) fun _ =>
    Keeps.bind (Keeps.require _ _) fun _ => h.loadCS _ _ _ _
theorem farJmp (h : Closed P) (sel off : Word) : Keeps (fun s => P s ∧ s.pe = true) (Machine.farJmp sel off) := by
  refine Keeps.bind (Keeps.require _ _) fun _ => Keeps.bind (h.prot.lookup _ _) fun _ => Keeps.get_bind fun _ => ?_
  refine Keeps.ite ?_ (Keeps.ite (h.gateJmp _ _) (Keeps.ite (h.taskGate _ _ _) (Keeps.ite (h.tssDirect _ _ _)
    (Keeps.raise _))))
  exact Keeps.bind (h.prot.directCode _ _) fun _ => Keeps.bind (Keeps.require _ _) fun _ => h.loadCS _ _ _ _
theorem pushWords (h : Closed P) : ∀ l, Keeps P (Machine.pushWords l)
  | [] => Keeps.pure _
  | _ :: rest => Keeps.bind (h.pushWords rest) fun _ => h.push16 _
theorem gateCallInner (h : Closed P) (cs : Word) (g d : Desc) :
    Keeps (fun s => P s ∧ s.pe = true) (Machine.gateCallInner cs g d) := by
  refine Keeps.bind (h.prot.innerStack _ _) fun x => ?_
  refine Keeps.bind (Keeps.require _ _) fun _ => Keeps.bind (Keeps.require _ _) fun _ => Keeps.get_bind fun _ => ?_
  refine Keeps.bind (Keeps.require _ _) fun _ => Keeps.bind (h.prot.loadWords _) fun _ => ?_
  exact Keeps.bind (h.commitStack _ _ _) fun _ => Keeps.bind (h.loadCS _ _ _ _) fun _ =>
    Keeps.bind (h.prot.push16 _) fun _ => Keeps.bind (h.prot.push16 _) fun _ => Keeps.bind (h.prot.pushWords _) fun _ =>
    Keeps.bind (h.prot.push16 _) fun _ => Keeps.bind (h.prot.push16 _) fun _ => h.prot.flush
theorem callSame (h : Closed P) (sel off : Word) (d : Desc) :
    Keeps (fun s => P s ∧ s.pe = true) (Machine.callSame sel off d) :=
  Keeps.get_bind fun _ => Keeps.bind (h.prot.checkStackRoom _) fun _ => Keeps.bind (Keeps.require _ _) fun _ =>
    Keeps.bind (h.prot.push16 _) fun _ => Keeps.bind (h.prot.push16 _) fun _ => h.loadCS _ _ _ _
theorem gateCall (h : Closed P) (sel : Word) (g : Desc) :
    Keeps (fun s => P s ∧ s.pe = true) (Machine.gateCall sel g) :=
  Keeps.bind (h.prot.gateUsable _ _) fun _ => Keeps.bind (Keeps.require _ _) fun _ =>
    Keeps.bind (h.prot.lookup _ _) fun _ => Keeps.get_bind fun _ => Keeps.bind (Keeps.require _ _) fun _ =>
    Keeps.bind (Keeps.require _ _) fun _ => Keeps.bind (Keeps.require _ _) fun _ =>
    Keeps.ite (h.gateCallInner _ _ _) (h.callSame _ _ _)
theorem farCall (h : Closed P) (sel off : Word) : Keeps (fun s => P s ∧ s.pe = true) (Machine.farCall sel off) := by
  refine Keeps.bind (Keeps.require _ _) fun _ => Keeps.bind (h.prot.lookup _ _) fun _ => ?_
  refine Keeps.ite ?_ (Keeps.ite (h.gateCall _ _) (Keeps.ite (h.taskGate _ _ _) (Keeps.ite (h.tssDirect _ _ _)
    (Keeps.raise _))))
  exact Keeps.bind (h.prot.directCode _ _) fun _ => h.callSame _ _ _
theorem revalidated (h : Closed P) :
    Keeps (fun s => P s ∧ s.pe = true) (modify fun t => (t.revalidate .ds).revalidate .es) :=
  Keeps.mod fun s hs => by
    have h1 := h.prot.revalidate s .ds hs hs.2
    exact h.prot.revalidate _ .es h1 h1.2
theorem farRetSame (h : Closed P) (rs imm : Word) :
    Keeps (fun s => P s ∧ s.pe = true) (Machine.farRetSame rs imm) :=
  Keeps.get_bind fun _ => Keeps.bind (h.prot.returnCode _ _) fun _ => Keeps.bind (Keeps.require _ _) fun _ =>
    Keeps.bind (h.prot.stkRead _) fun _ => Keeps.bind (Keeps.require _ _) fun _ =>
    Keeps.bind (h.loadCS _ _ _ _) fun _ => Keeps.mod fun _ hs => h.prot.reg16 _ _ hs
theorem farRetOuter (h : Closed P) (rs imm : Word) :
    Keeps (fun s => P s ∧ s.pe = true) (Machine.farRetOuter rs imm) :=
  Keeps.get_bind fun _ => Keeps.bind (Keeps.require _ _) fun _ => Keeps.bind (h.prot.returnCode _ _) fun _ =>
    Keeps.bind (h.prot.stkRead _) fun _ => Keeps.bind (h.prot.stkRead _) fun _ =>
    Keeps.bind (h.prot.returnStack _ _) fun _ => Keeps.bind (h.prot.stkRead _) fun _ =>
    Keeps.bind (Keeps.require _ _) fun _ =>
    Keeps.bind (h.loadCS _ _ _ _) fun _ => Keeps.bind (h.commitStack _ _ _) fun _ =>
    Keeps.bind h.revalidated fun _ => h.prot.flush
theorem farRet (h : Closed P) (imm : Word) : Keeps (fun s => P s ∧ s.pe = true) (Machine.farRet imm) :=
  Keeps.get_bind fun _ => Keeps.bind (Keeps.require _ _) fun _ => Keeps.bind (h.prot.stkRead _) fun _ =>
    Keeps.bind (Keeps.require _ _) fun _ => Keeps.ite (h.farRetSame _ _) (h.farRetOuter _ _)
theorem jumpFar (h : Closed P) (sel off : Word) : Keeps P (Machine.jumpFar sel off) :=
  Keeps.get_mode (fun _ => h.farJmp _ _) fun _ => Keeps.mod fun s hs => h.real.realFar s _ _ hs hs.2
theorem callFar (h : Closed P) (sel off : Word) : Keeps P (Machine.callFar sel off) :=
  Keeps.get_mode (fun _ => h.farCall _ _) fun _ => Keeps.ite (Keeps.raise _) <|
    Keeps.bind (h.real.push16 _) fun _ => Keeps.bind (h.real.push16 _) fun _ =>
    Keeps.mod fun s hs => h.real.realFar s _ _ hs hs.2
theorem retFar (h : Closed P) (imm : Word) : Keeps P (Machine.retFar imm) :=
  Keeps.get_mode (fun _ => h.farRet _) fun _ => Keeps.bind (Keeps.require _ _) fun _ =>
    Keeps.bind (h.real.stkRead _) fun _ => Keeps.bind (Keeps.require _ _) fun _ =>
    Keeps.bind (h.real.stkRead _) fun _ => Keeps.mod fun s hs => h.real.reg16 _ _ (h.real.realFar s _ _ hs hs.2)
theorem throughPointer (h : Closed P) {f : Word → Word → M Unit} (hf : ∀ a b, Keeps P (f a b)) (ea : Ea) :
    Keeps P (Machine.throughPointer f ea) := Keeps.bind (h.rdPair ea) fun _ => hf _ _
theorem softInt (h : Closed P) (n : Byte) : Keeps P (Machine.softInt n) := Keeps.mod fun _ hs => h.deliver _ _ _ hs
theorem intOnOverflow (h : Closed P) : Keeps P Machine.intOnOverflow :=
  Keeps.get_bind fun _ => Keeps.ite (h.softInt _) (Keeps.pure _)

/-! ### IRET -/

/-- FLAGS popped as the state `u` allows, and NMI unmasked. -/
theorem returned (h : Closed P) {t : State} (u : State) (w : Word) (hs : P t) :
    P { t with flags := u.popFlags w, nmiMask := false } :=
  h.book _ _ _ _ _ _ false _ _ _ _ _ _ _ _ _ (h.popFlags t u w hs)

theorem iretReal (h : Closed P) : Keeps (fun s => P s ∧ s.pe = false) Machine.iretReal :=
  Keeps.get_bind fun _ => Keeps.bind (Keeps.require _ _) fun _ => Keeps.bind (h.real.stkRead _) fun _ =>
    Keeps.bind (h.real.stkRead _) fun _ => Keeps.bind (h.real.stkRead _) fun _ =>
    Keeps.mod fun s hs => h.real.returned s _ (h.real.realFar _ _ _ (h.real.reg16 _ _ hs) hs.2)

theorem iretTask (h : Closed P) : Keeps (fun s => P s ∧ s.pe = true) Machine.iretTask :=
  Keeps.get_bind fun _ => Keeps.bind (Keeps.require _ _) fun _ => Keeps.bind (h.prot.load16 _) fun _ =>
    Keeps.bind (Keeps.require _ _) fun _ => Keeps.bind (h.prot.lookup _ _) fun _ =>
    Keeps.bind (Keeps.require _ _) fun _ => Keeps.bind (Keeps.require _ _) fun _ =>
    Keeps.bind (Keeps.require _ _) fun _ => Keeps.bind (h.switchTasks _ _ _ _) fun _ => h.prot.checkNewIP _

theorem iretSame (h : Closed P) (rs : Word) : Keeps (fun s => P s ∧ s.pe = true) (Machine.iretSame rs) :=
  Keeps.get_bind fun s => Keeps.bind (Keeps.require _ _) fun _ => Keeps.bind (h.prot.returnCode _ _) fun _ =>
    Keeps.bind (h.prot.stkRead _) fun _ => Keeps.bind (Keeps.require _ _) fun _ =>
    Keeps.bind (h.prot.stkRead _) fun _ => Keeps.bind (h.loadCS _ _ _ _) fun _ =>
    Keeps.mod fun _ hs => h.prot.returned s _ (h.prot.reg16 _ _ hs)

theorem iretOuter (h : Closed P) (rs : Word) : Keeps (fun s => P s ∧ s.pe = true) (Machine.iretOuter rs) :=
  Keeps.get_bind fun s => Keeps.bind (Keeps.require _ _) fun _ => Keeps.bind (h.prot.returnCode _ _) fun _ =>
    Keeps.bind (h.prot.stkRead _) fun _ => Keeps.bind (h.prot.stkRead _) fun _ =>
    Keeps.bind (h.prot.returnStack _ _) fun _ => Keeps.bind (h.prot.stkRead _) fun _ =>
    Keeps.bind (Keeps.require _ _) fun _ => Keeps.bind (h.prot.stkRead _) fun _ =>
    Keeps.bind (h.loadCS _ _ _ _) fun _ => Keeps.bind (Keeps.mod fun _ hs => h.prot.returned s _ hs) fun _ =>
    Keeps.bind (h.commitStack _ _ _) fun _ =>
    Keeps.bind h.revalidated fun _ => h.prot.flush

theorem iret (h : Closed P) : Keeps P Machine.iret := by
  refine ⟨fun s hs => ?_⟩
  unfold Machine.iret
  rw [run_get_bind, run_ite]
  by_cases hp : s.pe = true
  · rw [if_neg (by simp [hp])]
    refine Keeps.weaken (Q := fun t => t.pe = true) ?_ s hs hp
    refine Keeps.ite h.iretTask <| Keeps.bind (Keeps.require _ _) fun _ => Keeps.bind (h.prot.stkRead _) fun _ =>
      Keeps.bind (Keeps.require _ _) fun _ => ?_
    exact Keeps.ite (h.iretSame _) (h.iretOuter _)
  · rw [if_pos (by simp [hp])]
    exact Keeps.weaken (Q := fun t => t.pe = false) h.iretReal s hs (by simpa using hp)

/-! ### Strings -/

theorem repeated (h : Closed P) (i : Instr) (c : Bool) {op : M Unit} (ho : Keeps P op) :
    Keeps P (Machine.repeated i c op) := by
  refine Keeps.get_bind fun s => ?_
  cases s.pfx.rep with
  | none => exact ho
  | some p =>
    refine Keeps.ite (Keeps.pure _) <| Keeps.bind ho fun _ => Keeps.bind (Keeps.mod fun _ hs => h.reg16 _ _ hs) fun _ => ?_
    refine Keeps.get_bind fun t => Keeps.ite (Keeps.pure _) <| Keeps.mod fun t hs => ?_
    exact h.book _ t.gpr t.curIP false _ _ _ _ _ _ _ _ _ _ _ _ (h.repeats t i hs)

theorem movs8 (h : Closed P) : Keeps P Machine.movs8 :=
  Keeps.get_bind fun _ => Keeps.bind (h.checkRead _ _ _) fun _ => Keeps.bind (h.checkWrite _ _ _) fun _ =>
    Keeps.bind (h.readSeg8 _ _) fun _ => Keeps.bind (h.writeSeg8 _ _ _) fun _ =>
    Keeps.mod fun _ hs => h.advance _ _ (h.advance _ _ hs)
theorem movs16 (h : Closed P) : Keeps P Machine.movs16 :=
  Keeps.get_bind fun _ => Keeps.bind (h.checkRead _ _ _) fun _ => Keeps.bind (h.checkWrite _ _ _) fun _ =>
    Keeps.bind (h.readSeg16 _ _) fun _ => Keeps.bind (h.writeSeg16 _ _ _) fun _ =>
    Keeps.mod fun _ hs => h.advance _ _ (h.advance _ _ hs)
theorem cmps8 (h : Closed P) : Keeps P Machine.cmps8 :=
  Keeps.get_bind fun _ => Keeps.bind (h.readSeg8 _ _) fun _ => Keeps.bind (h.readSeg8 _ _) fun _ =>
    Keeps.mod fun _ hs => h.advance _ _ (h.advance _ _ (h.status _ hs))
theorem cmps16 (h : Closed P) : Keeps P Machine.cmps16 :=
  Keeps.get_bind fun _ => Keeps.bind (h.readSeg16 _ _) fun _ => Keeps.bind (h.readSeg16 _ _) fun _ =>
    Keeps.mod fun _ hs => h.advance _ _ (h.advance _ _ (h.status _ hs))
theorem scas8 (h : Closed P) : Keeps P Machine.scas8 :=
  Keeps.get_bind fun _ => Keeps.bind (h.readSeg8 _ _) fun _ => Keeps.mod fun _ hs => h.advance _ _ (h.status _ hs)
theorem scas16 (h : Closed P) : Keeps P Machine.scas16 :=
  Keeps.get_bind fun _ => Keeps.bind (h.readSeg16 _ _) fun _ => Keeps.mod fun _ hs => h.advance _ _ (h.status _ hs)
theorem lods8 (h : Closed P) : Keeps P Machine.lods8 :=
  Keeps.get_bind fun _ => Keeps.bind (h.readSeg8 _ _) fun _ => Keeps.mod fun _ hs => h.advance _ _ (h.reg8 _ _ hs)
theorem lods16 (h : Closed P) : Keeps P Machine.lods16 :=
  Keeps.get_bind fun _ => Keeps.bind (h.readSeg16 _ _) fun _ => Keeps.mod fun _ hs => h.advance _ _ (h.reg16 _ _ hs)
theorem stos8 (h : Closed P) : Keeps P Machine.stos8 :=
  Keeps.get_bind fun _ => Keeps.bind (h.writeSeg8 _ _ _) fun _ => Keeps.mod fun _ hs => h.advance _ _ hs
theorem stos16 (h : Closed P) : Keeps P Machine.stos16 :=
  Keeps.get_bind fun _ => Keeps.bind (h.writeSeg16 _ _ _) fun _ => Keeps.mod fun _ hs => h.advance _ _ hs
theorem ins8 (h : Closed P) : Keeps P Machine.ins8 :=
  Keeps.bind h.ioPriv fun _ => Keeps.get_bind fun _ => Keeps.bind (h.checkWrite _ _ _) fun _ =>
    Keeps.bind (h.ioRead8 _) fun _ => Keeps.bind (h.writeSeg8 _ _ _) fun _ => Keeps.mod fun _ hs => h.advance _ _ hs
theorem ins16 (h : Closed P) : Keeps P Machine.ins16 :=
  Keeps.bind h.ioPriv fun _ => Keeps.get_bind fun _ => Keeps.bind (h.checkWrite _ _ _) fun _ =>
    Keeps.bind (h.ioRead16 _) fun _ => Keeps.bind (h.writeSeg16 _ _ _) fun _ => Keeps.mod fun _ hs => h.advance _ _ hs
theorem outs8 (h : Closed P) : Keeps P Machine.outs8 :=
  Keeps.bind h.ioPriv fun _ => Keeps.get_bind fun _ => Keeps.bind (h.readSeg8 _ _) fun _ =>
    Keeps.bind (h.ioWrite8 _ _) fun _ => Keeps.mod fun _ hs => h.advance _ _ hs
theorem outs16 (h : Closed P) : Keeps P Machine.outs16 :=
  Keeps.bind h.ioPriv fun _ => Keeps.get_bind fun _ => Keeps.bind (h.readSeg16 _ _) fun _ =>
    Keeps.bind (h.ioWrite16 _ _) fun _ => Keeps.mod fun _ hs => h.advance _ _ hs

/-! ### ENTER, LEAVE, BOUND -/

theorem copyDisplay (h : Closed P) : ∀ k, Keeps P (Machine.copyDisplay k)
  | 0 => Keeps.pure _
  | k + 1 => Keeps.bind (Keeps.mod fun _ hs => h.reg16 _ _ hs) fun _ => Keeps.get_bind fun _ =>
    Keeps.bind (h.readSeg16 _ _) fun _ => Keeps.bind (h.push16 _) fun _ => h.copyDisplay k

theorem enter (h : Closed P) (size : Word) (l : Byte) : Keeps P (Machine.enter size l) := by
  refine Keeps.get_bind fun s => ?_
  dsimp only
  refine Keeps.bind (Keeps.require _ _) fun _ => Keeps.bind (Keeps.require _ _) fun _ =>
    Keeps.bind (h.push16 _) fun _ => Keeps.get_bind fun t => ?_
  refine Keeps.ite ?_ <| Keeps.bind (h.copyDisplay _) fun _ => Keeps.bind (h.push16 _) fun _ => ?_
  · exact Keeps.mod fun _ hs => h.reg16 _ _ (h.reg16 _ _ hs)
  · exact Keeps.mod fun _ hs => h.reg16 _ _ (h.reg16 _ _ hs)

theorem leaveFrame (h : Closed P) : Keeps P Machine.leaveFrame :=
  Keeps.get_bind fun _ => Keeps.bind (Keeps.require _ _) fun _ => Keeps.bind (h.load16 _) fun _ =>
    Keeps.mod fun _ hs => h.reg16 _ _ (h.reg16 _ _ hs)

theorem bound (h : Closed P) (r : Reg16) (ea : Ea) : Keeps P (Machine.bound r ea) :=
  Keeps.bind (h.rdPair ea) fun _ => Keeps.get_bind fun _ => Keeps.require _ _

/-! ### Flags, I/O, HLT, WAIT -/

theorem flagTo (h : Closed P) (f : Flag) (b : Bool) : Keeps P (Machine.flagTo f b) := Keeps.mod fun s hs => h.flag s _ _ hs
theorem enableInterrupts (h : Closed P) : Keeps P Machine.enableInterrupts :=
  Keeps.bind h.ioPriv fun _ => Keeps.mod fun s hs =>
    h.book _ _ _ _ _ (s.stiShadow || !s.flag .if_) _ _ _ _ _ _ _ _ _ _ (h.flag s .if_ true hs)
theorem halt (h : Closed P) : Keeps P Machine.halt :=
  Keeps.get_bind fun _ => Keeps.bind (Keeps.require _ _) fun _ =>
    Keeps.mod fun s hs => h.book s _ _ _ _ _ _ _ _ _ .halted _ _ _ _ _ hs
theorem waitNpx (_h : Closed P) : Keeps P Machine.waitNpx :=
  Keeps.get_bind fun _ => Keeps.bind (Keeps.require _ _) fun _ => Keeps.require _ _
theorem inByte (h : Closed P) (p : Word) : Keeps P (Machine.inByte p) :=
  Keeps.bind h.ioPriv fun _ => Keeps.bind (h.ioRead8 _) fun _ => Keeps.mod fun _ hs => h.reg8 _ _ hs
theorem inWord (h : Closed P) (p : Word) : Keeps P (Machine.inWord p) :=
  Keeps.bind h.ioPriv fun _ => Keeps.bind (h.ioRead16 _) fun _ => Keeps.mod fun _ hs => h.reg16 _ _ hs
theorem outByte (h : Closed P) (p : Word) : Keeps P (Machine.outByte p) :=
  Keeps.bind h.ioPriv fun _ => Keeps.get_bind fun _ => h.ioWrite8 _ _
theorem outWord (h : Closed P) (p : Word) : Keeps P (Machine.outWord p) :=
  Keeps.bind h.ioPriv fun _ => Keeps.get_bind fun _ => h.ioWrite16 _ _
theorem withDx (_h : Closed P) {f : Word → M Unit} (hf : ∀ p, Keeps P (f p)) : Keeps P (Machine.withDx f) :=
  Keeps.get_bind fun _ => hf _

/-! ### System control -/

theorem protectedOnly (_h : Closed P) : Keeps P Machine.protectedOnly := Keeps.get_bind fun _ => Keeps.require _ _
theorem privileged (_h : Closed P) : Keeps P Machine.privileged := Keeps.get_bind fun _ => Keeps.require _ _
theorem readTable (h : Closed P) (ea : Ea) : Keeps P (Machine.readTable ea) :=
  Keeps.get_bind fun _ => Keeps.bind (h.checkRead _ _ _) fun _ => Keeps.bind (h.readSeg16 _ _) fun _ =>
    Keeps.bind (h.readSeg16 _ _) fun _ => Keeps.bind (h.readSeg16 _ _) fun _ => Keeps.pure _
theorem writeTable (h : Closed P) (t : TableReg) (ea : Ea) : Keeps P (Machine.writeTable t ea) :=
  Keeps.get_bind fun _ => Keeps.bind (h.checkWrite _ _ _) fun _ => Keeps.bind h.draw16 fun _ =>
    Keeps.bind (h.writeSeg16 _ _ _) fun _ => Keeps.bind (h.writeSeg16 _ _ _) fun _ => h.writeSeg16 _ _ _
theorem loadGdtr (h : Closed P) (ea : Ea) : Keeps P (Machine.loadGdtr ea) :=
  Keeps.bind h.privileged fun _ => Keeps.bind (h.readTable ea) fun _ =>
    Keeps.mod fun s hs => h.book s _ _ _ _ _ _ _ _ _ _ _ _ _ _ _ hs
theorem loadIdtr (h : Closed P) (ea : Ea) : Keeps P (Machine.loadIdtr ea) :=
  Keeps.bind h.privileged fun _ => Keeps.bind (h.readTable ea) fun _ =>
    Keeps.mod fun s hs => h.book s _ _ _ _ _ _ _ _ _ _ _ _ _ _ _ hs
theorem storeGdtr (h : Closed P) (ea : Ea) : Keeps P (Machine.storeGdtr ea) := Keeps.get_bind fun _ => h.writeTable _ _
theorem storeIdtr (h : Closed P) (ea : Ea) : Keeps P (Machine.storeIdtr ea) := Keeps.get_bind fun _ => h.writeTable _ _
theorem loadLocalTable (h : Closed P) (d : Rm Reg16) : Keeps P (Machine.loadLocalTable d) :=
  Keeps.bind h.protectedOnly fun _ => Keeps.bind h.privileged fun _ => Keeps.bind (h.rd16 d) fun _ => h.loadLDTR _
theorem loadTask (h : Closed P) (d : Rm Reg16) : Keeps P (Machine.loadTask d) :=
  Keeps.bind h.protectedOnly fun _ => Keeps.bind h.privileged fun _ => Keeps.bind (h.rd16 d) fun _ => h.loadTR _
theorem storeLocalTable (h : Closed P) (d : Rm Reg16) : Keeps P (Machine.storeLocalTable d) :=
  Keeps.bind h.protectedOnly fun _ => Keeps.get_bind fun _ => h.wr16 _ _
theorem storeTask (h : Closed P) (d : Rm Reg16) : Keeps P (Machine.storeTask d) :=
  Keeps.bind h.protectedOnly fun _ => Keeps.get_bind fun _ => h.wr16 _ _
theorem storeMsw (h : Closed P) (d : Rm Reg16) : Keeps P (Machine.storeMsw d) := Keeps.get_bind fun _ => h.wr16 _ _

theorem adjust (h : Closed P) (d : Rm Reg16) (r : Reg16) : Keeps P (Machine.adjust d r) := by
  have last : ∀ (c : Prop) [Decidable c] (b : Bool) (v : Word), Keeps P
      (if c then Machine.wr16 d v >>= fun _ => modify fun t => t.setFlag .zf b else modify fun t => t.setFlag .zf b) :=
    fun c _ b v => Keeps.ite (Keeps.bind (h.wr16 _ _) fun _ => Keeps.mod fun s hs => h.flag s _ _ hs)
      (Keeps.mod fun s hs => h.flag s _ _ hs)
  refine Keeps.bind h.protectedOnly fun _ => Keeps.get_bind fun s => ?_
  cases d with
  | reg q => exact Keeps.bind (Keeps.pure _) fun v => last _ _ _
  | mem ea => exact Keeps.bind (h.checkWrite _ _ _) fun _ => Keeps.bind (h.readSeg16 _ _) fun v => last _ _ _

theorem inspected (h : Closed P) (d : Desc) : Keeps P (Machine.inspected d) := Keeps.ite (h.setAccessed _) (Keeps.pure _)

theorem inspect (h : Closed P) (sel : Word) : Keeps P (Machine.inspect sel) :=
  Keeps.ite (Keeps.pure _) <| Keeps.get_bind' fun _ hs => Keeps.set_bind (h.reads _ _ hs) (Keeps.pure _)

theorem selectorTest (h : Closed P) (d : Rm Reg16) (ok : BitVec 2 → BitVec 2 → Desc → Bool) {f : Desc → M Unit}
    (hf : ∀ x, Keeps P (f x)) :
    Keeps P (Machine.selectorTest d ok f) := by
  refine Keeps.bind h.protectedOnly fun _ => Keeps.bind (h.rd16 d) fun sel => Keeps.get_bind fun s => ?_
  refine Keeps.bind (h.inspect sel) fun found => ?_
  cases found with
  | none => exact Keeps.mod fun s hs => h.flag s _ _ hs
  | some x =>
    refine Keeps.ite (Keeps.bind (hf x) fun _ => Keeps.bind (h.inspected x) fun _ => ?_) ?_
    · exact Keeps.mod fun s hs => h.flag s _ _ hs
    · exact Keeps.mod fun s hs => h.flag s _ _ hs

theorem loadRights (h : Closed P) (r : Reg16) (d : Rm Reg16) : Keeps P (Machine.loadRights r d) :=
  h.selectorTest d _ fun _ => Keeps.mod fun _ hs => h.reg16 _ _ hs
theorem loadLimit (h : Closed P) (r : Reg16) (d : Rm Reg16) : Keeps P (Machine.loadLimit r d) :=
  h.selectorTest d _ fun _ => Keeps.mod fun _ hs => h.reg16 _ _ hs
theorem verifyRead (h : Closed P) (d : Rm Reg16) : Keeps P (Machine.verifyRead d) :=
  h.selectorTest d _ fun _ => Keeps.pure _
theorem verifyWrite (h : Closed P) (d : Rm Reg16) : Keeps P (Machine.verifyWrite d) :=
  h.selectorTest d _ fun _ => Keeps.pure _

end Closed

end Sys2Proof.Machine
end

