-- ==== Sys2Proof/Laws/NpxFamilies.lean ====
section
/-! SUPPORT. Every numeric operation keeps ES a function of the flags and masks (48_npx_architecture.md R582), and
so does every ESC instruction. -/

namespace Sys2Proof.Machine

namespace KeepsES

/-! ### Transfers -/

theorem loadOperand (x : NumOperand) : KeepsES (Machine.loadOperand x) :=
  bind stackRoom fun _ => bind (signalIf _ _) fun _ => change fun _ h => esOk_push _ h
theorem loadReal (f : RealFmt) (v : Nat) : KeepsES (Machine.loadReal f v) := loadOperand _
theorem loadTemp (v : Nat) : KeepsES (Machine.loadTemp v) := loadOperand _
theorem loadST (i : BitVec 3) : KeepsES (Machine.loadST i) := bind (source i) fun _ => pushST _
theorem loadInt (b v : Nat) : KeepsES (Machine.loadInt b v) := pushST _

theorem loadBcd (v : Nat) : KeepsES (Machine.loadBcd v) :=
  bind stackRoom fun _ => ite (change fun _ h => esOk_push _ h) <| ite (change fun _ h => esOk_push _ h) <|
    bind anyReal fun _ => bind anyBit fun _ => bind anyBit fun _ => change fun _ h => esOk_setTag _ _ (esOk_push _ h)

theorem denormalImage (f : RealFmt) (x : Reg80) : KeepsES (Machine.denormalImage f x) :=
  bind (signal _) fun _ => bind theNpx fun _ => bind (signalPrecision _) fun _ => pure _

theorem realImageOf (f : RealFmt) (x : Reg80) : KeepsES (Machine.realImageOf f x) := by
  refine bind theNpx fun n => ?_
  split
  · exact pure _
  · exact pure _
  · exact pure _
  · exact pure _
  · exact ite (bind (signal _) fun _ => pure _) (denormalImage _ _)
  · exact ite (bind (signal _) fun _ => pure _) (denormalImage _ _)
  · exact ite (bind (signal _) fun _ => bind (signalPrecision _) fun _ => pure _)
      (ite (denormalImage _ _) (bind (signalPrecision _) fun _ => pure _))

theorem realImage (f : RealFmt) : KeepsES (Machine.realImage f) := bind (source 0) fun _ => realImageOf _ _
theorem andPop {x : N Nat} (hx : KeepsES x) : KeepsES (Machine.andPop x) := bind hx fun _ => bind popST fun _ => pure _
theorem tempImage : KeepsES Machine.tempImage := bind (source 0) fun _ => pure _
theorem storeST (i : BitVec 3) : KeepsES (Machine.storeST i) := bind (source 0) fun _ => putST _ _
theorem storePopST (i : BitVec 3) : KeepsES (Machine.storePopST i) := bind (storeST i) fun _ => popST
theorem intIndefinite (b : Nat) : KeepsES (Machine.intIndefinite b) := bind (signal _) fun _ => pure _

theorem intImage (b : Nat) : KeepsES (Machine.intImage b) := by
  refine bind (source 0) fun x => bind theNpx fun n => ?_
  split
  · exact pure _
  · exact ite (bind (signalPrecision _) fun _ => pure _) (intIndefinite _)
  all_goals exact intIndefinite _

theorem bcdIndefinite : KeepsES Machine.bcdIndefinite :=
  bind (signal _) fun _ => bind anyWord fun _ => bind anyWord fun _ => bind anyWord fun _ => bind anyWord fun _ => pure _

theorem bcdImage : KeepsES Machine.bcdImage := by
  refine bind (source 0) fun x => ?_
  dsimp only
  split
  · exact pure _
  · exact ite (pure _) bcdIndefinite
  all_goals exact bcdIndefinite

theorem esOk_fill {n : Npx} (k : BitVec 3) (h : n.esOk) : (n.fill k).esOk := by
  unfold Npx.fill
  split
  · exact esOk_put _ _ h
  · exact h

theorem exchange (i : BitVec 3) : KeepsES (Machine.exchange i) :=
  bind theNpx fun _ => bind (signalIf _ _) fun _ => change fun _ h =>
    esOk_setTag _ _ (esOk_setTag _ _ (esOk_setReg _ _ (esOk_setReg _ _ (esOk_fill _ (esOk_fill _ h)))))

/-! ### Arithmetic -/

theorem sumFinite (a b : Reg80) : KeepsES (Machine.sumFinite a b) :=
  bind theNpx fun _ => ite (pure _) (ite (pure _) (deliverReal80 _ _ _ _))

theorem addReal (a b : NumOperand) : KeepsES (Machine.addReal a b) :=
  bind theNpx fun _ => ite (ite (pure _) (invalidResult _)) <| bind (signalIf _ _) fun _ => ite (pure _) <|
    ite (pure _) <| ite (pure _) <| ite (pure _) <| ite (pure _) (sumFinite _ _)

theorem mulReal (a b : NumOperand) : KeepsES (Machine.mulReal a b) :=
  bind theNpx fun _ => ite (invalidResult _) <| bind (signalIf _ _) fun _ => ite (pure _) <| ite (pure _) <|
    ite (deliverPseudoZero _ _) (deliverReal80 _ _ _ _)

theorem divReal (a b : NumOperand) : KeepsES (Machine.divReal a b) :=
  bind theNpx fun _ => ite (invalidResult _) <| ite (bind (signal _) fun _ => pure _) <| bind (signalIf _ _) fun _ =>
    ite (pure _) <| ite (pure _) <| ite (deliverPseudoZero _ _) (deliverReal80 _ _ _ _)

theorem arith (op : ArithOp) (a b : NumOperand) : KeepsES (Machine.arith op a b) := by
  refine bind (signalUnmasked _ _) fun _ => ite (invalidResult _) ?_
  cases op
  · exact addReal _ _
  · exact addReal _ _
  · exact addReal _ _
  · exact mulReal _ _
  · exact divReal _ _
  · exact divReal _ _

theorem arithST (op : ArithOp) (d s : BitVec 3) : KeepsES (Machine.arithST op d s) :=
  bind (source d) fun _ => bind (source s) fun _ => bind (arith _ _ _) fun _ => putST _ _
theorem arithPop (op : ArithOp) (d : BitVec 3) : KeepsES (Machine.arithPop op d) := bind (arithST _ _ _) fun _ => popST
theorem arithMem (op : ArithOp) (b : NumOperand) : KeepsES (Machine.arithMem op b) :=
  bind (source 0) fun _ => bind (arith _ _ _) fun _ => putST _ _

/-! ### Comparison -/

theorem setCompare (a b c : Bool) : KeepsES (Machine.setCompare a b c) := change fun _ h => esOk_setCond _ _ _ _ h
theorem notComparable : KeepsES Machine.notComparable := bind (setCompare _ _ _) fun _ => signal _

theorem compareReal (a b : NumOperand) : KeepsES (Machine.compareReal a b) := by
  refine bind theNpx fun n => bind (signalIf _ _) fun _ => ?_
  refine ite notComparable (ite (setCompare _ _ _) (ite notComparable ?_))
  split <;> exact setCompare _ _ _

theorem compareST (i : BitVec 3) : KeepsES (Machine.compareST i) :=
  bind (source 0) fun _ => bind (source i) fun _ => compareReal _ _
theorem compareMem (b : NumOperand) : KeepsES (Machine.compareMem b) := bind (source 0) fun _ => compareReal _ _
theorem comparePop {x : N Unit} (hx : KeepsES x) : KeepsES (Machine.comparePop x) := bind hx fun _ => popST

theorem examine : KeepsES Machine.examine :=
  bind theNpx fun _ => ite (bind anyBit fun _ => change fun _ h => esOk_setCond _ _ _ _ h)
    (change fun _ h => esOk_setCond _ _ _ _ h)

/-! ### One and two operands -/

theorem replaceST {x : N Reg80} (hx : KeepsES x) : KeepsES (Machine.replaceST x) := bind hx fun _ => putST _ _
theorem unary {f : Reg80 → N Reg80} (hf : ∀ x, KeepsES (f x)) : KeepsES (Machine.unary f) :=
  replaceST (bind (source 0) fun _ => hf _)
theorem signOp (f : Bool → Bool) : KeepsES (Machine.signOp f) :=
  bind theNpx fun _ => bind (source 0) fun _ => putST _ _

theorem sqrtReal (x : Reg80) : KeepsES (Machine.sqrtReal x) := by
  refine bind theNpx fun n => ?_
  split
  · exact invalidResult _
  · exact bind (signal _) fun _ => invalidResult _
  · exact invalidResult _
  · exact invalidResult _
  · exact pure _
  · exact ite (pure _) (invalidResult _)
  · exact ite (invalidResult _) (deliverReal80 _ _ _ _)

theorem roundReal (x : Reg80) : KeepsES (Machine.roundReal x) := by
  refine bind theNpx fun n => ?_
  split
  · exact invalidResult _
  · exact pure _
  · exact pure _
  · exact pure _
  all_goals exact ite (pure _) (bind (signalPrecision _) fun _ => pure _)

theorem scaleBy (x : Reg80) (k : Int) : KeepsES (Machine.scaleBy x k) :=
  ite (overflowResult _ _ _) (ite (bind (underflowResult _ _) fun _ => pure _) (pure _))

theorem scaleReal (x y : Reg80) : KeepsES (Machine.scaleReal x y) :=
  ite (invalidResult _) <| ite (invalidResult _) <| ite (pure _) <| ite (invalidResult _) <| ite anyReal <|
    ite (pure _) <| ite (scaleBy _ _) anyReal

theorem fscaleOp : KeepsES Machine.fscaleOp := replaceST (bind (source 0) fun _ => bind (source 1) fun _ => scaleReal _ _)

theorem setC2 (b : Bool) : KeepsES (Machine.setC2 b) := change fun _ h => h

theorem remCond (q : Nat) : KeepsES (changeNpx fun n => n.remCond q) := change fun _ h => esOk_setCond _ _ _ _ h

theorem remFinite (a b : Reg80) : KeepsES (Machine.remFinite a b) := by
  unfold Machine.remFinite
  dsimp only
  refine ite (bind (remCond _) fun _ => pure _) (ite (bind (remCond _) fun _ => ite (pure _) (deliverReal80 _ _ _ _)) ?_)
  exact bind anyBit fun _ => bind anyBit fun _ => bind anyBit fun _ =>
    bind (change fun _ h => esOk_setCond _ _ _ _ h) fun _ => ite (pure _) (deliverReal80 _ _ _ _)

theorem remReal (a b : NumOperand) : KeepsES (Machine.remReal a b) :=
  bind (signalUnmasked _ _) fun _ => ite (invalidResult _) <|
    ite (bind (signal _) fun _ => bind (setC2 _) fun _ => pure _) <| bind (signalIf _ _) fun _ =>
    ite (bind (remCond _) fun _ => pure _) (remFinite _ _)

theorem fpremOp : KeepsES Machine.fpremOp := replaceST (bind (source 0) fun _ => bind (source 1) fun _ => remReal _ _)

theorem putPair (y x : Reg80) : KeepsES (Machine.putPair y x) := change fun _ h => esOk_push _ (esOk_put _ _ h)

theorem fxtractOp : KeepsES Machine.fxtractOp := by
  refine bind (source 0) fun x => bind stackRoom fun ok => ite (putPair _ _) ?_
  split
  · exact bind (signal _) fun _ => putPair _ _
  · exact bind (signal _) fun _ => putPair _ _
  all_goals exact putPair _ _

/-! ### Transcendental instructions -/

theorem deliverApprox (v : Reg80) : KeepsES (Machine.deliverApprox v) := bind (signalPrecision _) fun _ => pure _
theorem deliverTiny (b : Bool) (v : Reg80) : KeepsES (Machine.deliverTiny b v) :=
  ite (bind (change fun n _ => esOk_flag n _) fun _ => bind theNpx fun _ =>
    ite (bind (signalPrecision _) fun _ => pure _) anyReal) (deliverApprox _)
theorem fptanOp : KeepsES Machine.fptanOp :=
  bind theNpx fun _ => bind stackRoom fun _ => ite (putPair _ _) <|
    ite (bind (deliverApprox _) fun _ => putPair _ _) (bind anyReal fun _ => bind anyReal fun _ => putPair _ _)
theorem popPut (v : Reg80) : KeepsES (Machine.popPut v) := change fun _ h => esOk_put _ _ (esOk_pop h)

theorem binaryApprox (r : Reg80 → Reg80 → Bool) {f : Word → Reg80 → Reg80 → N Reg80} (hf : ∀ c y x, KeepsES (f c y x)) :
    KeepsES (Machine.binaryApprox r f) := by
  refine bind theNpx fun n => ?_
  dsimp only
  exact ite (bind (hf _ _ _) fun _ => popPut _) (bind anyReal fun _ => popPut _)

theorem f2xm1Op : KeepsES Machine.f2xm1Op := by
  refine bind theNpx fun n => ?_
  dsimp only
  exact ite (bind anyReal fun _ => putST _ _) <| ite (bind (pure _) fun _ => putST _ _) <|
    ite (bind (deliverTiny _ _) fun _ => putST _ _) (bind anyReal fun _ => putST _ _)

/-! ### Processor control -/

theorem initNpx : KeepsES Machine.initNpx := bind anyWord fun _ => change fun n _ => esOk_init n _
theorem freeST (i : BitVec 3) : KeepsES (Machine.freeST i) := change fun _ h => esOk_setTag _ _ h
theorem freePopST (i : BitVec 3) : KeepsES (Machine.freePopST i) := bind (freeST i) fun _ => popST

end KeepsES

/-! ### ESC instructions -/

/-- Closed under the updates of the 80287 that keep ES. -/
structure ClosedNpx (P : State → Prop) : Prop extends Closed P where
  esOk : ∀ s, P s → s.npx.esOk
  npx : ∀ s n, P s → n.esOk → P { s with npx := n }

namespace ClosedNpx

variable {P : State → Prop} {α : Type}

theorem numeric (h : ClosedNpx P) {x : N α} (hx : KeepsES x) : Keeps P (Machine.numeric x) :=
  Keeps.get_bind' fun s hs => Keeps.set_bind
    (h.drawn (s := { s with npx := (x.runFrom s.npx s.undef).2.npx }) _ (h.npx _ _ hs (hx.after _ _ (h.esOk s hs))))
    (Keeps.pure _)

theorem escTest (_h : ClosedNpx P) (c : Bool) : Keeps P (Machine.escTest c) :=
  Keeps.get_bind fun _ => Keeps.bind (Keeps.require _ _) fun _ => Keeps.require _ _

theorem whenPresent (_h : ClosedNpx P) {x : M Unit} (hx : Keeps P x) : Keeps P (Machine.whenPresent x) :=
  Keeps.get_bind fun _ => Keeps.ite hx (Keeps.pure _)

theorem latch (h : ClosedNpx P) {s : State} (op : BitVec 11) (m : Option Ea) (hs : P s) : P (s.latch op m) := by
  have he := h.esOk s hs
  unfold State.latch
  cases m with
  | none => exact h.npx s _ hs he
  | some ea => exact h.npx s _ hs he

theorem overrun (h : ClosedNpx P) : Keeps P (Machine.overrun : M α) :=
  Keeps.bind (h.numeric KeepsES.loseNpx) fun _ => Keeps.raise _

theorem getWords (h : ClosedNpx P) (r : SegReg) : ∀ k off, Keeps P (Machine.getWords r k off)
  | 0, _ => Keeps.pure _
  | k + 1, _ => Keeps.get_bind fun _ => Keeps.ite (Keeps.bind (h.toClosed.load16 _) fun _ =>
    Keeps.bind (h.getWords r k _) fun _ => Keeps.pure _) h.overrun

theorem putWords (h : ClosedNpx P) (r : SegReg) : ∀ off ws, Keeps P (Machine.putWords r off ws)
  | _, [] => Keeps.pure _
  | _, _ :: rest => Keeps.get_bind fun _ => Keeps.ite
    (Keeps.bind (Keeps.mod fun _ hs => h.mem16 _ _ _ hs) fun _ => h.putWords r _ rest) h.overrun

theorem escReg (h : ClosedNpx P) (op : BitVec 11) {x : N Unit} (hx : KeepsES x) : Keeps P (Machine.escReg op x) :=
  Keeps.bind (h.escTest _) fun _ => h.whenPresent <| Keeps.bind (Keeps.mod fun _ hs => h.latch _ _ hs) fun _ =>
    Keeps.bind (h.numeric hx) fun _ => Keeps.pure _

theorem escLoad (h : ClosedNpx P) (op : BitVec 11) (ea : Ea) (k : Nat) {x : Nat → N Unit} (hx : ∀ v, KeepsES (x v)) :
    Keeps P (Machine.escLoad op ea k x) :=
  Keeps.bind (h.escTest _) fun _ => Keeps.get_bind fun _ => Keeps.bind (h.checkRead _ _ _) fun _ => h.whenPresent <|
    Keeps.bind (Keeps.mod fun _ hs => h.latch _ _ hs) fun _ => Keeps.bind (h.getWords _ _ _) fun _ =>
    Keeps.bind (h.numeric (hx _)) fun _ => Keeps.pure _

theorem escStore (h : ClosedNpx P) (op : BitVec 11) (ea : Ea) (k : Nat) {x : N Nat} (hx : KeepsES x) :
    Keeps P (Machine.escStore op ea k x) := by
  refine Keeps.bind (h.escTest _) fun _ => Keeps.get_bind fun _ => Keeps.bind (h.checkWrite _ _ _) fun _ => h.whenPresent ?_
  refine Keeps.bind (Keeps.mod fun _ hs => h.latch _ _ hs) fun _ => Keeps.bind (h.numeric hx) fun v => ?_
  cases v with
  | none => exact Keeps.pure _
  | some v => exact h.putWords _ _ _

theorem escControl (h : ClosedNpx P) (c : Bool) {x : N Unit} (hx : KeepsES x) : Keeps P (Machine.escControl c x) :=
  Keeps.bind (h.escTest _) fun _ => h.whenPresent <| Keeps.bind (h.numeric hx) fun _ => Keeps.pure _

theorem escLoadState (h : ClosedNpx P) (ea : Ea) (k : Nat) {f : List Word → Npx → Npx}
    (hf : ∀ ws n, n.esOk → (f ws n).esOk) : Keeps P (Machine.escLoadState ea k f) :=
  Keeps.bind (h.escTest _) fun _ => Keeps.get_bind fun _ => Keeps.bind (h.checkRead _ _ _) fun _ => h.whenPresent <|
    Keeps.bind (h.getWords _ _ _) fun ws => Keeps.mod fun s hs => h.npx s _ hs (hf ws _ (h.esOk s hs))

theorem escStoreState (h : ClosedNpx P) (ea : Ea) (ab : List Word) (im : Npx → List Word) {x : N Unit}
    (hx : KeepsES x) : Keeps P (Machine.escStoreState ea ab im x) :=
  Keeps.bind (h.escTest _) fun _ => Keeps.get_bind fun _ => Keeps.bind (h.checkWrite _ _ _) fun _ =>
    Keeps.ite (Keeps.bind (h.putWords _ _ _) fun _ => Keeps.bind (h.numeric hx) fun _ => Keeps.pure _) (h.putWords _ _ _)

theorem statusToAx (h : ClosedNpx P) : Keeps P Machine.statusToAx :=
  Keeps.bind (h.escTest _) fun _ => Keeps.mod fun _ hs => h.reg16 _ _ hs

end ClosedNpx

theorem esOk_setCW (n : Npx) (w : Word) : (n.setCW w).esOk := esOk_fixES _
theorem esOk_envLoad (n : Npx) (ws : List Word) : (n.envLoad ws).esOk := esOk_fixES _
theorem esOk_loadEnv (ws : List Word) (n : Npx) : (Npx.loadEnv ws n).esOk := esOk_retag (esOk_envLoad n ws)

theorem esOk_loadAll (ws : List Word) (n : Npx) : (Npx.loadAll ws n).esOk :=
  esOk_retag (esOk_setReg _ _ (esOk_setReg _ _ (esOk_setReg _ _ (esOk_setReg _ _ (esOk_setReg _ _ (esOk_setReg _ _
    (esOk_setReg _ _ (esOk_setReg _ _ (esOk_envLoad n ws)))))))))

theorem esOk_clear (n : Npx) : n.clearFlags.esOk := (unmaskedFlag_zero _).symm

end Sys2Proof.Machine
end

