-- ==== Sys2Proof/Certificates/Slice0/Obligations.lean ====
section
/-! DEFINITION. What is stated of the model. A completion statement gives the whole next state, so that it is a frame
as well: what the equation does not name is unchanged, and what a store leaves unchanged in memory is
`MemoryAccesses`. The next state begins with the state after what was read: `read8`, `read16`, `afterLookup` and the
like are the state itself where memory stands, and add the cycles of the reads to `io` where it does not (20_memory.md
R88). -/

open Sys2Proof Sys2Proof.Machine

/-! ### Encoding -/

/-- Decode and encode agree, for every well-formed instruction and whatever bytes follow it (30_encoding.md R180,
R197). -/
def Obligations.DecodeEncodeAgree : Prop :=
  ∀ i : Instr, i.wf = true → ∀ rest : List Byte, decode (encode i ++ rest) = .ok i (encode i).length

/-- Every row of 30_encoding.md R204 decodes to the instruction it stands for. The row 26 8B 07, MOV AX,ES:[BX], is
two instructions of the model, the prefix byte and the MOV of the bytes after it: a prefix byte is a step by the
model's choice (log 9). -/
def Obligations.DecodeSpecWords : Prop :=
  decode [0x8E, 0xD8] = .ok (.movDsEw (.reg .ax)) 2 ∧
  decode [0x8E, 0xD0] = .ok (.movSsEw (.reg .ax)) 2 ∧
  decode [0x8B, 0x0E, 0x02, 0x00] = .ok (.movRwEw .cx (.mem (.direct 0x0002))) 4 ∧
  decode [0xF7, 0xE9] = .ok (.imulEw (.reg .cx)) 2 ∧
  decode [0x8B, 0xF0] = .ok (.movRwEw .si (.reg .ax)) 2 ∧
  decode [0x83, 0xEE, 0x04] = .ok (.subEwDb (.reg .si) 0x04) 3 ∧
  decode [0xFF, 0x0E, 0x02, 0x00] = .ok (.decEw (.mem (.direct 0x0002))) 4 ∧
  decode [0xE2, 0xEB] = .ok (.loopCb 0xEB) 2 ∧
  decode [0x9B] = .ok .wait 1 ∧
  decode [0xD9, 0x2E, 0x00, 0x00] = .ok (.fldcwM2byte (.direct 0x0000)) 4 ∧
  decode [0xD9, 0x84, 0x04, 0x00] = .ok (.fldM32real (.disp16 .si 0x0004)) 4 ∧
  decode [0xD9, 0xEE] = .ok .fldz 2 ∧
  decode [0x8B, 0x46, 0x06] = .ok (.movRwEw .ax (.mem (.disp8 .bp 0x06))) 3 ∧
  decode [0x01, 0x4F, 0x10] = .ok (.addEwRw (.mem (.disp8 .bx 0x10)) .cx) 3 ∧
  decode [0x8B, 0x13] = .ok (.movRwEw .dx (.mem (.noDisp .bpDi))) 2 ∧
  decode [0x81, 0x20, 0xFF, 0x03] = .ok (.andEwDw (.mem (.noDisp .bxSi)) 0x03FF) 4 ∧
  decode [0x81, 0x84, 0x00, 0x10, 0x34, 0x12] = .ok (.addEwDw (.mem (.disp16 .si 0x1000)) 0x1234) 6 ∧
  decode [0x26, 0x8B, 0x07] = .ok .pfxEs 1 ∧ decode [0x8B, 0x07] = .ok (.movRwEw .ax (.mem (.noDisp .bx))) 2 ∧
  decode [0xC8, 0x10, 0x00, 0x02] = .ok (.enterDwDb 0x0010 0x02) 4 ∧
  decode [0xEA, 0x00, 0x10, 0x00, 0xF0] = .ok (.jmpCd 0x1000 0xF000) 5

/-- Every encoding that 30_encoding.md R200 lists as no instruction is refused, whatever follows: as undefined (#UD),
and 8FH /1 to /7 and FFH /7 as a general fault once their operand has been read. The rows of the instructions that
Real Address Mode does not recognize are SystemTraps, the length limit is R181's. That 82H, 83H /1, /4, /6, and D4H
and D5H with a byte other than 0AH are undefined is the spec's decision D14 (log 21). -/
def Obligations.UndefinedEncodingsRefused : Prop :=
  ∀ (rest : List Byte) (b m : Byte),
    let mod : BitVec 2 := m.extractLsb' 6 2
    let ext : BitVec 3 := m.extractLsb' 3 3
    (b ∈ ([0x64, 0x65, 0x66, 0x67, 0xD6, 0xF1, 0x82] : List Byte) → decode (b :: rest) = .error .undefinedOpcode) ∧
    ((b = 0x83 ∧ ext ∈ ([1, 4, 6] : List (BitVec 3))) ∨
      (b ∈ ([0x8C, 0x8E] : List Byte) ∧ ext ∈ ([4, 5, 6, 7] : List (BitVec 3))) ∨ (b = 0x8E ∧ ext = 1) ∨
      (b ∈ ([0xC0, 0xC1, 0xD0, 0xD1, 0xD2, 0xD3] : List Byte) ∧ ext = 6) ∨
      (b ∈ ([0xC6, 0xC7] : List Byte) ∧ ext ≠ 0) ∨ (b ∈ ([0xD4, 0xD5] : List Byte) ∧ m ≠ 0x0A) ∨
      (b ∈ ([0xF6, 0xF7] : List Byte) ∧ ext = 1) ∨ (b = 0xFE ∧ ext ≠ 0 ∧ ext ≠ 1) ∨
      (b = 0xFF ∧ (ext = 3 ∨ ext = 5) ∧ mod = 3) ∨
      (b ∈ ([0x62, 0x8D, 0xC4, 0xC5] : List Byte) ∧ mod = 3) →
      decode (b :: m :: rest) = .error .undefinedOpcode) ∧
    (b ∉ ([0x00, 0x01, 0x02, 0x03, 0x06] : List Byte) → decode (0x0F :: b :: rest) = .error .undefinedOpcode) ∧
    ((b = 0x00 ∧ (ext = 6 ∨ ext = 7)) ∨ (b = 0x01 ∧ (ext = 5 ∨ ext = 7 ∨ (ext.toNat ≤ 3 ∧ mod = 3))) →
      decode (0x0F :: b :: m :: rest) = .error .undefinedOpcode) ∧
    ((b = 0x8F ∧ ext ≠ 0) ∨ (b = 0xFF ∧ ext = 7) → mod = 3 ∨ 2 ≤ rest.length →
      decode (b :: m :: rest) = .error .general)

/-! ### The step -/

/-- A step runs the decoded instruction. At an instruction boundary with nothing due, `exec` runs on the state whose
cur_IP is the instruction's address and whose IP is past it, the latches that cover one boundary being cleared and the
single-step trap armed by TF; after prefix bytes, `exec` runs with the prefixes read so far. The next iteration of a
repeated string instruction runs without a fetch (60_exceptions.md R734; 10_state.md R41, R71, R73; 30_encoding.md
R181; 44_string.md R435). The grain of a step is the model's choice (log 9), and so are the carry out of IP (log 50)
and the count of steps (log 3). -/
def Obligations.StepRunsDecodedInstruction : Prop :=
  ∀ s : State, s.lines.ready = true → s.lines.reset = false → s.lines.rising = none → s.run = .running →
    (∀ i : Instr, i.wf = true → s.stale = [] → s.ipPast = false →
      s.ip.toNat + (encode i).length ≤ s.cs.limit.toNat + 1 → s.pfx.count + (encode i).length ≤ maxLength →
      let t := { s with ip := s.ip + BitVec.ofNat 16 (encode i).length
                        ipPast := decide (65536 ≤ s.ip.toNat + (encode i).length)
                        clock := s.clock + 1, bus := [] }
      (∀ k < (encode i).length, t.mem8 (s.cs.lin (s.ip + BitVec.ofNat 16 k)) = (encode i).getD k 0) →
      (s.pfx.count = 0 → s.repeating = none → s.boundaryDone = true ∨ s.eventDue s.inhibit s.stiShadow = false →
        step s = exec i { t with curIP := s.ip, inhibit := false, stiShadow := false, boundaryDone := false
                                 stepPending := s.flag .tf, pfx := Prefixes.none }) ∧
      (s.pfx.count ≠ 0 → step s = exec i t)) ∧
    (∀ r : Repetition, s.repeating = some r → s.pfx.count = 0 →
      s.boundaryDone = true ∨ s.eventDue s.inhibit s.stiShadow = false →
      step s = exec r.instr { s with ip := r.ip, ipPast := r.ipPast, pfx := r.pfx, repeating := none, curIP := s.ip
                                     inhibit := false, stiShadow := false, boundaryDone := false
                                     stepPending := s.flag .tf, clock := s.clock + 1, bus := [] })

/-- Every step answers a next state: no instruction, operand, exception or input line ends a run. While READY is
inactive a running CPU waits until RESET; a halted or shut down one, which uses no bus, goes on waiting for an event
(20_memory.md R169; 70_reset_and_hazards.md R820, R862). That a step of waiting leaves the whole state as it was is
the model's form for it (log 44). -/
def Obligations.EveryStepAnswers : Prop :=
  ∀ s : State, (∃ t, step s = .next t) ∧
    (s.lines.reset = false → s.lines.rising = none →
      (s.lines.ready = false → s.run = .running → step s = .next s) ∧
      (s.run = .halted → s.eventDue s.inhibit s.stiShadow = false → step s = .next s.atEvent) ∧
      (s.run = .shutdown → s.nmiPending = false ∨ s.nmiMask = true → step s = .next s.atEvent))

/-- The events of a boundary, each when no other is due: INTR is taken if IF is set and no latch covers the boundary,
with the vector on the lines; NMI is vector 2 and is not taken while it is masked, which its own delivery brings
about; the single-step trap is vector 1 and its delivery clears TF; the processor extension segment overrun that
waited for the end of NMI masking is vector 9. All are also taken by a halted machine, which with none due goes on
waiting (60_exceptions.md R734 to R738, R745; 45_flag_io_misc.md R463). That the deliveries of one boundary are a step
of their own is the model's choice (log 9), and so are the lines and the vector as fields of the state (log 8, log
49); that an overrun waits while NMI is masked and is delivered at the first boundary at which it is not is the spec's
decision D46 (log 40). -/
def Obligations.InterruptRequest : Prop :=
  (∀ s : State, s.lines.ready = true → s.lines.reset = false → s.lines.rising = none → s.boundaryNext = true →
    let t := s.atEvent
    (s.stepPending = false → s.nmiPending = false → s.mpPending = false →
      (s.lines.intr = true → s.flag .if_ = true → s.inhibit = false → s.stiShadow = false →
        step s = .next (deliver s.lines.vector .intr none t).boundaryRun) ∧
      (s.run = .halted → s.flag .if_ = false → step s = .next t)) ∧
    (s.lines.intr = false → s.inhibit = false →
      (s.stepPending = false → s.nmiPending = true → s.mpPending = false →
        (s.nmiMask = false → step s = .next (deliver 2 .nmi none { t with nmiPending := false }).boundaryRun) ∧
        (s.nmiMask = true → s.run = .halted → step s = .next t)) ∧
      (s.stepPending = true → s.nmiPending = false → s.mpPending = false →
        step s = .next (deliver 1 .step none { t with stepPending := false }).boundaryRun) ∧
      (s.stepPending = false → s.nmiPending = false → s.mpPending = true → s.nmiMask = false →
        step s = .next (deliver 9 .mp none { t with mpPending := false }).boundaryRun))) ∧
  (∀ (s : State) (n : Byte) (k : EventKind), k ∈ [EventKind.nmi, .step, .mp, .intr] → s.realEntryOk n = true →
    let u := deliver n k none s
    u = ({ s with curIP := s.ip }.realEntered n s.ip).delivered k ∧ u.flag .tf = false ∧ u.flag .if_ = false ∧
      (u.nmiMask = true ↔ k = .nmi ∨ s.nmiMask = true) ∧ u.stepPending = false ∧ u.run = .running)

/-! ### Reset, and what every step keeps -/

/-- The state after RESET: every item of 10_state.md R77 and R78 to which they give a value, in State.reset and in the
state that a step makes of any machine whose RESET line is asserted, whatever it was doing and whether or not READY is
active. Memory, what devices have seen, the 80287's registers, pointers and opcode are not changed. A RESET that rises
inside a step, after k of its data cycles, abandons the instruction: what the first k cycles stored and what devices
saw of them stays (70_reset_and_hazards.md R820). That LDTR and TR are not valid is the spec's decision D22 (log 29),
that the 80287 is reset by the same line is D48 (log 45), and how the lines tell of a RESET inside a step, the 80287's
registers after it among it, is the model's choice (log 58). The low byte of its status word is 00H
(48_npx_architecture.md R539). -/
def Obligations.ResetState : Prop :=
  (State.reset.flags.word = 0x0002 ∧ State.reset.msw = 0xFFF0 ∧ State.reset.ip = 0xFFF0 ∧
  State.reset.cs.sel = 0xF000 ∧ State.reset.cs.base = 0xFF0000 ∧ State.reset.cs.limit = 0xFFFF ∧
  (∀ r ∈ [SegReg.ds, SegReg.ss, SegReg.es],
    (State.reset.seg r).sel = 0 ∧ (State.reset.seg r).base = 0 ∧ (State.reset.seg r).limit = 0xFFFF) ∧
  (∀ r, (State.reset.seg r).valid = true ∧ (State.reset.seg r).readable = true ∧ (State.reset.seg r).writable = true) ∧
  State.reset.cpl = 0 ∧ State.reset.idtr = ⟨0x000000, 0x03FF⟩ ∧
  State.reset.ldtr.valid = false ∧ State.reset.tr.valid = false ∧
  State.reset.inhibit = false ∧ State.reset.stepPending = false ∧
  State.reset.nmiMask = false ∧ State.reset.nmiPending = false ∧ State.reset.mpPending = false ∧
  State.reset.run = .running ∧ State.reset.cs.lin State.reset.ip = 0xFFFFF0 ∧ State.reset.stale = [] ∧
  State.reset.npx.cw = 0x037F ∧ State.reset.npx.tw = 0xFFFF ∧ State.reset.npx.top = 0 ∧
  State.reset.npx.sw.word &&& 0x80FF = 0 ∧ State.reset.npx.protectedMode = false) ∧
  (∀ s : State, s.lines.reset = true → s.lines.rising = none → ∃ t, step s = .next t ∧ t.resetFrom s s) ∧
  (∀ (s : State) (k : Nat), s.lines.rising = some k → ∃ u t,
    { s with bus := [] }.unbroken = .next u ∧ step s = .next t ∧
      t.resetFrom s (s.replay (u.bus.drop (u.bus.length - k))) ∧ t.lines = { s.lines with reset := true, rising := none })

/-- The invariant holds after RESET. -/
def Obligations.ResetInvariant : Prop := State.reset.Inv

/-- Every step keeps the invariant: memory canonical, the reserved bits of MSW as they read, ES a function of the
flags and masks, no more prefix bytes than an instruction may have, and in Real Address Mode CPL 0 and four usable
64K-byte segments. The reserved bits are the spec's decisions D3 and D4 (log 15, log 16), CPL's latch is D2 (log 17). -/
def Obligations.StepKeepsInvariant : Prop := ∀ s t : State, s.Inv → step s = .next t → t.Inv

/-- Protected Mode is left only by RESET (10_state.md R53). -/
def Obligations.ProtectedModeStays : Prop :=
  ∀ s t : State, s.lines.reset = false → s.lines.rising = none → s.pe = true → step s = .next t → t.pe = true

/-- An instruction that is not an ESC changes nothing of the 80287 (10_state.md R59; 48_npx_architecture.md R530).
That OUT and OUTS to the ports 00F8H to 00FFH change nothing of it, which the spec leaves undefined
(48_npx_architecture.md R532; 20_memory.md R132), is the model's choice (log 7). -/
def Obligations.NpxChangedOnlyByEsc : Prop :=
  ∀ (i : Instr) (s t : State), isEsc i = false → exec i s = .next t → t.npx = s.npx

/-! ### Flags -/

/-- The flags of an addition, as the integers say (10_state.md R25, R29 to R33). -/
def Obligations.AdditionFlags : Prop :=
  ∀ (n : Nat), n = 8 ∨ n = 16 → ∀ (a b : BitVec n) (c : Bool),
    let r := addFlags a b c
    r.1.toNat = (a.toNat + b.toNat + c.toNat) % 2 ^ n ∧
    (r.2.cf = true ↔ 2 ^ n ≤ a.toNat + b.toNat + c.toNat) ∧
    (r.2.of = true ↔ a.toInt + b.toInt + c.toNat < -2 ^ (n - 1) ∨ 2 ^ (n - 1) ≤ a.toInt + b.toInt + c.toNat) ∧
    (r.2.af = true ↔ 16 ≤ a.toNat % 16 + b.toNat % 16 + c.toNat) ∧
    (r.2.zf = true ↔ r.1.toNat = 0) ∧ (r.2.sf = true ↔ r.1.toInt < 0) ∧
    (r.2.pf = true ↔ ((List.range 8).countP fun i => r.1.getLsbD i) % 2 = 0)

/-- The flags of a subtraction, as the integers say (10_state.md R25, R29 to R33). -/
def Obligations.SubtractionFlags : Prop :=
  ∀ (n : Nat), n = 8 ∨ n = 16 → ∀ (a b : BitVec n) (c : Bool),
    let r := subFlags a b c
    (r.1.toNat : Int) = ((a.toNat : Int) - b.toNat - c.toNat) % 2 ^ n ∧
    (r.2.cf = true ↔ a.toNat < b.toNat + c.toNat) ∧
    (r.2.of = true ↔ a.toInt - b.toInt - c.toNat < -2 ^ (n - 1) ∨ 2 ^ (n - 1) ≤ a.toInt - b.toInt - c.toNat) ∧
    (r.2.af = true ↔ a.toNat % 16 < b.toNat % 16 + c.toNat) ∧
    (r.2.zf = true ↔ r.1.toNat = 0) ∧ (r.2.sf = true ↔ r.1.toInt < 0) ∧
    (r.2.pf = true ↔ ((List.range 8).countP fun i => r.1.getLsbD i) % 2 = 0)

/-! ### Arithmetic and logic -/

/-- ADD, ADC, SUB and SBB, all nine forms of each: the destination gets the sum or difference, FLAGS its flags, and
nothing else changes (41_arithmetic.md R270 to R274). -/
def Obligations.AddSubtractResults : Prop :=
  ∀ s : State, s.lockOk = true →
    (∀ d r, s.canWrite 1 d = true → exec (.addEbRb d r) s =
      .next ((s.read8 d).alu8 d (addFlags (s.val8 d) (s.reg8 r) false)).done) ∧
    (∀ d r, s.canWrite 2 d = true → exec (.addEwRw d r) s =
      .next ((s.read16 d).alu16 d (addFlags (s.val16 d) (s.reg16 r) false)).done) ∧
    (∀ r d, s.canRead 1 d = true → exec (.addRbEb r d) s =
      .next ((s.read8 d).alu8 (.reg r) (addFlags (s.reg8 r) (s.val8 d) false)).done) ∧
    (∀ r d, s.canRead 2 d = true → exec (.addRwEw r d) s =
      .next ((s.read16 d).alu16 (.reg r) (addFlags (s.reg16 r) (s.val16 d) false)).done) ∧
    (∀ imm, exec (.addAlDb imm) s = .next (s.alu8 (.reg .al) (addFlags (s.reg8 .al) imm false)).done) ∧
    (∀ imm, exec (.addAxDw imm) s = .next (s.alu16 (.reg .ax) (addFlags s.gpr.ax imm false)).done) ∧
    (∀ d imm, s.canWrite 1 d = true → exec (.addEbDb d imm) s = .next ((s.read8 d).alu8 d (addFlags (s.val8 d) imm false)).done) ∧
    (∀ d imm, s.canWrite 2 d = true → exec (.addEwDw d imm) s =
      .next ((s.read16 d).alu16 d (addFlags (s.val16 d) imm false)).done) ∧
    (∀ d imm, s.canWrite 2 d = true → exec (.addEwDb d imm) s =
      .next ((s.read16 d).alu16 d (addFlags (s.val16 d) (imm.signExtend 16) false)).done) ∧
    (∀ d r, s.canWrite 1 d = true → exec (.adcEbRb d r) s =
      .next ((s.read8 d).alu8 d (addFlags (s.val8 d) (s.reg8 r) (s.flag .cf))).done) ∧
    (∀ d r, s.canWrite 2 d = true → exec (.adcEwRw d r) s =
      .next ((s.read16 d).alu16 d (addFlags (s.val16 d) (s.reg16 r) (s.flag .cf))).done) ∧
    (∀ r d, s.canRead 1 d = true → exec (.adcRbEb r d) s =
      .next ((s.read8 d).alu8 (.reg r) (addFlags (s.reg8 r) (s.val8 d) (s.flag .cf))).done) ∧
    (∀ r d, s.canRead 2 d = true → exec (.adcRwEw r d) s =
      .next ((s.read16 d).alu16 (.reg r) (addFlags (s.reg16 r) (s.val16 d) (s.flag .cf))).done) ∧
    (∀ imm, exec (.adcAlDb imm) s = .next (s.alu8 (.reg .al) (addFlags (s.reg8 .al) imm (s.flag .cf))).done) ∧
    (∀ imm, exec (.adcAxDw imm) s = .next (s.alu16 (.reg .ax) (addFlags s.gpr.ax imm (s.flag .cf))).done) ∧
    (∀ d imm, s.canWrite 1 d = true → exec (.adcEbDb d imm) s =
      .next ((s.read8 d).alu8 d (addFlags (s.val8 d) imm (s.flag .cf))).done) ∧
    (∀ d imm, s.canWrite 2 d = true → exec (.adcEwDw d imm) s =
      .next ((s.read16 d).alu16 d (addFlags (s.val16 d) imm (s.flag .cf))).done) ∧
    (∀ d imm, s.canWrite 2 d = true → exec (.adcEwDb d imm) s =
      .next ((s.read16 d).alu16 d (addFlags (s.val16 d) (imm.signExtend 16) (s.flag .cf))).done) ∧
    (∀ d r, s.canWrite 1 d = true → exec (.subEbRb d r) s =
      .next ((s.read8 d).alu8 d (subFlags (s.val8 d) (s.reg8 r) false)).done) ∧
    (∀ d r, s.canWrite 2 d = true → exec (.subEwRw d r) s =
      .next ((s.read16 d).alu16 d (subFlags (s.val16 d) (s.reg16 r) false)).done) ∧
    (∀ r d, s.canRead 1 d = true → exec (.subRbEb r d) s =
      .next ((s.read8 d).alu8 (.reg r) (subFlags (s.reg8 r) (s.val8 d) false)).done) ∧
    (∀ r d, s.canRead 2 d = true → exec (.subRwEw r d) s =
      .next ((s.read16 d).alu16 (.reg r) (subFlags (s.reg16 r) (s.val16 d) false)).done) ∧
    (∀ imm, exec (.subAlDb imm) s = .next (s.alu8 (.reg .al) (subFlags (s.reg8 .al) imm false)).done) ∧
    (∀ imm, exec (.subAxDw imm) s = .next (s.alu16 (.reg .ax) (subFlags s.gpr.ax imm false)).done) ∧
    (∀ d imm, s.canWrite 1 d = true → exec (.subEbDb d imm) s = .next ((s.read8 d).alu8 d (subFlags (s.val8 d) imm false)).done) ∧
    (∀ d imm, s.canWrite 2 d = true → exec (.subEwDw d imm) s =
      .next ((s.read16 d).alu16 d (subFlags (s.val16 d) imm false)).done) ∧
    (∀ d imm, s.canWrite 2 d = true → exec (.subEwDb d imm) s =
      .next ((s.read16 d).alu16 d (subFlags (s.val16 d) (imm.signExtend 16) false)).done) ∧
    (∀ d r, s.canWrite 1 d = true → exec (.sbbEbRb d r) s =
      .next ((s.read8 d).alu8 d (subFlags (s.val8 d) (s.reg8 r) (s.flag .cf))).done) ∧
    (∀ d r, s.canWrite 2 d = true → exec (.sbbEwRw d r) s =
      .next ((s.read16 d).alu16 d (subFlags (s.val16 d) (s.reg16 r) (s.flag .cf))).done) ∧
    (∀ r d, s.canRead 1 d = true → exec (.sbbRbEb r d) s =
      .next ((s.read8 d).alu8 (.reg r) (subFlags (s.reg8 r) (s.val8 d) (s.flag .cf))).done) ∧
    (∀ r d, s.canRead 2 d = true → exec (.sbbRwEw r d) s =
      .next ((s.read16 d).alu16 (.reg r) (subFlags (s.reg16 r) (s.val16 d) (s.flag .cf))).done) ∧
    (∀ imm, exec (.sbbAlDb imm) s = .next (s.alu8 (.reg .al) (subFlags (s.reg8 .al) imm (s.flag .cf))).done) ∧
    (∀ imm, exec (.sbbAxDw imm) s = .next (s.alu16 (.reg .ax) (subFlags s.gpr.ax imm (s.flag .cf))).done) ∧
    (∀ d imm, s.canWrite 1 d = true → exec (.sbbEbDb d imm) s =
      .next ((s.read8 d).alu8 d (subFlags (s.val8 d) imm (s.flag .cf))).done) ∧
    (∀ d imm, s.canWrite 2 d = true → exec (.sbbEwDw d imm) s =
      .next ((s.read16 d).alu16 d (subFlags (s.val16 d) imm (s.flag .cf))).done) ∧
    (∀ d imm, s.canWrite 2 d = true → exec (.sbbEwDb d imm) s =
      .next ((s.read16 d).alu16 d (subFlags (s.val16 d) (imm.signExtend 16) (s.flag .cf))).done)

/-- CMP sets the flags of the difference, TEST those of the conjunction (AF undefined); no operand is written
(41_arithmetic.md R275; 42_logical_shift_rotate.md R314). -/
def Obligations.CompareAndTest : Prop :=
  ∀ s : State, s.lockOk = true →
    (∀ d r, s.canRead 1 d = true → exec (.cmpEbRb d r) s =
      .next ((s.read8 d).setStatus (subFlags (s.val8 d) (s.reg8 r) false).2).done) ∧
    (∀ d r, s.canRead 2 d = true → exec (.cmpEwRw d r) s =
      .next ((s.read16 d).setStatus (subFlags (s.val16 d) (s.reg16 r) false).2).done) ∧
    (∀ r d, s.canRead 1 d = true → exec (.cmpRbEb r d) s =
      .next ((s.read8 d).setStatus (subFlags (s.reg8 r) (s.val8 d) false).2).done) ∧
    (∀ r d, s.canRead 2 d = true → exec (.cmpRwEw r d) s =
      .next ((s.read16 d).setStatus (subFlags (s.reg16 r) (s.val16 d) false).2).done) ∧
    (∀ imm, exec (.cmpAlDb imm) s = .next (s.setStatus (subFlags (s.reg8 .al) imm false).2).done) ∧
    (∀ imm, exec (.cmpAxDw imm) s = .next (s.setStatus (subFlags s.gpr.ax imm false).2).done) ∧
    (∀ d imm, s.canRead 1 d = true → exec (.cmpEbDb d imm) s =
      .next ((s.read8 d).setStatus (subFlags (s.val8 d) imm false).2).done) ∧
    (∀ d imm, s.canRead 2 d = true → exec (.cmpEwDw d imm) s =
      .next ((s.read16 d).setStatus (subFlags (s.val16 d) imm false).2).done) ∧
    (∀ d imm, s.canRead 2 d = true → exec (.cmpEwDb d imm) s =
      .next ((s.read16 d).setStatus (subFlags (s.val16 d) (imm.signExtend 16) false).2).done) ∧
    (∀ d r, s.canRead 1 d = true → ∃ af, exec (.testEbRb d r) s =
      .next ((s.read8 d).logical ((s.val8 d) &&& (s.reg8 r)) af).done) ∧
    (∀ d r, s.canRead 2 d = true → ∃ af, exec (.testEwRw d r) s =
      .next ((s.read16 d).logical ((s.val16 d) &&& (s.reg16 r)) af).done) ∧
    (∀ imm, ∃ af, exec (.testAlDb imm) s = .next (s.logical ((s.reg8 .al) &&& imm) af).done) ∧
    (∀ imm, ∃ af, exec (.testAxDw imm) s = .next (s.logical (s.gpr.ax &&& imm) af).done) ∧
    (∀ d imm, s.canRead 1 d = true → ∃ af, exec (.testEbDb d imm) s = .next ((s.read8 d).logical ((s.val8 d) &&& imm) af).done) ∧
    (∀ d imm, s.canRead 2 d = true → ∃ af, exec (.testEwDw d imm) s = .next ((s.read16 d).logical ((s.val16 d) &&& imm) af).done)

/-- AND, OR and XOR, every form: the destination gets the result, CF and OF are 0, SF, ZF and PF follow the result, AF
is undefined (42_logical_shift_rotate.md R310 to R313). -/
def Obligations.LogicResults : Prop :=
  ∀ s : State, s.lockOk = true →
    (∀ d r, s.canWrite 1 d = true → ∃ af, exec (.andEbRb d r) s =
      .next (s.put8 ((s.read8 d).logical (s.val8 d &&& s.reg8 r) af) d (s.val8 d &&& s.reg8 r)).done) ∧
    (∀ d r, s.canWrite 2 d = true → ∃ af, exec (.andEwRw d r) s =
      .next (s.put16 ((s.read16 d).logical (s.val16 d &&& s.reg16 r) af) d (s.val16 d &&& s.reg16 r)).done) ∧
    (∀ r d, s.canRead 1 d = true → ∃ af, exec (.andRbEb r d) s =
      .next (s.put8 ((s.read8 d).logical (s.reg8 r &&& s.val8 d) af) (.reg r) (s.reg8 r &&& s.val8 d)).done) ∧
    (∀ r d, s.canRead 2 d = true → ∃ af, exec (.andRwEw r d) s =
      .next (s.put16 ((s.read16 d).logical (s.reg16 r &&& s.val16 d) af) (.reg r) (s.reg16 r &&& s.val16 d)).done) ∧
    (∀ imm, ∃ af, exec (.andAlDb imm) s =
      .next (s.put8 (s.logical (s.reg8 .al &&& imm) af) (.reg .al) (s.reg8 .al &&& imm)).done) ∧
    (∀ imm, ∃ af, exec (.andAxDw imm) s =
      .next (s.put16 (s.logical (s.gpr.ax &&& imm) af) (.reg .ax) (s.gpr.ax &&& imm)).done) ∧
    (∀ d imm, s.canWrite 1 d = true → ∃ af, exec (.andEbDb d imm) s =
      .next (s.put8 ((s.read8 d).logical (s.val8 d &&& imm) af) d (s.val8 d &&& imm)).done) ∧
    (∀ d imm, s.canWrite 2 d = true → ∃ af, exec (.andEwDw d imm) s =
      .next (s.put16 ((s.read16 d).logical (s.val16 d &&& imm) af) d (s.val16 d &&& imm)).done) ∧
    (∀ d r, s.canWrite 1 d = true → ∃ af, exec (.orEbRb d r) s =
      .next (s.put8 ((s.read8 d).logical (s.val8 d ||| s.reg8 r) af) d (s.val8 d ||| s.reg8 r)).done) ∧
    (∀ d r, s.canWrite 2 d = true → ∃ af, exec (.orEwRw d r) s =
      .next (s.put16 ((s.read16 d).logical (s.val16 d ||| s.reg16 r) af) d (s.val16 d ||| s.reg16 r)).done) ∧
    (∀ r d, s.canRead 1 d = true → ∃ af, exec (.orRbEb r d) s =
      .next (s.put8 ((s.read8 d).logical (s.reg8 r ||| s.val8 d) af) (.reg r) (s.reg8 r ||| s.val8 d)).done) ∧
    (∀ r d, s.canRead 2 d = true → ∃ af, exec (.orRwEw r d) s =
      .next (s.put16 ((s.read16 d).logical (s.reg16 r ||| s.val16 d) af) (.reg r) (s.reg16 r ||| s.val16 d)).done) ∧
    (∀ imm, ∃ af, exec (.orAlDb imm) s =
      .next (s.put8 (s.logical (s.reg8 .al ||| imm) af) (.reg .al) (s.reg8 .al ||| imm)).done) ∧
    (∀ imm, ∃ af, exec (.orAxDw imm) s =
      .next (s.put16 (s.logical (s.gpr.ax ||| imm) af) (.reg .ax) (s.gpr.ax ||| imm)).done) ∧
    (∀ d imm, s.canWrite 1 d = true → ∃ af, exec (.orEbDb d imm) s =
      .next (s.put8 ((s.read8 d).logical (s.val8 d ||| imm) af) d (s.val8 d ||| imm)).done) ∧
    (∀ d imm, s.canWrite 2 d = true → ∃ af, exec (.orEwDw d imm) s =
      .next (s.put16 ((s.read16 d).logical (s.val16 d ||| imm) af) d (s.val16 d ||| imm)).done) ∧
    (∀ d r, s.canWrite 1 d = true → ∃ af, exec (.xorEbRb d r) s =
      .next (s.put8 ((s.read8 d).logical (s.val8 d ^^^ s.reg8 r) af) d (s.val8 d ^^^ s.reg8 r)).done) ∧
    (∀ d r, s.canWrite 2 d = true → ∃ af, exec (.xorEwRw d r) s =
      .next (s.put16 ((s.read16 d).logical (s.val16 d ^^^ s.reg16 r) af) d (s.val16 d ^^^ s.reg16 r)).done) ∧
    (∀ r d, s.canRead 1 d = true → ∃ af, exec (.xorRbEb r d) s =
      .next (s.put8 ((s.read8 d).logical (s.reg8 r ^^^ s.val8 d) af) (.reg r) (s.reg8 r ^^^ s.val8 d)).done) ∧
    (∀ r d, s.canRead 2 d = true → ∃ af, exec (.xorRwEw r d) s =
      .next (s.put16 ((s.read16 d).logical (s.reg16 r ^^^ s.val16 d) af) (.reg r) (s.reg16 r ^^^ s.val16 d)).done) ∧
    (∀ imm, ∃ af, exec (.xorAlDb imm) s =
      .next (s.put8 (s.logical (s.reg8 .al ^^^ imm) af) (.reg .al) (s.reg8 .al ^^^ imm)).done) ∧
    (∀ imm, ∃ af, exec (.xorAxDw imm) s =
      .next (s.put16 (s.logical (s.gpr.ax ^^^ imm) af) (.reg .ax) (s.gpr.ax ^^^ imm)).done) ∧
    (∀ d imm, s.canWrite 1 d = true → ∃ af, exec (.xorEbDb d imm) s =
      .next (s.put8 ((s.read8 d).logical (s.val8 d ^^^ imm) af) d (s.val8 d ^^^ imm)).done) ∧
    (∀ d imm, s.canWrite 2 d = true → ∃ af, exec (.xorEwDw d imm) s =
      .next (s.put16 ((s.read16 d).logical (s.val16 d ^^^ imm) af) d (s.val16 d ^^^ imm)).done)

/-- INC and DEC leave CF as it was; NEG subtracts from 0; NOT changes no flag (41_arithmetic.md R276 to R278;
42_logical_shift_rotate.md R315). -/
def Obligations.IncDecNegNot : Prop :=
  ∀ s : State, s.lockOk = true →
    (∀ r, exec (.incRw r) s =
      .next (s.put16 (s.setStatusButCarry (addFlags (s.reg16 r) (1 : Word) false).2) (.reg r) (addFlags (s.reg16 r) 1 false).1).done) ∧
    (∀ d, s.canWrite 1 d = true → exec (.incEb d) s =
      .next (s.put8 ((s.read8 d).setStatusButCarry (addFlags (s.val8 d) (1 : Byte) false).2) d (addFlags (s.val8 d) 1 false).1).done) ∧
    (∀ d, s.canWrite 2 d = true → exec (.incEw d) s =
      .next (s.put16 ((s.read16 d).setStatusButCarry (addFlags (s.val16 d) (1 : Word) false).2) d (addFlags (s.val16 d) 1 false).1).done) ∧
    (∀ r, exec (.decRw r) s =
      .next (s.put16 (s.setStatusButCarry (subFlags (s.reg16 r) (1 : Word) false).2) (.reg r) (subFlags (s.reg16 r) 1 false).1).done) ∧
    (∀ d, s.canWrite 1 d = true → exec (.decEb d) s =
      .next (s.put8 ((s.read8 d).setStatusButCarry (subFlags (s.val8 d) (1 : Byte) false).2) d (subFlags (s.val8 d) 1 false).1).done) ∧
    (∀ d, s.canWrite 2 d = true → exec (.decEw d) s =
      .next (s.put16 ((s.read16 d).setStatusButCarry (subFlags (s.val16 d) (1 : Word) false).2) d (subFlags (s.val16 d) 1 false).1).done) ∧
    (∀ d, s.canWrite 1 d = true → exec (.negEb d) s = .next ((s.read8 d).alu8 d (subFlags 0 (s.val8 d) false)).done) ∧
    (∀ d, s.canWrite 2 d = true → exec (.negEw d) s = .next ((s.read16 d).alu16 d (subFlags 0 (s.val16 d) false)).done) ∧
    (∀ d, s.canWrite 1 d = true → exec (.notEb d) s = .next (s.put8 (s.read8 d) d (~~~(s.val8 d))).done) ∧
    (∀ d, s.canWrite 2 d = true → exec (.notEw d) s = .next (s.put16 (s.read16 d) d (~~~(s.val16 d))).done)

/-- MUL and IMUL: the exact product of the operands, in AX, in DX:AX, or its low word in a register, and CF = OF = 1
if it does not fit the half (41_arithmetic.md R279 to R281). The other four status flags are undefined. -/
def Obligations.MultiplyResults : Prop :=
  ∀ s : State, s.lockOk = true →
    (∀ d, s.canRead 1 d = true → ∃ sf zf af pf,
      let p := (s.reg8 .al).toNat * (s.val8 d).toNat
      exec (.mulEb d) s =
        .next (((s.read8 d).setReg16 .ax (BitVec.ofNat 16 p)).multiplied (decide (2 ^ 8 ≤ p)) sf zf af pf).done) ∧
    (∀ d, s.canRead 2 d = true → ∃ sf zf af pf,
      let p := s.gpr.ax.toNat * (s.val16 d).toNat
      exec (.mulEw d) s =
        .next ((((s.read16 d).setReg16 .ax (BitVec.ofNat 16 p)).setReg16 .dx (BitVec.ofNat 16 (p / 2 ^ 16))).multiplied
          (decide (2 ^ 16 ≤ p)) sf zf af pf).done) ∧
    (∀ d, s.canRead 1 d = true → ∃ sf zf af pf,
      let p := (s.reg8 .al).toInt * (s.val8 d).toInt
      exec (.imulEb d) s =
        .next (((s.read8 d).setReg16 .ax (BitVec.ofInt 16 p)).multiplied (decide (p < -2 ^ 7 ∨ 2 ^ 7 ≤ p)) sf zf af pf).done) ∧
    (∀ d, s.canRead 2 d = true → ∃ sf zf af pf,
      let p := s.gpr.ax.toInt * (s.val16 d).toInt
      exec (.imulEw d) s =
        .next ((((s.read16 d).setReg16 .ax (BitVec.ofInt 16 p)).setReg16 .dx (BitVec.ofInt 16 (p / 2 ^ 16))).multiplied
          (decide (p < -2 ^ 15 ∨ 2 ^ 15 ≤ p)) sf zf af pf).done) ∧
    (∀ r d imm, s.canRead 2 d = true → ∃ sf zf af pf,
      let p := (s.val16 d).toInt * imm.toInt
      exec (.imulRwEwDw r d imm) s =
        .next (((s.read16 d).setReg16 r (BitVec.ofInt 16 p)).multiplied (decide (p < -2 ^ 15 ∨ 2 ^ 15 ≤ p)) sf zf af pf).done) ∧
    (∀ r d imm, s.canRead 2 d = true → ∃ sf zf af pf,
      let p := (s.val16 d).toInt * imm.toInt
      exec (.imulRwEwDb r d imm) s =
        .next (((s.read16 d).setReg16 r (BitVec.ofInt 16 p)).multiplied (decide (p < -2 ^ 15 ∨ 2 ^ 15 ≤ p)) sf zf af pf).done)

/-- DIV and IDIV: a quotient that fits and the remainder, which has the dividend's sign; all six status flags are
undefined. A divisor of 0 or a quotient that does not fit is exception 0, with nothing changed before its delivery
(41_arithmetic.md R282, R283; 60_exceptions.md R770). -/
def Obligations.DivideResults : Prop :=
  ∀ s : State, s.lockOk = true →
    (∀ d, s.canRead 1 d = true →
      let n := s.gpr.ax.toNat
      let v := (s.val8 d).toNat
      (v ≠ 0 → n / v < 2 ^ 8 → ∃ o si z a p c, exec (.divEb d) s =
        .next (((s.read8 d).setReg16 .ax (Word.of (BitVec.ofNat 8 (n % v)) (BitVec.ofNat 8 (n / v)))).divided o si z a p c).done) ∧
      (v = 0 ∨ 2 ^ 8 ≤ n / v → exec (.divEb d) s = .next (deliver 0 .fault none (s.read8 d)))) ∧
    (∀ d, s.canRead 2 d = true →
      let n := s.gpr.dx.toNat * 2 ^ 16 + s.gpr.ax.toNat
      let v := (s.val16 d).toNat
      (v ≠ 0 → n / v < 2 ^ 16 → ∃ o si z a p c, exec (.divEw d) s =
        .next ((((s.read16 d).setReg16 .ax (BitVec.ofNat 16 (n / v))).setReg16 .dx (BitVec.ofNat 16 (n % v))).divided
          o si z a p c).done) ∧
      (v = 0 ∨ 2 ^ 16 ≤ n / v → exec (.divEw d) s = .next (deliver 0 .fault none (s.read16 d)))) ∧
    (∀ d, s.canRead 1 d = true →
      let n := s.gpr.ax.toInt
      let v := (s.val8 d).toInt
      (v ≠ 0 → -2 ^ 7 ≤ n.tdiv v → n.tdiv v < 2 ^ 7 → ∃ o si z a p c, exec (.idivEb d) s =
        .next (((s.read8 d).setReg16 .ax (Word.of (BitVec.ofInt 8 (n.tmod v)) (BitVec.ofInt 8 (n.tdiv v)))).divided
          o si z a p c).done) ∧
      (v = 0 ∨ n.tdiv v < -2 ^ 7 ∨ 2 ^ 7 ≤ n.tdiv v → exec (.idivEb d) s = .next (deliver 0 .fault none (s.read8 d)))) ∧
    (∀ d, s.canRead 2 d = true →
      let n := s.gpr.dx.toInt * 2 ^ 16 + s.gpr.ax.toNat
      let v := (s.val16 d).toInt
      (v ≠ 0 → -2 ^ 15 ≤ n.tdiv v → n.tdiv v < 2 ^ 15 → ∃ o si z a p c, exec (.idivEw d) s =
        .next ((((s.read16 d).setReg16 .ax (BitVec.ofInt 16 (n.tdiv v))).setReg16 .dx (BitVec.ofInt 16 (n.tmod v))).divided
          o si z a p c).done) ∧
      (v = 0 ∨ n.tdiv v < -2 ^ 15 ∨ 2 ^ 15 ≤ n.tdiv v → exec (.idivEw d) s = .next (deliver 0 .fault none (s.read16 d))))

/-- The adjustments of decimal and unpacked arithmetic, CBW and CWD (41_arithmetic.md R284 to R289;
40_data_movement.md R255, R256). `low` is the condition on AL's low digit and AF, `high` the one on AL and CF after
it. That AAM and AAD take SF, ZF and PF from AL is the spec's reading G2 (log 53). -/
def Obligations.DecimalAdjustments : Prop :=
  ∀ s : State, s.lockOk = true →
    let low := decide (9 < (s.reg8 .al).toNat % 16) || s.flag .af
    let adjusted := fun (step : Byte → Byte → Byte) (o : Bool) =>
      let al1 := if low then step (s.reg8 .al) 0x06 else s.reg8 .al
      let high := decide (0x9F < al1.toNat) || s.flag .cf
      let al2 := if high then step al1 0x60 else al1
      (((((s.setReg8 .al al2).setFlag .af low).setFlag .cf high).setResultFlags al2).undefine [(.of, o)]).done
    let unpacked := fun (step : Byte → Byte → Byte) (o si z p : Bool) =>
      let al := if low then step (s.reg8 .al) 0x06 else s.reg8 .al
      let ah := if low then step (s.reg8 .ah) 0x01 else s.reg8 .ah
      ((((s.setReg16 .ax (Word.of ah (al &&& 0x0F))).setFlag .af low).setFlag .cf low).undefine
        [(.of, o), (.sf, si), (.zf, z), (.pf, p)]).done
    (∃ o, exec .daa s = .next (adjusted (· + ·) o)) ∧ (∃ o, exec .das s = .next (adjusted (· - ·) o)) ∧
    (∃ o si z p, exec .aaa s = .next (unpacked (· + ·) o si z p)) ∧
    (∃ o si z p, exec .aas s = .next (unpacked (· - ·) o si z p)) ∧
    (∃ o a c, exec .aam s = .next
      (((s.setReg16 .ax (Word.of (BitVec.ofNat 8 ((s.reg8 .al).toNat / 10)) (BitVec.ofNat 8 ((s.reg8 .al).toNat % 10)))
        ).setResultFlags (BitVec.ofNat 8 ((s.reg8 .al).toNat % 10))).undefine [(.of, o), (.af, a), (.cf, c)]).done) ∧
    (∃ o a c, exec .aad s = .next
      (((s.setReg16 .ax (Word.of 0 (s.reg8 .al + 10 * s.reg8 .ah))).setResultFlags
        (s.reg8 .al + 10 * s.reg8 .ah)).undefine [(.of, o), (.af, a), (.cf, c)]).done) ∧
    exec .cbw s = .next (s.setReg16 .ax ((s.reg8 .al).signExtend 16)).done ∧
    exec .cwd s = .next (s.setReg16 .dx (if s.gpr.ax.toInt < 0 then 0xFFFF else 0x0000)).done

/-- DAA after the addition of packed decimals gives the packed decimal sum and its carry, unless the binary sum is one
of the bytes FAH to FFH, which the printed definition does not correct (log 26); DAS after a subtraction gives the
difference and its borrow (41_arithmetic.md R284, R285). -/
def Obligations.DecimalSums : Prop :=
  ∀ (s : State) (a b : Nat), s.lockOk = true → a < 100 → b < 100 →
    (let r := addFlags (packed a) (packed b) false
     r.1.toNat < 0xFA → s.reg8 .al = r.1 → s.flag .af = r.2.af → s.flag .cf = r.2.cf →
      ∃ t, exec .daa s = .next t ∧ t.reg8 .al = packed ((a + b) % 100) ∧ t.flag .cf = decide (100 ≤ a + b)) ∧
    (let r := subFlags (packed a) (packed b) false
     s.reg8 .al = r.1 → s.flag .af = r.2.af → s.flag .cf = r.2.cf →
      ∃ t, exec .das s = .next t ∧ t.reg8 .al = packed ((a + 100 - b) % 100) ∧ t.flag .cf = decide (a < b))

/-- The seven shifts and rotates, by 1, by CL and by an immediate: the operand shifted by the count modulo 32, and the
flags of 42_logical_shift_rotate.md R318 (R316 to R326). A count of 0 is the spec's decision D19 (log 24). -/
def Obligations.ShiftResults : Prop :=
  ∀ s : State, s.lockOk = true →
    (∀ d, s.shifts8 .rol d 1 (.rolEb1 d)) ∧ (∀ d, s.shifts16 .rol d 1 (.rolEw1 d)) ∧
    (∀ d, s.shifts8 .rol d (s.reg8 .cl) (.rolEbCl d)) ∧ (∀ d, s.shifts16 .rol d (s.reg8 .cl) (.rolEwCl d)) ∧
    (∀ d imm, s.shifts8 .rol d imm (.rolEbDb d imm)) ∧ (∀ d imm, s.shifts16 .rol d imm (.rolEwDb d imm)) ∧
    (∀ d, s.shifts8 .ror d 1 (.rorEb1 d)) ∧ (∀ d, s.shifts16 .ror d 1 (.rorEw1 d)) ∧
    (∀ d, s.shifts8 .ror d (s.reg8 .cl) (.rorEbCl d)) ∧ (∀ d, s.shifts16 .ror d (s.reg8 .cl) (.rorEwCl d)) ∧
    (∀ d imm, s.shifts8 .ror d imm (.rorEbDb d imm)) ∧ (∀ d imm, s.shifts16 .ror d imm (.rorEwDb d imm)) ∧
    (∀ d, s.shifts8 .rcl d 1 (.rclEb1 d)) ∧ (∀ d, s.shifts16 .rcl d 1 (.rclEw1 d)) ∧
    (∀ d, s.shifts8 .rcl d (s.reg8 .cl) (.rclEbCl d)) ∧ (∀ d, s.shifts16 .rcl d (s.reg8 .cl) (.rclEwCl d)) ∧
    (∀ d imm, s.shifts8 .rcl d imm (.rclEbDb d imm)) ∧ (∀ d imm, s.shifts16 .rcl d imm (.rclEwDb d imm)) ∧
    (∀ d, s.shifts8 .rcr d 1 (.rcrEb1 d)) ∧ (∀ d, s.shifts16 .rcr d 1 (.rcrEw1 d)) ∧
    (∀ d, s.shifts8 .rcr d (s.reg8 .cl) (.rcrEbCl d)) ∧ (∀ d, s.shifts16 .rcr d (s.reg8 .cl) (.rcrEwCl d)) ∧
    (∀ d imm, s.shifts8 .rcr d imm (.rcrEbDb d imm)) ∧ (∀ d imm, s.shifts16 .rcr d imm (.rcrEwDb d imm)) ∧
    (∀ d, s.shifts8 .sal d 1 (.salEb1 d)) ∧ (∀ d, s.shifts16 .sal d 1 (.salEw1 d)) ∧
    (∀ d, s.shifts8 .sal d (s.reg8 .cl) (.salEbCl d)) ∧ (∀ d, s.shifts16 .sal d (s.reg8 .cl) (.salEwCl d)) ∧
    (∀ d imm, s.shifts8 .sal d imm (.salEbDb d imm)) ∧ (∀ d imm, s.shifts16 .sal d imm (.salEwDb d imm)) ∧
    (∀ d, s.shifts8 .shr d 1 (.shrEb1 d)) ∧ (∀ d, s.shifts16 .shr d 1 (.shrEw1 d)) ∧
    (∀ d, s.shifts8 .shr d (s.reg8 .cl) (.shrEbCl d)) ∧ (∀ d, s.shifts16 .shr d (s.reg8 .cl) (.shrEwCl d)) ∧
    (∀ d imm, s.shifts8 .shr d imm (.shrEbDb d imm)) ∧ (∀ d imm, s.shifts16 .shr d imm (.shrEwDb d imm)) ∧
    (∀ d, s.shifts8 .sar d 1 (.sarEb1 d)) ∧ (∀ d, s.shifts16 .sar d 1 (.sarEw1 d)) ∧
    (∀ d, s.shifts8 .sar d (s.reg8 .cl) (.sarEbCl d)) ∧ (∀ d, s.shifts16 .sar d (s.reg8 .cl) (.sarEwCl d)) ∧
    (∀ d imm, s.shifts8 .sar d imm (.sarEbDb d imm)) ∧ (∀ d imm, s.shifts16 .sar d imm (.sarEwDb d imm))

/-- What the single-bit steps add up to, for a count below 32: SAL and SHR shift in zeros, SAR copies of the sign, ROL
and ROR rotate, and RCL and RCR rotate the number whose top bit is CF and whose other bits are the operand; CF is the
last bit shifted out, 0 once SAL or SHR has shifted by more than the width (42_logical_shift_rotate.md R317, R320 to
R326). -/
def Obligations.ShiftMeaning : Prop :=
  ∀ (n : Nat), n = 8 ∨ n = 16 → ∀ (v : BitVec n) (cf : Bool) (c : Nat), c < 32 →
    (Shift.sal.iterate c v cf).1 = v <<< c ∧ (Shift.shr.iterate c v cf).1 = v >>> c ∧
    (Shift.sar.iterate c v cf).1 = v.sshiftRight c ∧
    (Shift.rol.iterate c v cf).1 = v.rotateLeft c ∧ (Shift.ror.iterate c v cf).1 = v.rotateRight c ∧
    (1 ≤ c → c ≤ n → (Shift.sal.iterate c v cf).2 = v.getLsbD (n - c)) ∧
    (n < c → (Shift.sal.iterate c v cf).2 = false) ∧
    (1 ≤ c → (Shift.shr.iterate c v cf).2 = v.getLsbD (c - 1)) ∧
    (1 ≤ c → (Shift.sar.iterate c v cf).2 = (v.sshiftRight (c - 1)).getLsbD 0) ∧
    (1 ≤ c → (Shift.rol.iterate c v cf).2 = (v.rotateLeft c).getLsbD 0) ∧
    (1 ≤ c → (Shift.ror.iterate c v cf).2 = (v.rotateRight c).msb) ∧
    (let joined := fun r : BitVec n × Bool => BitVec.ofBool r.2 ++ r.1
     joined (Shift.rcl.iterate c v cf) = (joined (v, cf)).rotateLeft c ∧
     joined (Shift.rcr.iterate c v cf) = (joined (v, cf)).rotateRight c)

/-! ### Data movement -/

/-- MOV in every form but those that load a segment register: the destination holds the source, and nothing else
changes (40_data_movement.md R231 to R235). -/
def Obligations.Moves : Prop :=
  ∀ s : State, s.lockOk = true →
    (∀ d r, s.canWrite 1 d = true → exec (.movEbRb d r) s = .next (s.put8 s d (s.reg8 r)).done) ∧
    (∀ d r, s.canWrite 2 d = true → exec (.movEwRw d r) s = .next (s.put16 s d (s.reg16 r)).done) ∧
    (∀ r d, s.canRead 1 d = true → exec (.movRbEb r d) s = .next ((s.read8 d).setReg8 r (s.val8 d)).done) ∧
    (∀ r d, s.canRead 2 d = true → exec (.movRwEw r d) s = .next ((s.read16 d).setReg16 r (s.val16 d)).done) ∧
    (∀ d r, s.canWrite 2 d = true → exec (.movEwSreg d r) s = .next (s.put16 s d (s.seg r).sel).done) ∧
    (∀ d imm, s.canWrite 1 d = true → exec (.movEbDb d imm) s = .next (s.put8 s d imm).done) ∧
    (∀ d imm, s.canWrite 2 d = true → exec (.movEwDw d imm) s = .next (s.put16 s d imm).done) ∧
    (∀ r imm, exec (.movRbDb r imm) s = .next (s.setReg8 r imm).done) ∧
    (∀ r imm, exec (.movRwDw r imm) s = .next (s.setReg16 r imm).done) ∧
    (∀ off, s.readOk s.dataSeg off 1 = true →
      exec (.movAlXb off) s = .next ((s.after8 ((s.seg s.dataSeg).lin off)).setReg8 .al (s.mem8 ((s.seg s.dataSeg).lin off))).done) ∧
    (∀ off, s.readOk s.dataSeg off 2 = true →
      exec (.movAxXw off) s = .next ((s.after16 ((s.seg s.dataSeg).lin off)).setReg16 .ax (s.mem16 ((s.seg s.dataSeg).lin off))).done) ∧
    (∀ off, s.writeOk s.dataSeg off 1 = true →
      exec (.movXbAl off) s = .next (s.setMem8 ((s.seg s.dataSeg).lin off) (s.reg8 .al)).done) ∧
    (∀ off, s.writeOk s.dataSeg off 2 = true →
      exec (.movXwAx off) s = .next (s.setMem16 ((s.seg s.dataSeg).lin off) s.gpr.ax).done)

/-- XCHG exchanges its operands; LEA loads an offset; XLAT looks AL up in a table; LAHF and SAHF move the low byte of
FLAGS (40_data_movement.md R237, R249 to R251, R254). The bits 5, 3 and 1 that LAHF loads, which R249 calls
indeterminate, read as FLAGS does by the spec's decision D3 (log 15). -/
def Obligations.ExchangeAndTranslate : Prop :=
  ∀ s : State, s.lockOk = true →
    (∀ d r, s.canWrite 1 d = true →
      exec (.xchgEbRb d r) s = .next (s.put8 ((s.read8 d).setReg8 r (s.val8 d)) d (s.reg8 r)).done) ∧
    (∀ d r, s.canWrite 2 d = true →
      exec (.xchgEwRw d r) s = .next (s.put16 ((s.read16 d).setReg16 r (s.val16 d)) d (s.reg16 r)).done) ∧
    (∀ r, exec (.xchgAxRw r) s = .next ((s.setReg16 .ax (s.reg16 r)).setReg16 r s.gpr.ax).done) ∧
    (∀ r ea, exec (.leaRwM r ea) s = .next (s.setReg16 r (s.eaOff ea)).done) ∧
    (s.readOk s.dataSeg (s.gpr.bx + (s.reg8 .al).setWidth 16) 1 = true →
      let a := (s.seg s.dataSeg).lin (s.gpr.bx + (s.reg8 .al).setWidth 16)
      exec .xlat s = .next ((s.after8 a).setReg8 .al (s.mem8 a)).done) ∧
    exec .lahf s = .next (s.setReg8 .ah s.flags.word.lo).done ∧
    (∃ t : State, exec .sahf s = .next t.done ∧ t = { s with flags := t.flags } ∧
      t.flag .sf = (s.reg8 .ah).getLsbD 7 ∧ t.flag .zf = (s.reg8 .ah).getLsbD 6 ∧
      t.flag .af = (s.reg8 .ah).getLsbD 4 ∧ t.flag .pf = (s.reg8 .ah).getLsbD 2 ∧
      t.flag .cf = (s.reg8 .ah).getLsbD 0 ∧ t.flags.word &&& 0xFF2A = s.flags.word &&& 0xFF2A)

/-- The pushes: SP goes down by 2 and the word is stored at SS:SP; the value is the one before SP changes. PUSHF
pushes the image of FLAGS (10_state.md R26). PUSHA pushes the eight registers, with the SP it began with
(40_data_movement.md R238 to R241, R245, R247; 20_memory.md R124). The reserved bits of FLAGS are the spec's decision
D3 (log 15). PUSH of a register by FFH /6 is the spec's decision D17 (log 23). -/
def Obligations.Pushes : Prop :=
  ∀ s : State, s.lockOk = true → s.pushesOk 1 = true →
    (∀ r, exec (.pushRw r) s = .next (s.pushed (s.reg16 r)).done) ∧
    exec .pushEs s = .next (s.pushed s.es.sel).done ∧ exec .pushCs s = .next (s.pushed s.cs.sel).done ∧
    exec .pushSs s = .next (s.pushed s.ss.sel).done ∧ exec .pushDs s = .next (s.pushed s.ds.sel).done ∧
    (∀ imm, exec (.pushDw imm) s = .next (s.pushed imm).done) ∧
    (∀ imm, exec (.pushDb imm) s = .next (s.pushed (imm.signExtend 16)).done) ∧
    (∀ d, s.canRead 2 d = true → exec (.pushMw d) s = .next ((s.read16 d).pushed (s.val16 d)).done) ∧
    exec .pushf s = .next (s.pushed s.flags.word).done ∧
    s.flags.word.toNat = 2 + (s.flag .cf).toNat + 4 * (s.flag .pf).toNat + 16 * (s.flag .af).toNat +
      64 * (s.flag .zf).toNat + 128 * (s.flag .sf).toNat + 256 * (s.flag .tf).toNat + 512 * (s.flag .if_).toNat +
      1024 * (s.flag .df).toNat + 2048 * (s.flag .of).toNat + 4096 * s.iopl.toNat + 16384 * (s.flag .nt).toNat ∧
    (s.pushesOk 8 = true → (s.pe = true → s.stackRoom 16 = true) →
      (s.pe = false → s.gpr.sp.toNat % 2 = 0 ∨ 16 ≤ s.gpr.sp.toNat) →
      exec .pusha s = .next ((((((((s.pushed s.gpr.ax).pushed s.gpr.cx).pushed s.gpr.dx).pushed s.gpr.bx).pushed
        s.gpr.sp).pushed s.gpr.bp).pushed s.gpr.si).pushed s.gpr.di).done)

/-- The pops: the word at SS:SP goes to the destination and SP up by 2, SP itself getting the word if it is the
destination; POPF keeps what the mode and privilege protect; POPA skips the word of SP (40_data_movement.md R242,
R243, R246, R248; 20_memory.md R125). POP SP is the spec's decision D18 and POP of a register by 8FH /0 D17 (log 23). -/
def Obligations.Pops : Prop :=
  ∀ s : State, s.lockOk = true → s.stackOk s.gpr.sp 2 = true →
    (∀ r, exec (.popRw r) s = .next ((s.topRead.setReg16 .sp (s.gpr.sp + 2)).setReg16 r s.stackTop).done) ∧
    (∀ r, exec (.popMw (.reg r)) s = .next ((s.topRead.setReg16 .sp (s.gpr.sp + 2)).setReg16 r s.stackTop).done) ∧
    (∀ ea, s.writeOk (s.eaSeg ea) (s.eaOff ea) 2 = true → exec (.popMw (.mem ea)) s =
      .next ((s.topRead.setMem16 ((s.seg (s.eaSeg ea)).lin (s.eaOff ea)) s.stackTop).setReg16 .sp
        (s.gpr.sp + 2)).done) ∧
    exec .popf s = .next { s.topRead.setReg16 .sp (s.gpr.sp + 2) with flags := s.popFlags s.stackTop }.done ∧
    (∀ w, s.popFlags w =
      if s.pe = false then { FlagsReg.ofWord w with iopl := s.iopl, nt := s.flag .nt }
      else if s.cpl = 0 then FlagsReg.ofWord w
      else if s.cpl.ule s.iopl then { FlagsReg.ofWord w with iopl := s.iopl }
      else { FlagsReg.ofWord w with iopl := s.iopl, if_ := s.flag .if_ }) ∧
    (s.stackOk s.gpr.sp 16 = true →
      let at8 := [0, 2, 4, 6, 8, 10, 12, 14].map s.stkAddr
      let w := wordAt (s.words at8)
      exec .popa s = .next { s.afterWords at8 with
        gpr := { di := w 0, si := w 1, bp := w 2, bx := w 4, dx := w 5, cx := w 6, ax := w 7
                 sp := s.gpr.sp + 16 } }.done)

/-- A load of DS, ES or SS by MOV, POP, LDS or LES: in Real Address Mode the base is 16 times the selector; in
Protected Mode the descriptor is loaded and marked accessed, or a null selector makes DS or ES unusable. A load of SS
by MOV or POP inhibits interrupts for one instruction. A descriptor that is not present is #NP, and #SS for SS
(40_data_movement.md R236, R244, R252, R253; 20_memory.md R150 to R152; 10_state.md R71). The Accessed bit is written
always, the spec's decision D6 (log 19). -/
def Obligations.SegmentLoads : Prop :=
  ∀ s : State, s.lockOk = true →
    (∀ d, s.canRead 2 d = true →
      let u := s.read16 d
      let sel := s.val16 d
      (u.segLoadOk .es sel = true → exec (.movEsEw d) s = .next (u.segLoaded .es sel).done) ∧
      (u.segLoadOk .ds sel = true → exec (.movDsEw d) s = .next (u.segLoaded .ds sel).done) ∧
      (u.segLoadOk .ss sel = true → exec (.movSsEw d) s = .next { u.segLoaded .ss sel with inhibit := true }.done)) ∧
    (s.stackOk s.gpr.sp 2 = true →
      let u := s.topRead
      let sel := s.stackTop
      (u.segLoadOk .es sel = true → exec .popEs s = .next ((u.segLoaded .es sel).setReg16 .sp (s.gpr.sp + 2)).done) ∧
      (u.segLoadOk .ds sel = true → exec .popDs s = .next ((u.segLoaded .ds sel).setReg16 .sp (s.gpr.sp + 2)).done) ∧
      (u.segLoadOk .ss sel = true → exec .popSs s =
        .next { (u.segLoaded .ss sel).setReg16 .sp (s.gpr.sp + 2) with inhibit := true }.done)) ∧
    (∀ r ea, s.farReadOk ea = true →
      let u := s.operandRead 2 ea
      let off := (s.farPointer ea).1
      let sel := (s.farPointer ea).2
      (u.segLoadOk .es sel = true → exec (.lesRwEd r ea) s = .next ((u.segLoaded .es sel).setReg16 r off).done) ∧
      (u.segLoadOk .ds sel = true → exec (.ldsRwEd r ea) s = .next ((u.segLoaded .ds sel).setReg16 r off).done)) ∧
    (∀ d x, s.canRead 2 d = true → s.pe = true →
      let u := s.read16 d
      let sel := s.val16 d
      selNull sel = false → u.descLookup sel = some x → x.isData = true → x.writable = true → x.dpl = s.cpl →
      selRpl sel = s.cpl → x.present = false →
      exec (.movDsEw d) s = (u.afterLookup sel).raises (.np (selError sel)) ∧
      exec (.movSsEw d) s = (u.afterLookup sel).raises (.ss (selError sel)))

/-- A store changes the bytes it stores and no other: for every address outside them reading gives what it gave
before, and bytes stored to RAM then read as the value. What is stored elsewhere changes no memory. Where no memory
stands, every access is a bus cycle that devices see: a store one for a word at an even address and two byte cycles at
an odd one, a read the same, a read-modify-write instruction one read of its destination and then one write; two reads
of one address, as CMPS makes, are two cycles, and may answer differently. A device can change its answers at an
access, so that what is left of it after one is not stated. A store is on the list of the step's data cycles, of which
a RESET inside the step leaves the first done: a word at an even address as one, one at an odd address as two
(20_memory.md R81 to R85, R88, R121, R124, R133; 00_scope.md R6; 44_string.md R423; 70_reset_and_hazards.md R820). The
form of the cycles and their list (log 58), and that an address where nothing stands has them too, are the model's
choice (log 3, log 48). -/
def Obligations.MemoryAccesses : Prop :=
  ∀ (s : State),
    (Memory.wf s.mem = true →
      (∀ (ea : Ea) (v : Byte), let a := (s.seg (s.eaSeg ea)).lin (s.eaOff ea)
        let t := s.put8 s (.mem ea) v
        (s.kindAt a = .ram → t.mem8 a = v) ∧ (s.kindAt a ≠ .ram → t.mem = s.mem) ∧
        t.io = (if s.outside a then [.memWrite a false (v.setWidth 16)] else []) ++ s.io ∧
        t.bus = ⟨if s.kindAt a = .ram then [(a, v)] else [],
          if s.outside a then some (.memWrite a false (v.setWidth 16)) else none⟩ :: s.bus ∧
        ∀ x, x ≠ a → s.outside x = false ∨ s.outside a = false → t.mem8 x = s.mem8 x) ∧
      (∀ (ea : Ea) (v : Word), let a := (s.seg (s.eaSeg ea)).lin (s.eaOff ea)
        let t := s.put16 s (.mem ea) v
        (s.kindAt a = .ram → s.kindAt (a + 1) = .ram → t.mem16 a = v) ∧
        (s.kindAt a ≠ .ram → s.kindAt (a + 1) ≠ .ram → t.mem = s.mem) ∧
        (s.outside a = false → s.outside (a + 1) = false → t.io = s.io) ∧
        (s.kindAt a = .ram → s.kindAt (a + 1) = .ram →
          t.bus = (if a.toNat % 2 = 0 then [⟨[(a + 1, v.hi), (a, v.lo)], none⟩]
            else [⟨[(a + 1, v.hi)], none⟩, ⟨[(a, v.lo)], none⟩]) ++ s.bus) ∧
        (s.outside a = true → s.outside (a + 1) = true →
          t.io = (if a.toNat % 2 = 0 then [IoEvent.memWrite a true v]
            else [.memWrite (a + 1) false (v.hi.setWidth 16), .memWrite a false (v.lo.setWidth 16)]) ++ s.io) ∧
        ∀ x, x ≠ a → x ≠ a + 1 → s.outside x = false ∨ (s.outside a = false ∧ s.outside (a + 1) = false) →
          t.mem8 x = s.mem8 x) ∧
      (∀ v : Word, let a := s.ss.lin (s.gpr.sp - 2)
        (s.kindAt a = .ram → s.kindAt (a + 1) = .ram → (s.pushed v).stackTop = v) ∧
        ∀ x, x ≠ a → x ≠ a + 1 → s.outside x = false ∨ (s.outside a = false ∧ s.outside (a + 1) = false) →
          (s.pushed v).mem8 x = s.mem8 x)) ∧
    (s.lockOk = true → ∀ (ea : Ea) (r : Reg16) (r8 : Reg8), let a := (s.seg (s.eaSeg ea)).lin (s.eaOff ea)
      (s.readOk (s.eaSeg ea) (s.eaOff ea) 1 = true → ∃ t, exec (.movRbEb r8 (.mem ea)) s = .next t ∧
        t.io = (if s.outside a then [.memRead a false] else []) ++ s.io ∧
        t.reg8 r8 = if s.outside a then (Config.memRead s.clock s.io a false).lo else Memory.read s.mem a.toNat) ∧
      (s.readOk (s.eaSeg ea) (s.eaOff ea) 2 = true → ∃ t, exec (.movRwEw r (.mem ea)) s = .next t ∧
        (s.outside a = false → s.outside (a + 1) = false → t.io = s.io) ∧
        (s.outside a = true → s.outside (a + 1) = true →
          t.io = (if a.toNat % 2 = 0 then [IoEvent.memRead a true]
            else [.memRead (a + 1) false, .memRead a false]) ++ s.io)) ∧
      (s.writeOk (s.eaSeg ea) (s.eaOff ea) 1 = true →
        ∀ i ∈ [Instr.addEbRb (.mem ea) r8, .xorEbRb (.mem ea) r8, .incEb (.mem ea), .notEb (.mem ea),
          .shrEb1 (.mem ea), .xchgEbRb (.mem ea) r8], ∃ t v, exec i s = .next t ∧
          t.io = (if s.outside a then [.memWrite a false v, .memRead a false] else []) ++ s.io) ∧
      (s.writeOk (s.eaSeg ea) (s.eaOff ea) 2 = true →
        ∀ i ∈ [Instr.addEwRw (.mem ea) r, .xorEwRw (.mem ea) r, .incEw (.mem ea), .notEw (.mem ea),
          .shrEw1 (.mem ea), .xchgEwRw (.mem ea) r], ∃ t v w, exec i s = .next t ∧
          (s.outside a = false → s.outside (a + 1) = false → t.io = s.io) ∧
          (s.outside a = true → s.outside (a + 1) = true →
            t.io = (if a.toNat % 2 = 0 then [IoEvent.memWrite a true v, .memRead a true]
              else [.memWrite (a + 1) false v, .memWrite a false w, .memRead (a + 1) false, .memRead a false]) ++
                s.io))) ∧
    (s.lockOk = true → s.pfx.rep = none → s.readOk s.dataSeg s.gpr.si 1 = true → s.readOk .es s.gpr.di 1 = true →
      let a := (s.seg s.dataSeg).lin s.gpr.si
      s.es.lin s.gpr.di = a → s.outside a = true →
      ∃ t, exec .cmpsb s = .next t ∧ t.io = [.memRead a false, .memRead a false] ++ s.io ∧
        (t.flag .zf = true ↔
          (Config.memRead s.clock s.io a false).lo = (Config.memRead s.clock (.memRead a false :: s.io) a false).lo))

/-- Frames. Instructions with a word or a byte destination in memory that complete: no byte of memory outside the
destination changes, devices see nothing unless the destination is one, no register but the one XCHG exchanges, no
segment register, no flag but the six status flags, and nothing of the 80287. Instructions that store nothing: no byte
of memory changes, and no register but their destination or the two that XCHG exchanges (41_arithmetic.md R270;
42_logical_shift_rotate.md R310; 40_data_movement.md R230, R235, R237; 47_system_control.md R497, R499, R501, R503). -/
def Obligations.Frames : Prop :=
  ∀ (s t : State) (r p : Reg16) (r8 p8 : Reg8) (q : SegReg) (imm : Word) (imm8 : Byte),
    s.lockOk = true → Memory.wf s.mem = true →
    let rest := t.npx = s.npx ∧ t.ip = s.ip ∧ t.msw = s.msw ∧ (∀ q, t.seg q = s.seg q) ∧
      t.flags.word &&& 0xF72A = s.flags.word &&& 0xF72A
    let bytesAt := fun (ea : Ea) (n : Nat) =>
      let dest := fun k : Nat => (s.seg (s.eaSeg ea)).lin (s.eaOff ea) + BitVec.ofNat 24 k
      let inMemory := ∀ k < n, s.outside (dest k) = false
      (∀ x : PhysAddr, (∀ k < n, x ≠ dest k) → s.outside x = false ∨ inMemory → t.mem8 x = s.mem8 x) ∧
        (inMemory → t.io = s.io)
    let noByte := t.mem = s.mem ∧ t.io = s.io ∧ t.bus = s.bus ∧ ∀ x, t.mem8 x = s.mem8 x
    (∀ ea, s.writeOk (s.eaSeg ea) (s.eaOff ea) 2 = true →
      (∀ i ∈ [Instr.addEwRw (.mem ea) r, .adcEwRw (.mem ea) r, .subEwRw (.mem ea) r, .sbbEwRw (.mem ea) r,
        .andEwRw (.mem ea) r, .orEwRw (.mem ea) r, .xorEwRw (.mem ea) r, .addEwDw (.mem ea) imm,
        .adcEwDw (.mem ea) imm, .subEwDw (.mem ea) imm, .sbbEwDw (.mem ea) imm, .andEwDw (.mem ea) imm,
        .orEwDw (.mem ea) imm, .xorEwDw (.mem ea) imm, .addEwDb (.mem ea) imm8, .adcEwDb (.mem ea) imm8,
        .subEwDb (.mem ea) imm8, .sbbEwDb (.mem ea) imm8, .incEw (.mem ea), .decEw (.mem ea), .negEw (.mem ea),
        .notEw (.mem ea), .rolEw1 (.mem ea), .rorEw1 (.mem ea), .rclEw1 (.mem ea), .rcrEw1 (.mem ea),
        .salEw1 (.mem ea), .shrEw1 (.mem ea), .sarEw1 (.mem ea), .rolEwCl (.mem ea), .rorEwCl (.mem ea),
        .rclEwCl (.mem ea), .rcrEwCl (.mem ea), .salEwCl (.mem ea), .shrEwCl (.mem ea), .sarEwCl (.mem ea),
        .rolEwDb (.mem ea) imm8, .rorEwDb (.mem ea) imm8, .rclEwDb (.mem ea) imm8, .rcrEwDb (.mem ea) imm8,
        .salEwDb (.mem ea) imm8, .shrEwDb (.mem ea) imm8, .sarEwDb (.mem ea) imm8, .movEwRw (.mem ea) r,
        .movEwDw (.mem ea) imm, .movEwSreg (.mem ea) q, .smswEw (.mem ea)],
        exec i s = .next t → bytesAt ea 2 ∧ t.gpr = s.gpr ∧ rest) ∧
      (s.pe = true → ∀ i ∈ [Instr.sldtEw (.mem ea), .strEw (.mem ea), .arplEwRw (.mem ea) r],
        exec i s = .next t → bytesAt ea 2 ∧ t.gpr = s.gpr ∧ rest) ∧
      (exec (.xchgEwRw (.mem ea) r) s = .next t → bytesAt ea 2 ∧ (∀ x, x ≠ r → t.reg16 x = s.reg16 x) ∧ rest)) ∧
    (∀ ea, s.writeOk (s.eaSeg ea) (s.eaOff ea) 1 = true →
      (∀ i ∈ [Instr.addEbRb (.mem ea) r8, .adcEbRb (.mem ea) r8, .subEbRb (.mem ea) r8, .sbbEbRb (.mem ea) r8,
        .andEbRb (.mem ea) r8, .orEbRb (.mem ea) r8, .xorEbRb (.mem ea) r8, .addEbDb (.mem ea) imm8,
        .adcEbDb (.mem ea) imm8, .subEbDb (.mem ea) imm8, .sbbEbDb (.mem ea) imm8, .andEbDb (.mem ea) imm8,
        .orEbDb (.mem ea) imm8, .xorEbDb (.mem ea) imm8, .incEb (.mem ea), .decEb (.mem ea), .negEb (.mem ea),
        .notEb (.mem ea), .rolEb1 (.mem ea), .rorEb1 (.mem ea), .rclEb1 (.mem ea), .rcrEb1 (.mem ea),
        .salEb1 (.mem ea), .shrEb1 (.mem ea), .sarEb1 (.mem ea), .rolEbCl (.mem ea), .rorEbCl (.mem ea),
        .rclEbCl (.mem ea), .rcrEbCl (.mem ea), .salEbCl (.mem ea), .shrEbCl (.mem ea), .sarEbCl (.mem ea),
        .rolEbDb (.mem ea) imm8, .rorEbDb (.mem ea) imm8, .rclEbDb (.mem ea) imm8, .rcrEbDb (.mem ea) imm8,
        .salEbDb (.mem ea) imm8, .shrEbDb (.mem ea) imm8, .sarEbDb (.mem ea) imm8, .movEbRb (.mem ea) r8,
        .movEbDb (.mem ea) imm8],
        exec i s = .next t → bytesAt ea 1 ∧ t.gpr = s.gpr ∧ rest) ∧
      (exec (.xchgEbRb (.mem ea) r8) s = .next t →
        bytesAt ea 1 ∧ (∀ x, x ≠ r8 → t.reg8 x = s.reg8 x) ∧ (∀ x ∈ [Reg16.sp, .bp, .si, .di], t.reg16 x = s.reg16 x) ∧
          rest)) ∧
    ((∀ i ∈ [Instr.addRwEw r (.reg p), .adcRwEw r (.reg p), .subRwEw r (.reg p), .sbbRwEw r (.reg p), .andRwEw r (.reg p),
        .orRwEw r (.reg p), .xorRwEw r (.reg p), .cmpRwEw r (.reg p), .addEwRw (.reg r) p, .adcEwRw (.reg r) p,
        .subEwRw (.reg r) p, .sbbEwRw (.reg r) p, .andEwRw (.reg r) p, .orEwRw (.reg r) p, .xorEwRw (.reg r) p,
        .cmpEwRw (.reg r) p, .testEwRw (.reg r) p, .addEwDw (.reg r) imm, .adcEwDw (.reg r) imm,
        .subEwDw (.reg r) imm, .sbbEwDw (.reg r) imm, .andEwDw (.reg r) imm, .orEwDw (.reg r) imm,
        .xorEwDw (.reg r) imm, .cmpEwDw (.reg r) imm, .testEwDw (.reg r) imm, .incRw r, .decRw r, .negEw (.reg r),
        .notEw (.reg r), .rolEw1 (.reg r), .rorEw1 (.reg r), .rclEw1 (.reg r), .rcrEw1 (.reg r), .salEw1 (.reg r),
        .shrEw1 (.reg r), .sarEw1 (.reg r), .rolEwCl (.reg r), .rorEwCl (.reg r), .rclEwCl (.reg r),
        .rcrEwCl (.reg r), .salEwCl (.reg r), .shrEwCl (.reg r), .sarEwCl (.reg r), .rolEwDb (.reg r) imm8,
        .rorEwDb (.reg r) imm8, .rclEwDb (.reg r) imm8, .rcrEwDb (.reg r) imm8, .salEwDb (.reg r) imm8,
        .shrEwDb (.reg r) imm8, .sarEwDb (.reg r) imm8, .movRwDw r imm, .movRwEw r (.reg p), .movEwSreg (.reg r) q,
        .smswEw (.reg r)],
        exec i s = .next t → noByte ∧ (∀ x, x ≠ r → t.reg16 x = s.reg16 x) ∧ rest) ∧
      (s.pe = true → ∀ i ∈ [Instr.sldtEw (.reg r), .strEw (.reg r), .arplEwRw (.reg r) p],
        exec i s = .next t → noByte ∧ (∀ x, x ≠ r → t.reg16 x = s.reg16 x) ∧ rest) ∧
      (exec (.xchgEwRw (.reg r) p) s = .next t → noByte ∧ (∀ x, x ≠ r → x ≠ p → t.reg16 x = s.reg16 x) ∧ rest) ∧
      (exec (.xchgAxRw r) s = .next t → noByte ∧ (∀ x, x ≠ r → x ≠ .ax → t.reg16 x = s.reg16 x) ∧ rest) ∧
      (exec (.xchgEbRb (.reg r8) p8) s = .next t → noByte ∧ (∀ x, x ≠ r8 → x ≠ p8 → t.reg8 x = s.reg8 x) ∧
        (∀ x ∈ [Reg16.sp, .bp, .si, .di], t.reg16 x = s.reg16 x) ∧ rest) ∧
      (∀ i ∈ [Instr.addRbEb r8 (.reg p8), .adcRbEb r8 (.reg p8), .subRbEb r8 (.reg p8), .sbbRbEb r8 (.reg p8),
        .andRbEb r8 (.reg p8), .orRbEb r8 (.reg p8), .xorRbEb r8 (.reg p8), .cmpRbEb r8 (.reg p8),
        .addEbDb (.reg r8) imm8, .adcEbDb (.reg r8) imm8, .subEbDb (.reg r8) imm8, .sbbEbDb (.reg r8) imm8,
        .andEbDb (.reg r8) imm8, .orEbDb (.reg r8) imm8, .xorEbDb (.reg r8) imm8, .cmpEbDb (.reg r8) imm8,
        .testEbDb (.reg r8) imm8, .incEb (.reg r8), .decEb (.reg r8), .negEb (.reg r8), .notEb (.reg r8),
        .rolEb1 (.reg r8), .rorEb1 (.reg r8), .rclEb1 (.reg r8), .rcrEb1 (.reg r8), .salEb1 (.reg r8),
        .shrEb1 (.reg r8), .sarEb1 (.reg r8), .rolEbCl (.reg r8), .rorEbCl (.reg r8), .rclEbCl (.reg r8),
        .rcrEbCl (.reg r8), .salEbCl (.reg r8), .shrEbCl (.reg r8), .sarEbCl (.reg r8), .rolEbDb (.reg r8) imm8,
        .rorEbDb (.reg r8) imm8, .rclEbDb (.reg r8) imm8, .rcrEbDb (.reg r8) imm8, .salEbDb (.reg r8) imm8,
        .shrEbDb (.reg r8) imm8, .sarEbDb (.reg r8) imm8, .movRbDb r8 imm8, .movRbEb r8 (.reg p8)],
        exec i s = .next t → noByte ∧ (∀ x, x ≠ r8 → t.reg8 x = s.reg8 x) ∧
          (∀ x ∈ [Reg16.sp, .bp, .si, .di], t.reg16 x = s.reg16 x) ∧ rest))

/-! ### Control transfer -/

/-- The jumps on one flag, and on CF and ZF: conditions JO to JNP (43_control_transfer.md R345 to R356). -/
def Obligations.JumpsOnFlags : Prop :=
  (∀ rel : Byte, [encode (.joCb rel), encode (.jnoCb rel), encode (.jbCb rel), encode (.jnbCb rel), encode (.jeCb rel),
    encode (.jneCb rel), encode (.jbeCb rel), encode (.jnbeCb rel), encode (.jsCb rel), encode (.jnsCb rel),
    encode (.jpCb rel), encode (.jnpCb rel)] =
    [[0x70, rel], [0x71, rel], [0x72, rel], [0x73, rel], [0x74, rel], [0x75, rel], [0x76, rel], [0x77, rel], [0x78, rel],
      [0x79, rel], [0x7A, rel], [0x7B, rel]]) ∧
  ∀ (s : State) (rel : Byte), s.lockOk = true →
    s.relTarget8 rel = s.ip + rel.signExtend 16 ∧
    s.jumpsIf (s.flag .of) rel (.joCb rel) ∧ s.jumpsIf (!s.flag .of) rel (.jnoCb rel) ∧
    s.jumpsIf (s.flag .cf) rel (.jbCb rel) ∧ s.jumpsIf (!s.flag .cf) rel (.jnbCb rel) ∧
    s.jumpsIf (s.flag .zf) rel (.jeCb rel) ∧ s.jumpsIf (!s.flag .zf) rel (.jneCb rel) ∧
    s.jumpsIf (s.flag .cf || s.flag .zf) rel (.jbeCb rel) ∧
    s.jumpsIf (!s.flag .cf && !s.flag .zf) rel (.jnbeCb rel) ∧
    s.jumpsIf (s.flag .sf) rel (.jsCb rel) ∧ s.jumpsIf (!s.flag .sf) rel (.jnsCb rel) ∧
    s.jumpsIf (s.flag .pf) rel (.jpCb rel) ∧ s.jumpsIf (!s.flag .pf) rel (.jnpCb rel)

/-- After CMP of two words the jumps on "less" and "greater" compare them as signed numbers, and JCXZ tests CX
(43_control_transfer.md R357 to R361). -/
def Obligations.SignedJumps : Prop :=
  (∀ rel : Byte, [encode (.jlCb rel), encode (.jnlCb rel), encode (.jleCb rel), encode (.jnleCb rel),
    encode (.jcxzCb rel)] = [[0x7C, rel], [0x7D, rel], [0x7E, rel], [0x7F, rel], [0xE3, rel]]) ∧
  ∀ (s : State) (rel : Byte), s.lockOk = true →
    s.relTarget8 rel = s.ip + rel.signExtend 16 ∧
    s.jumpsIf (s.flag .sf != s.flag .of) rel (.jlCb rel) ∧ s.jumpsIf (s.flag .sf == s.flag .of) rel (.jnlCb rel) ∧
    s.jumpsIf (s.flag .zf || (s.flag .sf != s.flag .of)) rel (.jleCb rel) ∧
    s.jumpsIf (!s.flag .zf && (s.flag .sf == s.flag .of)) rel (.jnleCb rel) ∧
    s.jumpsIf (s.gpr.cx == 0) rel (.jcxzCb rel) ∧
    (∀ a b : Word, let t := s.setStatus (subFlags a b false).2
      ((t.flag .sf != t.flag .of) = true ↔ a.toInt < b.toInt) ∧
      ((t.flag .zf || (t.flag .sf != t.flag .of)) = true ↔ a.toInt ≤ b.toInt) ∧
      (t.flag .cf = true ↔ a.toNat < b.toNat))

/-- LOOP, LOOPE, LOOPNE and the near JMPs (43_control_transfer.md R341 to R343, R362 to R364). -/
def Obligations.LoopsAndNearJumps : Prop :=
  ∀ (s : State), s.lockOk = true →
    (∀ rel, s.loopsIf (s.gpr.cx - 1 != 0) rel (.loopCb rel) ∧
      s.loopsIf (s.gpr.cx - 1 != 0 && s.flag .zf) rel (.loopeCb rel) ∧
      s.loopsIf (s.gpr.cx - 1 != 0 && !s.flag .zf) rel (.loopneCb rel)) ∧
    (∀ rel : Byte, s.targetOk (s.ip + rel.signExtend 16) = true →
      exec (.jmpCb rel) s = .next (s.jump (s.ip + rel.signExtend 16)).done) ∧
    (∀ rel : Word, s.targetOk (s.ip + rel) = true → exec (.jmpCw rel) s = .next (s.jump (s.ip + rel)).done) ∧
    (∀ d, s.canRead 2 d = true → s.targetOk (s.val16 d) = true →
      exec (.jmpEw d) s = .next ((s.read16 d).jump (s.val16 d)).done)

/-- CALL and RET within the segment: the IP that follows is pushed, and popped with the parameters
(43_control_transfer.md R365 to R368). -/
def Obligations.NearCallsAndReturns : Prop :=
  ∀ (s : State), s.lockOk = true →
    (s.pushesOk 1 = true →
      (∀ rel : Word, s.targetOk (s.ip + rel) = true →
        exec (.callCw rel) s = .next ((s.pushed s.ip).jump (s.ip + rel)).done) ∧
      (∀ d, s.canRead 2 d = true → s.targetOk (s.val16 d) = true →
        exec (.callEw d) s = .next (((s.read16 d).pushed s.ip).jump (s.val16 d)).done)) ∧
    (s.stackOk s.gpr.sp 2 = true → s.targetOk s.stackTop = true →
      exec .retNear s = .next ((s.topRead.jump s.stackTop).setReg16 .sp (s.gpr.sp + 2)).done ∧
      (∀ imm, exec (.retNearDw imm) s =
        .next ((s.topRead.jump s.stackTop).setReg16 .sp (s.gpr.sp + 2 + imm)).done))

/-- Far transfers and IRET in Real Address Mode: CS is loaded with its base 16 times the selector; CALL pushes CS and
IP; RET and IRET pop them, and IRET FLAGS, but for IOPL and NT, and it ends the masking of NMI (43_control_transfer.md
R369 to R375, R389; 60_exceptions.md R738). -/
def Obligations.FarTransfersReal : Prop :=
  ∀ (s : State), s.lockOk = true → s.pe = false →
    (∀ i sel off u, s.jumpsFar i sel off u → exec i s = .next (u.realFar sel off).done) ∧
    (∀ i sel off u, s.callsFar i sel off u → s.pushesOk 2 = true →
      exec i s = .next (((u.pushed s.cs.sel).pushed s.ip).realFar sel off).done) ∧
    (s.stkOk 0 = true → s.stkOk 2 = true →
      let off := s.stkWord 0
      let sel := (s.afterStk 0).stkWord 2
      let u := (s.afterStk 0).afterStk 2
      exec .retFar s = .next ((u.realFar sel off).setReg16 .sp (s.gpr.sp + 4)).done ∧
      (∀ imm, exec (.retFarDw imm) s = .next ((u.realFar sel off).setReg16 .sp (s.gpr.sp + 4 + imm)).done) ∧
      (s.stkOk 4 = true → exec .iret s =
        .next { ((u.afterStk 4).realFar sel off).setReg16 .sp (s.gpr.sp + 6) with
          flags := s.popFlags (u.stkWord 4), nmiMask := false }.done))

/-- Far transfers in Protected Mode: at the same privilege, through a call gate to the same or to more privilege, and
back to less. The code descriptor is loaded and marked accessed, and CS gets the new CPL as its RPL. CALL, RET and
IRET move CS, IP and FLAGS over the stack; a call gate to more privilege takes the new stack from the TSS, pushes the
old SS:SP and copies the parameters in order; a return to less privilege releases them on both stacks, and DS and ES
keep only a segment that the new level may use (43_control_transfer.md R376 to R380, R383 to R385, R390, R391). The
Accessed bit is written always, the spec's decision D6 (log 19); that the parameters are read before anything is
pushed is D23, that revalidation looks at the cached rights D24, and the limit of the TSS D20 (log 29). -/
def Obligations.FarTransfersProtected : Prop :=
  ∀ (s : State) (d : Desc), s.lockOk = true → s.pe = true →
    (∀ i sel off u, u.descLookup sel = some d → s.codeOk sel off d = true →
      let v := u.afterLookup sel
      (s.jumpsFar i sel off u → exec i s = .next (v.enterCode sel d s.cpl off).done) ∧
      (s.callsFar i sel off u → s.stackRoom 4 = true →
        exec i s = .next (((v.pushed s.cs.sel).pushed s.ip).enterCode sel d s.cpl off).done)) ∧
    (∀ i sel off u g, u.gateFor sel g 4 = true →
      let v := u.afterLookup sel
      let w := v.afterLookup g.gateSel
      (v.sameCode g.gateSel g.gateOffset d = true →
        (s.jumpsFar i sel off u → exec i s = .next (w.enterCode g.gateSel d s.cpl g.gateOffset).done) ∧
        (s.callsFar i sel off u → s.stackRoom 4 = true →
          exec i s = .next (((w.pushed s.cs.sel).pushed s.ip).enterCode g.gateSel d s.cpl g.gateOffset).done)) ∧
      (∀ x, s.callsFar i sel off u → v.innerCode g.gateSel g.gateOffset d = true →
        w.innerStackOk d.dpl x (8 + 2 * g.gateCount.toNat) = true →
        (∀ k < g.gateCount.toNat, s.stkOk (BitVec.ofNat 16 (2 * k)) = true) →
        let inner := w.innerRead d.dpl
        let params := s.paramAddrs g.gateCount.toNat
        let t := w.enterInner (inner.afterWords params) g.gateSel g.gateOffset d x
        let copied := (inner.words params).foldr (fun p t => t.pushed p) t
        exec i s = .next { (copied.pushed s.cs.sel).pushed s.ip with stale := [] }.done)) ∧
    (s.stkOk 0 = true → s.stkOk 2 = true →
      let rs := s.stkWord 2
      let u := (s.afterStk 2).afterLookup rs
      (s.afterStk 2).descLookup rs = some d →
      (let off := u.stkWord 0
       let v := u.afterStk 0
       s.returnOk rs off d = true →
        exec .retFar s = .next ((v.enterCode rs d s.cpl off).setReg16 .sp (s.gpr.sp + 4)).done ∧
        (∀ imm, exec (.retFarDw imm) s =
          .next ((v.enterCode rs d s.cpl off).setReg16 .sp (s.gpr.sp + 4 + imm)).done) ∧
        (s.stkOk 4 = true → s.flag .nt = false → exec .iret s =
          .next { ((v.afterStk 4).enterCode rs d s.cpl off).setReg16 .sp (s.gpr.sp + 6) with
            flags := s.popFlags (v.stkWord 4), nmiMask := false }.done)) ∧
      (∀ (x : Desc) (k : Word),
        let nsp := u.stkWord k
        let nss := (u.afterStk k).stkWord (k + 2)
        let p := (u.afterStk k).afterStk (k + 2)
        let q := p.afterLookup nss
        let off := q.stkWord 0
        let v := q.afterStk 0
        s.outerCode rs off d = true → p.stackFor nss (selRpl rs) x = true → s.stkOk k = true → s.stkOk (k + 2) = true →
        (∀ imm, k = 4 + imm →
          exec (.retFarDw imm) s = .next { v.returnOuter rs off d nss x (nsp + imm) with stale := [] }.done) ∧
        (k = 4 → exec .retFar s = .next { v.returnOuter rs off d nss x nsp with stale := [] }.done) ∧
        (k = 6 → s.stkOk 4 = true → s.flag .nt = false → exec .iret s =
          .next { (v.afterStk 4).returnOuter rs off d nss x nsp with
            stale := [], flags := s.popFlags (v.stkWord 4), nmiMask := false }.done)))

/-- Interrupts in Real Address Mode: INT and INTO push FLAGS, CS and the IP that follows, clear IF and TF, and load
CS:IP from the vector table; a fault of the same vector saves cur_IP instead. INTO with OF = 0 does nothing
(43_control_transfer.md R386 to R388; 60_exceptions.md R743 to R745). -/
def Obligations.InterruptsReal : Prop :=
  ∀ (s : State), s.lockOk = true →
    (∀ n, s.realEntryOk n = true →
      exec (.intDb n) s = .next ((s.realEntered n s.ip).delivered .software).done ∧
      deliver n .fault none s = (s.realEntered n s.curIP).delivered .fault) ∧
    (s.realEntryOk 3 = true → exec .int3 s = .next ((s.realEntered 3 s.ip).delivered .software).done) ∧
    (s.flag .of = true → s.realEntryOk 4 = true →
      exec .into s = .next ((s.realEntered 4 s.ip).delivered .software).done) ∧
    (s.flag .of = false → exec .into s = .next s.done)

/-- Interrupts in Protected Mode through an interrupt or trap gate, to a code segment at the same privilege or of
more, whose stack comes from the TSS and gets the old SS:SP first: the frame is pushed, CS:IP come from the gate, TF
and NT are cleared, and IF by an interrupt gate; a fault with an error code pushes it last (60_exceptions.md R747 to
R749, R752; 43_control_transfer.md R384, R386). The Accessed bit is written always, the spec's decision D6 (log 19). -/
def Obligations.InterruptsProtected : Prop :=
  ∀ (s : State) (d : Desc), s.lockOk = true →
    (∀ n, s.gateOk n true 6 d = true → exec (.intDb n) s =
      .next (((s.gateEntered n d s.ip).gateFlags (s.gate n).type).delivered .software).done) ∧
    (s.gateOk 3 true 6 d = true → exec .int3 s =
      .next (((s.gateEntered 3 d s.ip).gateFlags (s.gate 3).type).delivered .software).done) ∧
    (s.flag .of = true → s.gateOk 4 true 6 d = true → exec .into s =
      .next (((s.gateEntered 4 d s.ip).gateFlags (s.gate 4).type).delivered .software).done) ∧
    (∀ n, s.gateOk n false 6 d = true → deliver n .fault none s =
      ((s.gateEntered n d s.curIP).gateFlags (s.gate n).type).delivered .fault) ∧
    (∀ n ec, s.gateOk n false 8 d = true → deliver n .fault (some ec) s =
      (((s.gateEntered n d s.curIP).pushed ec).gateFlags (s.gate n).type).delivered .fault) ∧
    (∀ n x, s.gateInnerOk n true 10 d x = true →
      let t := (((s.gateEnteredInner n d x s.ip).gateFlags (s.gate n).type).delivered .software).done
      exec (.intDb n) s = .next t ∧ (n = 3 → exec .int3 s = .next t) ∧
      (n = 4 → s.flag .of = true → exec .into s = .next t)) ∧
    (∀ n x, s.gateInnerOk n false 10 d x = true → deliver n .fault none s =
      ((s.gateEnteredInner n d x s.curIP).gateFlags (s.gate n).type).delivered .fault) ∧
    (∀ n ec x, s.gateInnerOk n false 12 d x = true → deliver n .fault (some ec) s =
      (((s.gateEnteredInner n d x s.curIP).pushed ec).gateFlags (s.gate n).type).delivered .fault)

/-- Task switches: JMP and CALL to a TSS or through a task gate, INT, INTO and faults through a task gate of the IDT,
and IRET with NT set, to the TSS of the back link, go on in the new task. The old task's registers are in its TSS; TR,
the registers, FLAGS and the selectors are the new task's; TS is set; JMP clears NT, the nesting kinds set it and
write the back link, and only they leave the old TSS busy; no other byte of memory changes but the Accessed bits of
the segments loaded (43_control_transfer.md R381, R382, R391 to R394; 60_exceptions.md R750). A TSS selector in the
LDT and a bad back link are the spec's decision D20, a task without an LDT D21 (log 29); that the Accessed bits are
always written is D6 (log 19), and that a step trap due at the switch is dropped D47 (log 40). -/
def Obligations.TaskSwitches : Prop :=
  ∀ s : State, s.lockOk = true → s.pe = true →
    (∀ i sel off u n t, selNull sel = false → u.tssFor sel n 1 = true → s.cpl.toNat ≤ n.dpl.toNat →
      (selRpl sel).toNat ≤ n.dpl.toNat →
      let v := u.afterLookup sel
      (s.jumpsFar i sel off u → v.taskEntered .jmp sel n s.ip = some t → exec i s = .next t.done) ∧
      (s.callsFar i sel off u → v.taskEntered .call sel n s.ip = some t → exec i s = .next t.done)) ∧
    (∀ i sel off u g n t, u.gateFor sel g 5 = true → (u.afterLookup sel).tssFor g.gateSel n 1 = true →
      let v := (u.afterLookup sel).afterLookup g.gateSel
      (s.jumpsFar i sel off u → v.taskEntered .jmp g.gateSel n s.ip = some t → exec i s = .next t.done) ∧
      (s.callsFar i sel off u → v.taskEntered .call g.gateSel n s.ip = some t → exec i s = .next t.done)) ∧
    (∀ v n t, s.taskGateOk v true n = true → (s.targetRead v).taskEntered .int (s.gate v).gateSel n s.ip = some t →
      exec (.intDb v) s = .next (t.delivered .software).done ∧
      (v = 3 → exec .int3 s = .next (t.delivered .software).done) ∧
      (v = 4 → s.flag .of = true → exec .into s = .next (t.delivered .software).done)) ∧
    (∀ v n t, s.taskGateOk v false n = true →
      (s.targetRead v).taskEntered .int (s.gate v).gateSel n s.curIP = some t →
      deliver v .fault none s = t.delivered .fault ∧
      ∀ ec, t.stackRoom 2 = true → deliver v .fault (some ec) s = (t.pushed ec).delivered .fault) ∧
    (∀ n t, s.flag .nt = true → s.tr.valid = true → 1 ≤ s.tr.limit.toNat →
      let back := s.mem16 s.tr.base
      let u := s.after16 s.tr.base
      u.tssFor back n 3 = true → (u.afterLookup back).taskEntered .iret back n s.ip = some t →
      exec .iret s = .next t.done) ∧
    (∀ (kind : SwitchKind) (sel : Word) (n : Desc) (ip : Word),
      let t := s.switched kind sel n ip
      let held := fun k => s.mem16 (n.newTss k)
      t.tr = ⟨sel, n.base, n.limit, true⟩ ∧ t.msw = s.msw ||| 0x0008 ∧
      (Memory.wf s.mem = true → s.tasksApart n →
        [14, 16, 18, 20, 22, 24, 26, 28, 30, 32, 34, 36, 38, 40].map (fun k => t.mem16 (s.oldTss k)) =
          [ip, (if kind = .iret then { s.flags with nt := false } else s.flags).word, s.gpr.ax, s.gpr.cx, s.gpr.dx,
            s.gpr.bx, s.gpr.sp, s.gpr.bp, s.gpr.si, s.gpr.di, s.es.sel, s.cs.sel, s.ss.sel, s.ds.sel] ∧
        t.ip = held 14 ∧ t.curIP = held 14 ∧
        t.flags = { FlagsReg.ofWord (held 16) with
          nt := if kind = .jmp then false else if kind = .iret then (held 16).getLsbD 14 else true } ∧
        t.gpr = ⟨held 18, held 20, held 22, held 24, held 26, held 28, held 30, held 32⟩ ∧
        [t.es.sel, t.cs.sel, t.ss.sel, t.ds.sel, t.ldtr.sel] = [held 34, held 36, held 38, held 40, held 42] ∧
        t.mem16 (n.newTss 0) = (if kind = .call ∨ kind = .int then s.tr.sel else held 0) ∧
        t.mem8 n.newRights = n.ar ||| 0x02 ∧
        t.mem8 s.oldRights = (if kind = .call ∨ kind = .int then s.mem8 s.oldRights else s.mem8 s.oldRights &&& 0xFD) ∧
        ∀ a, a ≠ n.newRights → a ≠ s.oldRights → a ≠ n.newTss 0 → a ≠ n.newTss 1 →
          (∀ k < 42, 14 ≤ k → a ≠ s.oldTss k) → t.mem8 a = s.mem8 a))

/-- An exception while a fault is delivered in Protected Mode is a double fault, vector 8 with error code 0; one while
the double fault is delivered shuts the machine down, with IP at the instruction that was given up, and shutdown is
left by NMI or RESET alone: with neither, a step changes nothing but the boundary's latches and the model's own fields
(60_exceptions.md R744, R756, R757). Which nested exceptions are double faults and what ends shutdown are the spec's
decisions D44 and D45 (log 40). -/
def Obligations.DoubleFaultAndShutdown : Prop :=
  (∀ (s u v : State) (n : Byte) (ec : Option Word) (a b : Abort), s.pe = true → n ≠ 8 →
    (deliverProt n .fault ec).run s = .error a u →
    ((deliverProt 8 .fault (some 0)).run u = .ok () v → deliver n .fault ec s = v.delivered .fault) ∧
    ((deliverProt 8 .fault (some 0)).run u = .error b v →
      deliver n .fault ec s =
        { v with run := .shutdown, ip := v.curIP, pfx := Prefixes.none, repeating := none })) ∧
  (∀ s : State, s.run = .shutdown → s.lines.reset = false → s.lines.rising = none → s.nmiPending = false →
    step s = .next { s with
      curIP := s.ip, inhibit := false, stiShadow := false, boundaryDone := false, clock := s.clock + 1
      bus := [] })

/-! ### Strings -/

/-- The string instructions: one element is moved, compared, scanned, loaded, stored, read from or written to a port,
and SI and DI move by its size, down if DF is set; under a repeat prefix CX counts (44_string.md R420 to R437). One
iteration a step is the model's choice (log 9), what a port answers is free and a word at port FFFFH is one access
(log 7), and F2H before a string that does not compare is the spec's decision D25 (log 30). -/
def Obligations.StringElements : Prop :=
  ∀ (s : State), s.lockOk = true →
    let a := (s.seg s.dataSeg).lin s.gpr.si
    let b := s.es.lin s.gpr.di
    (s.readOk s.dataSeg s.gpr.si 1 = true → s.writeOk .es s.gpr.di 1 = true → exec .movsb s =
      .next (s.repeatedAfter .movsb false ((((s.after8 a).setMem8 b (s.mem8 a)).advance .si 1).advance .di 1)).done) ∧
    (s.readOk s.dataSeg s.gpr.si 2 = true → s.writeOk .es s.gpr.di 2 = true → exec .movsw s =
      .next (s.repeatedAfter .movsw false ((((s.after16 a).setMem16 b (s.mem16 a)).advance .si 2).advance .di 2)).done) ∧
    (s.readOk s.dataSeg s.gpr.si 1 = true → s.readOk .es s.gpr.di 1 = true → exec .cmpsb s =
      .next (s.repeatedAfter .cmpsb true
        (((((s.after8 a).after8 b).setStatus (subFlags (s.mem8 a) ((s.after8 a).mem8 b) false).2).advance .si 1).advance
          .di 1)).done) ∧
    (s.readOk s.dataSeg s.gpr.si 2 = true → s.readOk .es s.gpr.di 2 = true → exec .cmpsw s =
      .next (s.repeatedAfter .cmpsw true
        (((((s.after16 a).after16 b).setStatus (subFlags (s.mem16 a) ((s.after16 a).mem16 b) false).2).advance
          .si 2).advance .di 2)).done) ∧
    (s.readOk .es s.gpr.di 1 = true → exec .scasb s =
      .next (s.repeatedAfter .scasb true
        (((s.after8 b).setStatus (subFlags (s.reg8 .al) (s.mem8 b) false).2).advance .di 1)).done) ∧
    (s.readOk .es s.gpr.di 2 = true → exec .scasw s =
      .next (s.repeatedAfter .scasw true
        (((s.after16 b).setStatus (subFlags s.gpr.ax (s.mem16 b) false).2).advance .di 2)).done) ∧
    (s.readOk s.dataSeg s.gpr.si 1 = true → exec .lodsb s =
      .next (s.repeatedAfter .lodsb false (((s.after8 a).setReg8 .al (s.mem8 a)).advance .si 1)).done) ∧
    (s.readOk s.dataSeg s.gpr.si 2 = true → exec .lodsw s =
      .next (s.repeatedAfter .lodsw false (((s.after16 a).setReg16 .ax (s.mem16 a)).advance .si 2)).done) ∧
    (s.writeOk .es s.gpr.di 1 = true → exec .stosb s =
      .next (s.repeatedAfter .stosb false ((s.setMem8 b (s.reg8 .al)).advance .di 1)).done) ∧
    (s.writeOk .es s.gpr.di 2 = true → exec .stosw s =
      .next (s.repeatedAfter .stosw false ((s.setMem16 b s.gpr.ax).advance .di 2)).done) ∧
    (s.ioAllowed = true → s.writeOk .es s.gpr.di 1 = true → exec .insb s =
      .next (s.repeatedAfter .insb false (((s.port (.read s.gpr.dx false)).setMem8 b
        (Config.ioRead s.io s.gpr.dx false).lo).advance .di 1)).done) ∧
    (s.ioAllowed = true → s.writeOk .es s.gpr.di 2 = true → exec .insw s =
      .next (s.repeatedAfter .insw false (((s.portRead s.gpr.dx).setMem16 b (s.portWord s.gpr.dx)).advance .di 2)).done) ∧
    (s.ioAllowed = true → s.readOk s.dataSeg s.gpr.si 1 = true → exec .outsb s =
      .next (s.repeatedAfter .outsb false
        (((s.after8 a).port (.write s.gpr.dx false ((s.mem8 a).setWidth 16))).advance .si 1)).done) ∧
    (s.ioAllowed = true → s.readOk s.dataSeg s.gpr.si 2 = true → exec .outsw s =
      .next (s.repeatedAfter .outsw false
        (((s.after16 a).portWritten s.gpr.dx (s.mem16 a)).advance .si 2)).done)

/-! ### Flag control, I/O, prefixes -/

/-- CLC, CMC, STC, CLD and STD: their encodings, the one flag each sets, that nothing else changes, and the way a
string index moves (45_flag_io_misc.md R451 to R455). -/
def Obligations.FlagControl : Prop :=
  (encode .clc = [0xF8] ∧ encode .cmc = [0xF5] ∧ encode .stc = [0xF9] ∧ encode .cld = [0xFC] ∧ encode .std = [0xFD]) ∧
  ∀ (s : State), s.lockOk = true →
    exec .clc s = .next (s.setFlag .cf false).done ∧ exec .cmc s = .next (s.setFlag .cf (!s.flag .cf)).done ∧
    exec .stc s = .next (s.setFlag .cf true).done ∧ exec .cld s = .next (s.setFlag .df false).done ∧
    exec .std s = .next (s.setFlag .df true).done ∧
    (∀ f b, (s.setFlag f b).flag f = b ∧ (∀ g, g ≠ f → (s.setFlag f b).flag g = s.flag g) ∧
      (s.setFlag f b).iopl = s.iopl) ∧
    (∀ (r : Reg16) (k : Word), ((s.setFlag .df false).advance r k).reg16 r = s.reg16 r + k ∧
      ((s.setFlag .df true).advance r k).reg16 r = s.reg16 r - k)

/-- IN, OUT, CLI and STI with the privilege for them: IN reads the port, OUT writes it, in the order of the accesses,
a word at an odd port as two bytes; STI that sets IF delays INTR by one instruction (45_flag_io_misc.md R450, R456 to
R461; 20_memory.md R130). What a port answers is free, and a word at port FFFFH is one access (log 7); STI with IF set
is the spec's decision D27 (log 31). -/
def Obligations.IoAndInterruptFlag : Prop :=
  ∀ (s : State), s.ioAllowed = true →
    (∀ imm : Byte, exec (.inAlDb imm) s = .next ((s.port (.read (imm.setWidth 16) false)).setReg8 .al
      (Config.ioRead s.io (imm.setWidth 16) false).lo).done) ∧
    (∀ imm : Byte, exec (.inAxDb imm) s =
      .next ((s.portRead (imm.setWidth 16)).setReg16 .ax (s.portWord (imm.setWidth 16))).done) ∧
    exec .inAlDx s = .next ((s.port (.read s.gpr.dx false)).setReg8 .al
      (Config.ioRead s.io s.gpr.dx false).lo).done ∧
    exec .inAxDx s = .next ((s.portRead s.gpr.dx).setReg16 .ax (s.portWord s.gpr.dx)).done ∧
    (∀ imm : Byte, exec (.outDbAl imm) s =
      .next (s.port (.write (imm.setWidth 16) false ((s.reg8 .al).setWidth 16))).done) ∧
    (∀ imm : Byte, exec (.outDbAx imm) s = .next (s.portWritten (imm.setWidth 16) s.gpr.ax).done) ∧
    exec .outDxAl s = .next (s.port (.write s.gpr.dx false ((s.reg8 .al).setWidth 16))).done ∧
    exec .outDxAx s = .next (s.portWritten s.gpr.dx s.gpr.ax).done ∧
    exec .cli s = .next (s.setFlag .if_ false).done ∧
    exec .sti s = .next { s.setFlag .if_ true with stiShadow := s.stiShadow || !s.flag .if_ }.done

/-- In Protected Mode with CPL above IOPL, IN, OUT, INS, OUTS, CLI and STI, and every instruction under a LOCK prefix
but a prefix byte, raise #GP(0) with nothing done; POPF at such a level leaves IF and IOPL as they are
(45_flag_io_misc.md R450, R466; 40_data_movement.md R248). LOCK before any instruction is the spec's decision D10 (log
20), and that the privilege is tested before every other check of the instruction is D1 (log 52). -/
def Obligations.IoPrivilege : Prop :=
  ∀ (s : State), s.ioAllowed = false →
    (∀ imm : Byte, ∀ i ∈ [Instr.inAlDb imm, .inAxDb imm, .inAlDx, .inAxDx, .outDbAl imm, .outDbAx imm, .outDxAl,
      .outDxAx, .cli, .sti], exec i s = s.raises (.gp 0)) ∧
    (s.pfx.rep = none → ∀ i ∈ [Instr.insb, .insw, .outsb, .outsw], exec i s = s.raises (.gp 0)) ∧
    (s.pfx.lock = true → ∀ i, i ∉ [Instr.pfxEs, .pfxCs, .pfxSs, .pfxDs, .pfxLock, .pfxRepne, .pfxRep] →
      exec i s = s.raises (.gp 0)) ∧
    (s.pfx.lock = false → s.stackOk s.gpr.sp 2 = true → ∃ t, exec .popf s = .next t ∧
      t.flag .if_ = s.flag .if_ ∧ t.iopl = s.iopl ∧ t.flag .cf = s.stackTop.getLsbD 0)

/-- NOP, WAIT with the 80287 ready and no error, and HLT; a prefix byte is recorded for the bytes that follow
(45_flag_io_misc.md R463 to R466; 30_encoding.md R182, R183; 44_string.md R435, R436). A prefix byte is a step by the
model's choice (log 9), that WAIT never waits is the spec's decision D33 (log 34), and that a later override or repeat
prefix replaces an earlier one is D15 (log 22). -/
def Obligations.NopWaitHaltPrefixes : Prop :=
  ∀ (s : State),
    (s.lockOk = true → exec .nop s = .next s.done ∧
      ((s.mp && s.ts) = false → (s.em || !s.npxError) = true → exec .wait s = .next s.done) ∧
      ((s.mp && s.ts) = true → exec .wait s = s.raises .nm) ∧
      ((s.mp && s.ts) = false → s.em = false → s.npxError = true → exec .wait s = s.raises .mf) ∧
      (s.pe = false ∨ s.cpl = 0 → exec .hlt s = .next { s with run := .halted }.done)) ∧
    (let p := { s.pfx with count := s.pfx.count + 1 }
     exec .pfxEs s = .next { s with pfx := { p with seg := some .es } } ∧
      exec .pfxCs s = .next { s with pfx := { p with seg := some .cs } } ∧
      exec .pfxSs s = .next { s with pfx := { p with seg := some .ss } } ∧
      exec .pfxDs s = .next { s with pfx := { p with seg := some .ds } } ∧
      exec .pfxLock s = .next { s with pfx := { p with lock := true } } ∧
      exec .pfxRepne s = .next { s with pfx := { p with rep := some .repne } } ∧
      exec .pfxRep s = .next { s with pfx := { p with rep := some .rep } })

/-! ### ENTER, LEAVE, BOUND -/

/-- ENTER builds a frame: BP pushed, the display copied and the new frame pointer pushed for levels above 0, and room
for the locals; LEAVE undoes it; BOUND does nothing when the index is within its signed bounds and raises exception 5
when it is not (46_extended.md R480 to R483; 60_exceptions.md R775). ENTER's stack test is the spec's decision D29
(log 32). -/
def Obligations.EnterLeaveBound : Prop :=
  ∀ (s : State), s.lockOk = true →
    (∀ (size : Word) (levelByte : Byte), s.ss.readable = true →
      let level := levelByte.toNat % 32
      (s.pe = true → s.stackRoom (2 * (if level = 0 then 1 else level + 1) + size.toNat) = true) →
      s.pushesOk (if level = 0 then 1 else level + 1) = true → s.displayOk (level - 1) = true →
      let frame := s.gpr.sp - 2
      let t := if level = 0 then s.pushed s.gpr.bp
        else (State.displayed (level - 1) (s.pushed s.gpr.bp)).pushed frame
      exec (.enterDwDb size levelByte) s = .next ((t.setReg16 .bp frame).setReg16 .sp (t.gpr.sp - size)).done) ∧
    (s.stackOk s.gpr.bp 2 = true → exec .leave s =
      .next (((s.after16 (s.ss.lin s.gpr.bp)).setReg16 .sp (s.gpr.bp + 2)).setReg16 .bp
        (s.mem16 (s.ss.lin s.gpr.bp))).done) ∧
    (∀ r ea, s.farReadOk ea = true →
      let ok := (s.farPointer ea).1.toInt ≤ (s.reg16 r).toInt ∧ (s.reg16 r).toInt ≤ (s.farPointer ea).2.toInt
      (ok → exec (.boundRwMd r ea) s = .next (s.operandRead 2 ea).done) ∧
      (¬ok → exec (.boundRwMd r ea) s = .next (deliver 5 .fault none (s.operandRead 2 ea))))

/-! ### System control -/

/-- The system registers: LGDT, LIDT, SGDT, SIDT (the last byte stored undefined); LMSW, which cannot clear PE, SMSW
and CLTS; LLDT and LTR of a present descriptor of the GDT, SLDT and STR (47_system_control.md R491 to R502;
20_memory.md R154, R155). MSW's reserved bits are the spec's decision D4 (log 16), the byte SGDT leaves undefined is
free (log 28), and LTR of a null selector is D11 (log 52). -/
def Obligations.SystemRegisters : Prop :=
  ∀ (s : State), s.lockOk = true →
    (∀ ea, (s.pe = false ∨ s.cpl = 0) → s.readOk (s.eaSeg ea) (s.eaOff ea) 6 = true →
      let w := wordAt (s.operandWords 3 ea)
      exec (.lgdtM ea) s = .next { s.operandRead 3 ea with gdtr := ⟨(w 2).lo ++ w 1, w 0⟩ }.done ∧
      exec (.lidtM ea) s = .next { s.operandRead 3 ea with idtr := ⟨(w 2).lo ++ w 1, w 0⟩ }.done) ∧
    (∀ ea, s.writeOk (s.eaSeg ea) (s.eaOff ea) 6 = true →
      let stored := fun (x : TableReg) (u : Byte) =>
        let a := fun k : Word => (s.seg (s.eaSeg ea)).lin (s.eaOff ea + k)
        ((({ s with undef := s.undef + 1 }.setMem16 (a 0) x.limit).setMem16 (a 2) (x.base.extractLsb' 0 16)).setMem16
          (a 4) (Word.of u (x.base.extractLsb' 16 8))).done
      (∃ u, exec (.sgdtM ea) s = .next (stored s.gdtr u)) ∧ (∃ u, exec (.sidtM ea) s = .next (stored s.idtr u))) ∧
    (∀ d, (s.pe = false ∨ s.cpl = 0) → s.canRead 2 d = true →
      exec (.lmswEw d) s = .next { s.read16 d with msw := (s.msw &&& 0xFFF1) ||| (s.val16 d &&& 0x000F) }.done) ∧
    (∀ d, s.canWrite 2 d = true → exec (.smswEw d) s = .next (s.put16 s d (0xFFF0 ||| s.msw)).done) ∧
    ((s.pe = false ∨ s.cpl = 0) → exec .clts s = .next { s with msw := s.msw &&& 0xFFF7 }.done) ∧
    (s.pe = true → ∀ d, s.canWrite 2 d = true →
      exec (.sldtEw d) s = .next (s.put16 s d s.ldtr.sel).done ∧
      exec (.strEw d) s = .next (s.put16 s d s.tr.sel).done) ∧
    (s.pe = true → s.cpl = 0 → ∀ d, s.canRead 2 d = true → selNull (s.val16 d) = true →
      exec (.lldtEw d) s = .next { s.read16 d with ldtr := { s.ldtr with sel := s.val16 d, valid := false } }.done ∧
      exec (.ltrEw d) s = (s.read16 d).raises (.gp 0)) ∧
    (s.pe = true → s.cpl = 0 → ∀ d x, s.canRead 2 d = true →
      let sel := s.val16 d
      let u := (s.read16 d).afterLookup sel
      selNull sel = false → selLocal sel = false → (s.read16 d).descLookup sel = some x → x.present = true →
      (x.isControl 2 = true → exec (.lldtEw d) s = .next { u with ldtr := ⟨sel, x.base, x.limit, true⟩ }.done) ∧
      (x.isControl 1 = true → exec (.ltrEw d) s = .next
        { u.setMem8 (x.addr + 5) (x.ar ||| 0x02) with tr := ⟨sel, x.base, x.limit, true⟩ }.done))

/-- Pointer validation: ZF says whether the selector can be used, and LAR and LSL then load what it names. VERR needs
a readable segment, VERW a writable one, LSL a segment, a TSS or an LDT, and LAR nothing of the type; all need the
privilege that loading the segment would, LAR only where the type gives DPL a meaning. ARPL raises the RPL to the
source's and says in ZF whether it did (47_system_control.md R503 to R508; 20_memory.md R106, R112). The Accessed bit,
the present bit and the types LAR accepts are the spec's decisions D30 to D32 (log 33). -/
def Obligations.PointerValidation : Prop :=
  ∀ (s : State), s.lockOk = true → s.pe = true →
    (∀ r d, s.canRead 2 d = true → selNull (s.val16 d) = true ∨ (s.read16 d).descLookup (s.val16 d) = none →
      ∀ i ∈ [Instr.larRwEw r d, .lslRwEw r d, .verrEw d, .verwEw d],
        exec i s = .next ((s.read16 d).setFlag .zf false).done) ∧
    (∀ r d x, s.canRead 2 d = true → selNull (s.val16 d) = false → (s.read16 d).descLookup (s.val16 d) = some x →
      let u := (s.read16 d).afterLookup (s.val16 d)
      let reachable := x.conforming = true ∨ (s.cpl.toNat ≤ x.dpl.toNat ∧ (selRpl (s.val16 d)).toNat ≤ x.dpl.toNat)
      let noDpl := x.segment = false ∧ (x.type = 0 ∨ x.type = 2 ∨ 8 ≤ x.type.toNat)
      let passed := fun t : State => ((if x.segment then t.accessed x else t).setFlag .zf true).done
      let failed := (u.setFlag .zf false).done
      exec (.larRwEw r d) s = .next (if reachable ∨ noDpl then passed (u.setReg16 r (Word.of x.ar 0)) else failed) ∧
      exec (.lslRwEw r d) s = .next
        (if reachable ∧ (x.segment = true ∨ x.type = 1 ∨ x.type = 2 ∨ x.type = 3) then passed (u.setReg16 r x.limit)
        else failed) ∧
      exec (.verrEw d) s = .next (if reachable ∧ x.readable = true then passed u else failed) ∧
      exec (.verwEw d) s = .next (if reachable ∧ x.isData = true ∧ x.ar.getLsbD 1 = true then passed u else failed)) ∧
    (∀ d r, s.canWrite 2 d = true → exec (.arplEwRw d r) s = .next
      (if (selRpl (s.val16 d)).toNat < (selRpl (s.reg16 r)).toNat then
        (s.put16 (s.read16 d) d ((s.val16 d &&& 0xFFFC) ||| (s.reg16 r &&& 0x0003))).setFlag .zf true
      else (s.read16 d).setFlag .zf false).done)

/-- The instructions that Real Address Mode does not recognize raise #UD there; the privileged ones raise #GP(0) at
any level but 0 (47_system_control.md R490; 45_flag_io_misc.md R463). That these come before any fault of the operand
is the order of checks the spec decided, D1 (log 52). -/
def Obligations.SystemTraps : Prop :=
  ∀ (s : State), s.lockOk = true →
    (s.pe = false → ∀ r d, ∀ i ∈ [Instr.sldtEw d, .strEw d, .lldtEw d, .ltrEw d, .larRwEw r d, .lslRwEw r d, .verrEw d,
      .verwEw d, .arplEwRw d r], exec i s = s.raises .ud) ∧
    (s.pe = true → s.cpl ≠ 0 → ∀ d ea, ∀ i ∈ [Instr.lgdtM ea, .lidtM ea, .lmswEw d, .clts, .hlt, .lldtEw d, .ltrEw d],
      exec i s = s.raises (.gp 0))

/-! ### The 80287 -/

/-- Every ESC instruction raises #NM while EM or TS is set, and every error-checking one #MF while the 80287 reports
an error. With no 80287 the stores of the control and status words and FNSTSW AX give FFFFH, and every other ESC whose
operand can be accessed changes nothing. An instruction whose operand has its first word inside the segment but not
its last is the processor extension segment overrun, vector 9: the words inside the segment are moved, the pointers
are latched, but by the control instructions, the rest of the 80287 is lost, and nothing else changes before its
delivery, which waits while NMI is masked (48_npx_architecture.md R534 to R537, R539; 60_exceptions.md R738, R779).
Which ESC instructions are error-checking is the spec's decision D34, what they do with no 80287 is D35 (log 35), the
wait is D46 (log 40), and that #NM and #MF come before the check of the operand's address is D1 (log 52); the lost
state is free (log 41), and which instructions latch the pointers is D38 (log 38). -/
def Obligations.EscTraps : Prop :=
  (∀ (i : Instr) (s : State), s.lockOk = true → isEsc i = true →
    ((s.em || s.ts) = true → exec i s = s.raises .nm) ∧
    (s.em = false → s.ts = false → s.npxError = true →
      (∀ ea, i ≠ .fnstenvM14byte ea ∧ i ≠ .fnstcwM2byte ea ∧ i ≠ .fnsaveM94byte ea ∧ i ≠ .fnstswM2byte ea) →
      i ∉ [Instr.fnclex, .fninit, .fsetpm, .fnstswAx] → exec i s = s.raises .mf)) ∧
  (∀ s : State, s.lockOk = true → s.em = false → s.ts = false → s.npxPresent = false →
    exec .fnstswAx s = .next (s.setReg16 .ax 0xFFFF).done ∧
    (∀ i b m, isEsc i = true → encode i = [b, m] → 0xC0 ≤ m.toNat → i ≠ .fnstswAx → exec i s = .next s.done) ∧
    (∀ x g d, exec (.escReserved x g d) s = .next s.done) ∧
    (∀ ea, s.readOk (s.eaSeg ea) (s.eaOff ea) 2 = true → ∀ i ∈
      [Instr.faddM32real ea, .fmulM32real ea, .fcomM32real ea, .fcompM32real ea, .fsubM32real ea, .fsubrM32real ea,
       .fdivM32real ea, .fdivrM32real ea, .faddM64real ea, .fmulM64real ea, .fcomM64real ea, .fcompM64real ea,
       .fsubM64real ea, .fsubrM64real ea, .fdivM64real ea, .fdivrM64real ea, .fiaddM32int ea, .fimulM32int ea,
       .ficomM32int ea, .ficompM32int ea, .fisubM32int ea, .fisubrM32int ea, .fidivM32int ea, .fidivrM32int ea,
       .fiaddM16int ea, .fimulM16int ea, .ficomM16int ea, .ficompM16int ea, .fisubM16int ea, .fisubrM16int ea,
       .fidivM16int ea, .fidivrM16int ea, .fldM32real ea, .fldM64real ea, .fldM80real ea, .fildM16int ea,
       .fildM32int ea, .fildM64int ea, .fbldM80dec ea, .fldcwM2byte ea, .fldenvM14byte ea, .frstorM94byte ea],
      exec i s = .next s.done) ∧
    (∀ ea, s.writeOk (s.eaSeg ea) (s.eaOff ea) 2 = true →
      exec (.fnstcwM2byte ea) s = .next (s.storedAt s ea [0xFFFF]).done ∧
      exec (.fnstswM2byte ea) s = .next (s.storedAt s ea [0xFFFF]).done ∧
      ∀ i ∈ [Instr.fstM32real ea, .fstpM32real ea, .fstM64real ea, .fstpM64real ea, .fstpM80real ea, .fistM16int ea,
        .fistpM16int ea, .fistM32int ea, .fistpM32int ea, .fistpM64int ea, .fbstpM80dec ea, .fnstenvM14byte ea,
        .fnsaveM94byte ea],
        exec i s = .next s.done)) ∧
  (∀ (s : State) (ea : Ea), s.lockOk = true → s.escReadOk 1 ea = true →
    ∀ x ∈ ([(.faddM32real ea, 0, 0, 2), (.fmulM32real ea, 0, 1, 2), (.fcomM32real ea, 0, 2, 2),
       (.fcompM32real ea, 0, 3, 2), (.fsubM32real ea, 0, 4, 2), (.fsubrM32real ea, 0, 5, 2),
       (.fdivM32real ea, 0, 6, 2), (.fdivrM32real ea, 0, 7, 2), (.faddM64real ea, 4, 0, 4),
       (.fmulM64real ea, 4, 1, 4), (.fcomM64real ea, 4, 2, 4), (.fcompM64real ea, 4, 3, 4),
       (.fsubM64real ea, 4, 4, 4), (.fsubrM64real ea, 4, 5, 4), (.fdivM64real ea, 4, 6, 4),
       (.fdivrM64real ea, 4, 7, 4), (.fiaddM32int ea, 2, 0, 2), (.fimulM32int ea, 2, 1, 2),
       (.ficomM32int ea, 2, 2, 2), (.ficompM32int ea, 2, 3, 2), (.fisubM32int ea, 2, 4, 2),
       (.fisubrM32int ea, 2, 5, 2), (.fidivM32int ea, 2, 6, 2), (.fidivrM32int ea, 2, 7, 2),
       (.fldM32real ea, 1, 0, 2), (.fldM64real ea, 5, 0, 4), (.fldM80real ea, 3, 5, 5), (.fildM32int ea, 3, 0, 2),
       (.fildM64int ea, 7, 5, 4), (.fbldM80dec ea, 7, 4, 5)] : List (Instr × BitVec 3 × BitVec 3 × Nat)),
      ∀ k < x.2.2.2, s.endsAfter ea k →
      (s.operandRead k ea).overruns (s.latch (memOpcode x.2.1 x.2.2.1 ea) (some ea)).npx (exec x.1 s)) ∧
  (∀ (s : State) (ea : Ea), s.lockOk = true → s.escReadOk 1 ea = true →
    ∀ x ∈ ([(.fldenvM14byte ea, 7), (.frstorM94byte ea, 47)] : List (Instr × Nat)),
      ∀ k < x.2, s.endsAfter ea k → (s.operandRead k ea).overruns s.npx (exec x.1 s)) ∧
  (∀ (s : State) (ea : Ea), s.lockOk = true → s.escWriteOk false 1 ea = true →
    ∀ x ∈ ([(.fnstenvM14byte ea, s.npx.envWords), (.fnsaveM94byte ea, s.npx.saveWords)] : List (Instr × List Word)),
      ∀ k < x.2.length, s.endsAfter ea k → (s.storedAt s ea (x.2.take k)).overruns s.npx (exec x.1 s)) ∧
  ∀ (s : State) (ea : Ea), s.lockOk = true →
    s.storeOverruns (memOpcode 1 2 ea) ea 2 (realImage shortReal) (.fstM32real ea) ∧
    s.storeOverruns (memOpcode 1 3 ea) ea 2 (andPop (realImage shortReal)) (.fstpM32real ea) ∧
    s.storeOverruns (memOpcode 5 2 ea) ea 4 (realImage longReal) (.fstM64real ea) ∧
    s.storeOverruns (memOpcode 5 3 ea) ea 4 (andPop (realImage longReal)) (.fstpM64real ea) ∧
    s.storeOverruns (memOpcode 3 7 ea) ea 5 (andPop tempImage) (.fstpM80real ea) ∧
    s.storeOverruns (memOpcode 3 2 ea) ea 2 (intImage 32) (.fistM32int ea) ∧
    s.storeOverruns (memOpcode 3 3 ea) ea 2 (andPop (intImage 32)) (.fistpM32int ea) ∧
    s.storeOverruns (memOpcode 7 7 ea) ea 4 (andPop (intImage 64)) (.fistpM64int ea) ∧
    s.storeOverruns (memOpcode 7 6 ea) ea 5 (andPop bcdImage) (.fbstpM80dec ea)

/-- Every numeric instruction with a source in memory runs: the exception pointers are latched, the operand is read,
converted and worked on, and only the 80287 changes (49_npx_instructions.md R625, R629, R632, R641, R644, R671, R674;
48_npx_architecture.md R535, R590). That the instruction is complete within its step is the spec's decision D33 (log
34), the pointers' form D38 (log 38). -/
def Obligations.NpxMemoryOperands : Prop :=
  ∀ (s : State) (ea : Ea), s.lockOk = true →
    s.escLoads (memOpcode 0 0 ea) ea 2 (fun v => arithMem .add (shortReal.load v)) (.faddM32real ea) ∧
    s.escLoads (memOpcode 0 1 ea) ea 2 (fun v => arithMem .mul (shortReal.load v)) (.fmulM32real ea) ∧
    s.escLoads (memOpcode 0 4 ea) ea 2 (fun v => arithMem .sub (shortReal.load v)) (.fsubM32real ea) ∧
    s.escLoads (memOpcode 0 5 ea) ea 2 (fun v => arithMem .subr (shortReal.load v)) (.fsubrM32real ea) ∧
    s.escLoads (memOpcode 0 6 ea) ea 2 (fun v => arithMem .div (shortReal.load v)) (.fdivM32real ea) ∧
    s.escLoads (memOpcode 0 7 ea) ea 2 (fun v => arithMem .divr (shortReal.load v)) (.fdivrM32real ea) ∧
    s.escLoads (memOpcode 0 2 ea) ea 2 (fun v => compareMem (shortReal.load v)) (.fcomM32real ea) ∧
    s.escLoads (memOpcode 0 3 ea) ea 2 (fun v => comparePop (compareMem (shortReal.load v))) (.fcompM32real ea) ∧
    s.escLoads (memOpcode 4 0 ea) ea 4 (fun v => arithMem .add (longReal.load v)) (.faddM64real ea) ∧
    s.escLoads (memOpcode 4 1 ea) ea 4 (fun v => arithMem .mul (longReal.load v)) (.fmulM64real ea) ∧
    s.escLoads (memOpcode 4 4 ea) ea 4 (fun v => arithMem .sub (longReal.load v)) (.fsubM64real ea) ∧
    s.escLoads (memOpcode 4 5 ea) ea 4 (fun v => arithMem .subr (longReal.load v)) (.fsubrM64real ea) ∧
    s.escLoads (memOpcode 4 6 ea) ea 4 (fun v => arithMem .div (longReal.load v)) (.fdivM64real ea) ∧
    s.escLoads (memOpcode 4 7 ea) ea 4 (fun v => arithMem .divr (longReal.load v)) (.fdivrM64real ea) ∧
    s.escLoads (memOpcode 4 2 ea) ea 4 (fun v => compareMem (longReal.load v)) (.fcomM64real ea) ∧
    s.escLoads (memOpcode 4 3 ea) ea 4 (fun v => comparePop (compareMem (longReal.load v))) (.fcompM64real ea) ∧
    s.escLoads (memOpcode 2 0 ea) ea 2 (fun v => arithMem .add (intNum 32 v)) (.fiaddM32int ea) ∧
    s.escLoads (memOpcode 2 1 ea) ea 2 (fun v => arithMem .mul (intNum 32 v)) (.fimulM32int ea) ∧
    s.escLoads (memOpcode 2 4 ea) ea 2 (fun v => arithMem .sub (intNum 32 v)) (.fisubM32int ea) ∧
    s.escLoads (memOpcode 2 5 ea) ea 2 (fun v => arithMem .subr (intNum 32 v)) (.fisubrM32int ea) ∧
    s.escLoads (memOpcode 2 6 ea) ea 2 (fun v => arithMem .div (intNum 32 v)) (.fidivM32int ea) ∧
    s.escLoads (memOpcode 2 7 ea) ea 2 (fun v => arithMem .divr (intNum 32 v)) (.fidivrM32int ea) ∧
    s.escLoads (memOpcode 2 2 ea) ea 2 (fun v => compareMem (intNum 32 v)) (.ficomM32int ea) ∧
    s.escLoads (memOpcode 2 3 ea) ea 2 (fun v => comparePop (compareMem (intNum 32 v))) (.ficompM32int ea) ∧
    s.escLoads (memOpcode 6 0 ea) ea 1 (fun v => arithMem .add (intNum 16 v)) (.fiaddM16int ea) ∧
    s.escLoads (memOpcode 6 1 ea) ea 1 (fun v => arithMem .mul (intNum 16 v)) (.fimulM16int ea) ∧
    s.escLoads (memOpcode 6 4 ea) ea 1 (fun v => arithMem .sub (intNum 16 v)) (.fisubM16int ea) ∧
    s.escLoads (memOpcode 6 5 ea) ea 1 (fun v => arithMem .subr (intNum 16 v)) (.fisubrM16int ea) ∧
    s.escLoads (memOpcode 6 6 ea) ea 1 (fun v => arithMem .div (intNum 16 v)) (.fidivM16int ea) ∧
    s.escLoads (memOpcode 6 7 ea) ea 1 (fun v => arithMem .divr (intNum 16 v)) (.fidivrM16int ea) ∧
    s.escLoads (memOpcode 6 2 ea) ea 1 (fun v => compareMem (intNum 16 v)) (.ficomM16int ea) ∧
    s.escLoads (memOpcode 6 3 ea) ea 1 (fun v => comparePop (compareMem (intNum 16 v))) (.ficompM16int ea) ∧
    s.escLoads (memOpcode 1 0 ea) ea 2 (fun v => loadReal shortReal v) (.fldM32real ea) ∧
    s.escLoads (memOpcode 5 0 ea) ea 4 (fun v => loadReal longReal v) (.fldM64real ea) ∧
    s.escLoads (memOpcode 3 5 ea) ea 5 (fun v => loadTemp v) (.fldM80real ea) ∧
    s.escLoads (memOpcode 7 0 ea) ea 1 (fun v => loadInt 16 v) (.fildM16int ea) ∧
    s.escLoads (memOpcode 3 0 ea) ea 2 (fun v => loadInt 32 v) (.fildM32int ea) ∧
    s.escLoads (memOpcode 7 5 ea) ea 4 (fun v => loadInt 64 v) (.fildM64int ea) ∧
    s.escLoads (memOpcode 7 4 ea) ea 5 (fun v => loadBcd v) (.fbldM80dec ea)

/-- Every numeric instruction without a memory operand runs: the instruction pointer and opcode are latched, and the
operation changes the 80287 alone; the constants have the values of 49_npx_instructions.md R691 to R697 (R623 to R628,
R641, R660 to R685, R712 to R715; 48_npx_architecture.md R535, R590). The constants' patterns are the spec's from
general knowledge, G7 (log 43); transcendental results are free (log 42). That the instruction is complete within its
step is the spec's decision D33 (log 34), the form of the pointer and opcode D38 (log 38). -/
def Obligations.NpxRegisterForms : Prop :=
  ∀ (s : State) (i : BitVec 3), s.lockOk = true →
    s.escRuns (stiOpcode 0 0xC0 i) (arithST .add 0 i) (.faddStSti i) ∧
    s.escRuns (stiOpcode 0 0xC8 i) (arithST .mul 0 i) (.fmulStSti i) ∧
    s.escRuns (stiOpcode 0 0xE0 i) (arithST .sub 0 i) (.fsubStSti i) ∧
    s.escRuns (stiOpcode 0 0xE8 i) (arithST .subr 0 i) (.fsubrStSti i) ∧
    s.escRuns (stiOpcode 0 0xF0 i) (arithST .div 0 i) (.fdivStSti i) ∧
    s.escRuns (stiOpcode 0 0xF8 i) (arithST .divr 0 i) (.fdivrStSti i) ∧
    s.escRuns (stiOpcode 4 0xC0 i) (arithST .add i 0) (.faddStiSt i) ∧
    s.escRuns (stiOpcode 4 0xC8 i) (arithST .mul i 0) (.fmulStiSt i) ∧
    s.escRuns (stiOpcode 4 0xE8 i) (arithST .sub i 0) (.fsubStiSt i) ∧
    s.escRuns (stiOpcode 4 0xE0 i) (arithST .subr i 0) (.fsubrStiSt i) ∧
    s.escRuns (stiOpcode 4 0xF8 i) (arithST .div i 0) (.fdivStiSt i) ∧
    s.escRuns (stiOpcode 4 0xF0 i) (arithST .divr i 0) (.fdivrStiSt i) ∧
    s.escRuns (stiOpcode 6 0xC0 i) (arithPop .add i) (.faddpStiSt i) ∧
    s.escRuns (stiOpcode 6 0xC8 i) (arithPop .mul i) (.fmulpStiSt i) ∧
    s.escRuns (stiOpcode 6 0xE8 i) (arithPop .sub i) (.fsubpStiSt i) ∧
    s.escRuns (stiOpcode 6 0xE0 i) (arithPop .subr i) (.fsubrpStiSt i) ∧
    s.escRuns (stiOpcode 6 0xF8 i) (arithPop .div i) (.fdivpStiSt i) ∧
    s.escRuns (stiOpcode 6 0xF0 i) (arithPop .divr i) (.fdivrpStiSt i) ∧
    s.escRuns (stiOpcode 0 0xD0 i) (compareST i) (.fcomSti i) ∧
    s.escRuns (stiOpcode 4 0xD0 i) (compareST i) (.fcomStiDC i) ∧
    s.escRuns (stiOpcode 0 0xD8 i) (comparePop (compareST i)) (.fcompSti i) ∧
    s.escRuns (stiOpcode 4 0xD8 i) (comparePop (compareST i)) (.fcompStiDC i) ∧
    s.escRuns (stiOpcode 6 0xD0 i) (comparePop (compareST i)) (.fcompStiDE i) ∧
    s.escRuns (regOpcode 6 0xD9) (comparePop (comparePop (compareST 1))) (.fcompp) ∧
    s.escRuns (regOpcode 1 0xE4) (compareMem (regOperand 0)) (.ftst) ∧
    s.escRuns (regOpcode 1 0xE5) (examine) (.fxam) ∧
    s.escRuns (stiOpcode 1 0xC0 i) (loadST i) (.fldSti i) ∧
    s.escRuns (stiOpcode 1 0xC8 i) (exchange i) (.fxchSti i) ∧
    s.escRuns (stiOpcode 5 0xC8 i) (exchange i) (.fxchStiDD i) ∧
    s.escRuns (stiOpcode 7 0xC8 i) (exchange i) (.fxchStiDF i) ∧
    s.escRuns (stiOpcode 5 0xD0 i) (storeST i) (.fstSti i) ∧
    s.escRuns (stiOpcode 5 0xD8 i) (storePopST i) (.fstpSti i) ∧
    s.escRuns (stiOpcode 1 0xD8 i) (storePopST i) (.fstpStiD9 i) ∧
    s.escRuns (stiOpcode 7 0xD0 i) (storePopST i) (.fstpStiDFD0 i) ∧
    s.escRuns (stiOpcode 7 0xD8 i) (storePopST i) (.fstpStiDFD8 i) ∧
    s.escRuns (regOpcode 1 0xEE) (pushST 0) (.fldz) ∧
    s.escRuns (regOpcode 1 0xE8) (pushST 0x3FFF8000000000000000) (.fld1) ∧
    s.escRuns (regOpcode 1 0xEB) (pushST 0x4000C90FDAA22168C235) (.fldpi) ∧
    s.escRuns (regOpcode 1 0xE9) (pushST 0x4000D49A784BCD1B8AFE) (.fldl2t) ∧
    s.escRuns (regOpcode 1 0xEA) (pushST 0x3FFFB8AA3B295C17F0BC) (.fldl2e) ∧
    s.escRuns (regOpcode 1 0xEC) (pushST 0x3FFD9A209A84FBCFF799) (.fldlg2) ∧
    s.escRuns (regOpcode 1 0xED) (pushST 0x3FFEB17217F7D1CF79AC) (.fldln2) ∧
    s.escRuns (regOpcode 1 0xE0) (signOp fun b => !b) (.fchs) ∧
    s.escRuns (regOpcode 1 0xE1) (signOp fun _ => false) (.fabs) ∧
    s.escRuns (regOpcode 1 0xF0) (f2xm1Op) (.f2xm1) ∧
    s.escRuns (regOpcode 1 0xF1) (fyl2xOp) (.fyl2x) ∧
    s.escRuns (regOpcode 1 0xF2) (fptanOp) (.fptan) ∧
    s.escRuns (regOpcode 1 0xF3) (fpatanOp) (.fpatan) ∧
    s.escRuns (regOpcode 1 0xF4) (fxtractOp) (.fxtract) ∧
    s.escRuns (regOpcode 1 0xF8) (fpremOp) (.fprem) ∧
    s.escRuns (regOpcode 1 0xF9) (fyl2xp1Op) (.fyl2xp1) ∧
    s.escRuns (regOpcode 1 0xFA) (unary sqrtReal) (.fsqrt) ∧
    s.escRuns (regOpcode 1 0xFC) (unary roundReal) (.frndint) ∧
    s.escRuns (regOpcode 1 0xFD) (fscaleOp) (.fscale) ∧
    s.escRuns (regOpcode 1 0xD0) (pure ()) (.fnop) ∧
    s.escRuns (regOpcode 1 0xF6) (changeNpx fun n => n.setTop (n.top - 1)) (.fdecstp) ∧
    s.escRuns (regOpcode 1 0xF7) (changeNpx fun n => n.setTop (n.top + 1)) (.fincstp) ∧
    s.escRuns (stiOpcode 5 0xC0 i) (freeST i) (.ffreeSti i) ∧
    s.escRuns (stiOpcode 7 0xC0 i) (freePopST i) (.ffreeStiDF i)

/-- Every numeric store runs: the image of ST in the operand's format is stored at the operand's address and nowhere
else, and nothing is stored if an unmasked exception ends the instruction (49_npx_instructions.md R626, R627, R630,
R631, R633; 48_npx_architecture.md R581). That the store is complete within its step is the spec's decision D33 (log
34). -/
def Obligations.NpxStores : Prop :=
  ∀ (s : State) (ea : Ea), s.lockOk = true →
    s.escStores (memOpcode 1 2 ea) ea 2 (realImage shortReal) (.fstM32real ea) ∧
    s.escStores (memOpcode 1 3 ea) ea 2 (andPop (realImage shortReal)) (.fstpM32real ea) ∧
    s.escStores (memOpcode 5 2 ea) ea 4 (realImage longReal) (.fstM64real ea) ∧
    s.escStores (memOpcode 5 3 ea) ea 4 (andPop (realImage longReal)) (.fstpM64real ea) ∧
    s.escStores (memOpcode 3 7 ea) ea 5 (andPop tempImage) (.fstpM80real ea) ∧
    s.escStores (memOpcode 7 2 ea) ea 1 (intImage 16) (.fistM16int ea) ∧
    s.escStores (memOpcode 7 3 ea) ea 1 (andPop (intImage 16)) (.fistpM16int ea) ∧
    s.escStores (memOpcode 3 2 ea) ea 2 (intImage 32) (.fistM32int ea) ∧
    s.escStores (memOpcode 3 3 ea) ea 2 (andPop (intImage 32)) (.fistpM32int ea) ∧
    s.escStores (memOpcode 7 7 ea) ea 4 (andPop (intImage 64)) (.fistpM64int ea) ∧
    s.escStores (memOpcode 7 6 ea) ea 5 (andPop bcdImage) (.fbstpM80dec ea)

/-- Processor control: FLDCW, FLDENV and FRSTOR load; FNSTCW, FNSTSW, FNSTENV and FNSAVE store, and FNSTENV then masks
all exceptions, FNSAVE initializes; FNINIT, FNCLEX and FSETPM; FNENI, FNDISI and a reserved ESC do nothing
(49_npx_instructions.md R622, R700 to R711). The condition code after FNINIT and FNSAVE is undefined. The images'
layout is the spec's D38, D39, G1 and G6 (log 18, log 38), and the no-ops are D34 (log 35). -/
def Obligations.NpxControl : Prop :=
  ∀ (s : State), s.lockOk = true → s.npxPresent = true →
    (∀ ea, s.escReadOk 1 ea = true →
      exec (.fldcwM2byte ea) s = .next { s.operandRead 1 ea with npx := s.npx.setCW (wordAt (s.operandWords 1 ea) 0) }.done) ∧
    (∀ ea, s.escReadOk 7 ea = true →
      exec (.fldenvM14byte ea) s = .next { s.operandRead 7 ea with npx := Npx.loadEnv (s.operandWords 7 ea) s.npx }.done) ∧
    (∀ ea, s.escReadOk 47 ea = true →
      exec (.frstorM94byte ea) s = .next { s.operandRead 47 ea with npx := Npx.loadAll (s.operandWords 47 ea) s.npx }.done) ∧
    (∀ ea, s.escWriteOk false 1 ea = true →
      exec (.fnstcwM2byte ea) s = .next (s.storedAt s ea [s.npx.cw]).done ∧
      exec (.fnstswM2byte ea) s = .next (s.storedAt s ea [s.npx.sw.word]).done) ∧
    (∀ ea, s.escWriteOk false 7 ea = true → exec (.fnstenvM14byte ea) s =
      .next { s.storedAt s ea s.npx.envWords with npx := s.npx.setCW (s.npx.cw ||| 0x003F) }.done) ∧
    (∀ ea, s.escWriteOk false 47 ea = true → ∃ cc, exec (.fnsaveM94byte ea) s =
      .next { s.storedAt s ea s.npx.saveWords with npx := s.npx.init cc, undef := s.undef + 1 }.done) ∧
    (s.escOk false = true →
      exec .fnstswAx s = .next (s.setReg16 .ax s.npx.sw.word).done ∧
      (∃ cc, exec .fninit s = .next { s with npx := s.npx.init cc, undef := s.undef + 1 }.done) ∧
      exec .fnclex s = .next { s with npx := { s.npx with sw := .ofWord (s.npx.sw.word &&& 0x7F00) } }.done ∧
      exec .fsetpm s = .next { s with npx := { s.npx with protectedMode := true } }.done) ∧
    (s.escOk true = true →
      exec .fneni s = .next s.done ∧ exec .fndisi s = .next s.done ∧
      ∀ x g d, exec (.escReserved x g d) s = .next s.done)

/-- Rounding: the multiple of 2^g that RC names among the two that enclose the value, the even one of two that are
equally near, and exact if and only if the value is such a multiple (48_npx_architecture.md R570). -/
def Obligations.RoundingIsCorrect : Prop :=
  ∀ (rc : Rounding) (neg : Bool) (n : Nat) (e g : Int),
    let x : Exact := ⟨n, e, false⟩
    let r := roundTo rc neg x g
    let u : ℚ := 2 ^ g
    (r.2 = false ↔ ∃ k : Nat, x.value = k * u) ∧
    (r.2 = false → r.1 * u = x.value) ∧
    |(r.1 : ℚ) * u - x.value| < u ∧
    (rc = .chop → r.1 * u ≤ x.value) ∧
    (rc = .down → if neg then x.value ≤ r.1 * u else r.1 * u ≤ x.value) ∧
    (rc = .up → if neg then r.1 * u ≤ x.value else x.value ≤ r.1 * u) ∧
    (rc = .nearest → 2 * |(r.1 : ℚ) * u - x.value| ≤ u ∧ (2 * |(r.1 : ℚ) * u - x.value| = u → r.1 % 2 = 0))

/-- Addition of two normal numbers with every exception masked: if the exact sum is nonzero and a number of the
precision in force, in the range of normal numbers, the result is that number exactly and no flag changes; a sum that
is zero is +0, or -0 when rounding down (49_npx_instructions.md R640; 48_npx_architecture.md R555). That precision
control applies to addition, and that PC = 01 counts as 11, is the spec's decision D37 with G4 (log 37). -/
def Obligations.ExactSums : Prop :=
  ∀ (n : Npx) (u : Nat) (a b : Reg80), n.allMasked = true → classOf a = .normal → classOf b = .normal →
    (∀ v : Reg80, classOf v = .normal → realSig v % 2 ^ (64 - n.precision) = 0 →
      realValue v = realValue a + realValue b →
      (arith .add (regOperand a) (regOperand b)).runFrom n u = (some v, ⟨n, u⟩)) ∧
    (realValue a + realValue b = 0 →
      (arith .add (regOperand a) (regOperand b)).runFrom n u = (some (realZero (n.rounding == .down)), ⟨n, u⟩))

/-- Comparison of finite numbers: C3, C2 and C0 say whether ST is greater, less or equal by value, and nothing else of
the status word changes (49_npx_instructions.md R670; 48_npx_architecture.md R616). That C1 keeps its value is the
spec's decision D40 (log 39). -/
def Obligations.CompareByValue : Prop :=
  ∀ (n : Npx) (u : Nat) (a b : Reg80),
    (classOf a = .normal ∨ classOf a = .zero) → (classOf b = .normal ∨ classOf b = .zero) →
    let r := (compareReal (regOperand a) (regOperand b)).runFrom n u
    r = (some (), ⟨{ n with sw := r.2.npx.sw }, u⟩) ∧ r.2.npx.sw.word &&& 0xBAFF = n.sw.word &&& 0xBAFF ∧
    (r.2.npx.cond = if realValue a < realValue b then (false, false, n.cond.2.2.1, true)
      else if realValue a = realValue b then (true, false, n.cond.2.2.1, false)
      else (false, false, n.cond.2.2.1, false))

/-- A binary integer loaded and stored again is the same integer, and a packed decimal of 18 digits the same packed
decimal, with no exception (48_npx_architecture.md R541, R542; 49_npx_instructions.md R629 to R633). -/
def Obligations.IntegerRoundTrip : Prop :=
  ∀ (n : Npx) (u : Nat) (x : Reg80), n.empty n.top = false → n.reg n.top = x →
    (∀ bits, bits = 16 ∨ bits = 32 ∨ bits = 64 → ∀ v, v < 2 ^ bits → x = intOperand bits v →
      (intImage bits).runFrom n u = (some v, ⟨n, u⟩)) ∧
    (∀ v, v < 2 ^ 72 → bcdValid 18 v = true → ∀ neg : Bool, x = ofNatReal neg (bcdValue 18 v) →
      bcdImage.runFrom n u = (some ((if neg then 2 ^ 79 else 0) + v), ⟨n, u⟩))

/-- The register stack: a push moves ST down by one and writes and tags the new top, a pop empties it; a push onto a
register that is not empty and a read of an empty one signal the invalid operation, whose masked answer is real
indefinite; FXCH exchanges two registers and their tags (10_state.md R60 to R63; 48_npx_architecture.md R551, R552;
49_npx_instructions.md R628). -/
def Obligations.RegisterStack : Prop :=
  ∀ (n : Npx) (u : Nat) (v : Reg80),
    (n.empty (n.top - 1) = true → (pushST v).runFrom n u = (some (), ⟨n.push v, u⟩)) ∧
    (n.empty (n.top - 1) = false → n.masked .invalid = true →
      (pushST v).runFrom n u = (some (), ⟨(n.flag .invalid).push realIndefinite, u⟩)) ∧
    (n.empty (n.top - 1) = false → n.masked .invalid = false →
      (pushST v).runFrom n u = (none, ⟨n.flag .invalid, u⟩)) ∧
    ((n.push v).top = n.top - 1 ∧ (n.push v).reg (n.push v).top = v ∧ (n.push v).tag (n.push v).top = tagOf v ∧
      ∀ k, k ≠ n.top - 1 → (n.push v).reg k = n.reg k ∧ (n.push v).tag k = n.tag k) ∧
    (n.pop.top = n.top + 1 ∧ n.pop.empty n.top = true ∧
      ∀ k, n.pop.reg k = n.reg k ∧ (k ≠ n.top → n.pop.tag k = n.tag k)) ∧
    (∀ i, n.empty (n.phys i) = true → n.masked .invalid = true →
      (source i).runFrom n u = (some realIndefinite, ⟨n.flag .invalid, u⟩)) ∧
    (∀ i, n.empty n.top = false → n.empty (n.phys i) = false → ∃ m, (exchange i).runFrom n u = (some (), ⟨m, u⟩) ∧
      m.reg n.top = n.reg (n.phys i) ∧ m.reg (n.phys i) = n.reg n.top ∧
      m.tag n.top = n.tag (n.phys i) ∧ m.tag (n.phys i) = n.tag n.top ∧ m.sw = n.sw ∧
      ∀ k, k ≠ n.top → k ≠ n.phys i → m.reg k = n.reg k ∧ m.tag k = n.tag k)

/-- The images of the 80287. The environment is the control, status and tag words and the two pointers; the state is
the environment and then ST(0) to ST(7), five words each. FNSAVE's image loaded by FRSTOR into any 80287 of the same
mode gives it the registers and the environment that were saved, and FLDENV of FNSTENV's image gives it the
environment and keeps its registers: but for the opcode in Protected mode and the high bits of the pointers in Real
mode, which those formats lack, and the tags, which are recomputed from the contents (48_npx_architecture.md R591 to
R594; 49_npx_instructions.md R708 to R711). The images' layout is the spec's D38, D39, G1 and G6 (log 18, log 38), and
recomputed tags are D36 (log 36). -/
def Obligations.SaveRestore : Prop :=
  ∀ n m : Npx, n.fixES = n →
    (∀ i : BitVec 3, wordsValue ((n.saveWords.drop (7 + 5 * i.toNat)).take 5) = (n.reg (n.top + i)).toNat) ∧
    n.saveWords.take 7 = n.envWords ∧ n.saveWords.length = 47 ∧
    (n.protectedMode = true → m.protectedMode = true →
      n.envWords = [n.cw, n.sw.word, n.tw, n.ip.extractLsb' 0 16, n.ip.extractLsb' 16 16, n.op.extractLsb' 0 16,
        n.op.extractLsb' 16 16] ∧
      Npx.loadAll n.saveWords m = { n.retag with opcode := 0 } ∧
      Npx.loadEnv n.envWords m =
        { m with cw := n.cw, sw := n.sw, tw := n.tw, ip := n.ip, op := n.op, opcode := 0 }.retag) ∧
    (n.protectedMode = false → m.protectedMode = false →
      let ip := n.ip &&& 0xF000FFFF
      let op := n.op &&& 0xF000FFFF
      n.envWords = [n.cw, n.sw.word, n.tw, ip.extractLsb' 0 16, ip.extractLsb' 16 16 ||| n.opcode.setWidth 16,
        op.extractLsb' 0 16, op.extractLsb' 16 16] ∧
      Npx.loadAll n.saveWords m = { n.retag with ip := ip, op := op } ∧
      Npx.loadEnv n.envWords m =
        { m with cw := n.cw, sw := n.sw, tw := n.tw, ip := ip, op := op, opcode := n.opcode }.retag)
end

