-- ==== Sys2Proof/Laws/Bus.lean ====
section
/-! SUPPORT. The data cycles of a step account for all it does to memory and to devices: replayed, they give the same
memory and the same history. With `Closed.runInstr` this is so of every instruction. -/

namespace Sys2Proof.Machine

theorem replay_cons (s : State) (c : BusCycle) (cs : List BusCycle) : s.replay (c :: cs) = (s.replay cs).cycled c := rfl

theorem replay_append (s : State) (cs ds : List BusCycle) : s.replay (cs ++ ds) = (s.replay ds).replay cs :=
  List.foldr_append

/-- What cycles that store nothing leave. -/
theorem replay_seen (s : State) (es : List IoEvent) :
    (s.replay (seen es)).mem = s.mem ∧ (s.replay (seen es)).io = es ++ s.io := by
  induction es with
  | nil => exact ⟨rfl, rfl⟩
  | cons e es ih => exact ⟨ih.1, congrArg (e :: ·) ih.2⟩

/-- What a cycle leaves depends on memory and the history alone. -/
theorem replay_congr {s t : State} (hm : s.mem = t.mem) (hi : s.io = t.io) (cs : List BusCycle) :
    (s.replay cs).mem = (t.replay cs).mem ∧ (s.replay cs).io = (t.replay cs).io := by
  induction cs with
  | nil => exact ⟨hm, hi⟩
  | cons c cs ih => exact ⟨congrArg (c.stores.foldr _ ·) ih.1, congrArg (c.event.toList ++ ·) ih.2⟩

/-- Replayed cycles leave memory in its canonical form. -/
theorem replay_wf {s : State} (h : Memory.wf s.mem = true) (cs : List BusCycle) : Memory.wf (s.replay cs).mem = true := by
  induction cs with
  | nil => exact h
  | cons c cs ih =>
    show Memory.wf (c.stores.foldr _ _) = true
    induction c.stores with
    | nil => exact ih
    | cons b bs hb => exact Memory.write_wf _ hb b.1.isLt

/-- What the store of a byte leaves in memory. -/
theorem foldr_ramStore (s : State) (a : PhysAddr) (v : Byte) (m : Memory) :
    (s.ramStore a v).foldr (fun b m => Memory.write m b.1.toNat b.2) m =
      if s.kindAt a = .ram then Memory.write m a.toNat v else m := by
  unfold State.ramStore
  split <;> rfl

/-- A store of a byte is one cycle, and so is one of a word at an even address: devices see one event at most. -/
theorem head_byteCycle (s : State) (a : PhysAddr) (v : Byte) : (s.byteCycle a v).head?.toList = s.byteCycle a v := by
  unfold State.byteCycle
  split <;> rfl

theorem head_wordCycles (s : State) (a : PhysAddr) (v : Word) (h : ¬a.getLsbD 0 = true) :
    (s.wordCycles a v).head?.toList = s.wordCycles a v := by
  unfold State.wordCycles
  rw [if_neg h]
  split <;> rfl

/-- The cycle of a byte store does what the store does. -/
theorem replay_storeCycle8 (s : State) (a : PhysAddr) (v : Byte) :
    (s.replay [s.storeCycle8 a v]).mem = (s.setMem8 a v).mem ∧ (s.replay [s.storeCycle8 a v]).io = (s.setMem8 a v).io :=
  ⟨(foldr_ramStore s a v s.mem).trans (setMem8_mem s a v).symm, congrArg (· ++ s.io) (head_byteCycle s a v)⟩

/-- The cycles of a word store do what the store does. -/
theorem replay_storeCycles16 (s : State) (a : PhysAddr) (v : Word) :
    (s.replay (s.storeCycles16 a v)).mem = (s.setMem16 a v).mem ∧
      (s.replay (s.storeCycles16 a v)).io = (s.setMem16 a v).io := by
  have hm : (s.setMem16 a v).mem = (s.ramStore (a + 1) v.hi).foldr (fun b m => Memory.write m b.1.toNat b.2)
      ((s.ramStore a v.lo).foldr (fun b m => Memory.write m b.1.toNat b.2) s.mem) := by
    rw [foldr_ramStore, foldr_ramStore]
    rfl
  rw [hm, setMem16_io]
  unfold State.storeCycles16
  split
  · rename_i ho
    refine ⟨rfl, ?_⟩
    show (s.byteCycle (a + 1) v.hi).head?.toList ++ ((s.byteCycle a v.lo).head?.toList ++ s.io) = _
    rw [head_byteCycle, head_byteCycle, State.wordCycles, if_pos ho, List.append_assoc]
  · rename_i ho
    exact ⟨List.foldr_append, congrArg (· ++ s.io) (head_wordCycles s a v ho)⟩

/-- The cycles since `s` account for memory and the history. -/
def State.accounts (s t : State) : Prop :=
  ∃ cs, t.bus = cs ++ s.bus ∧ (s.replay cs).mem = t.mem ∧ (s.replay cs).io = t.io

theorem accounts_refl (s : State) : s.accounts s := ⟨[], rfl, rfl, rfl⟩

/-- More cycles, whose replay does what was done. -/
theorem State.accounts.step {s t u : State} (h : s.accounts t) (cs : List BusCycle) (hb : u.bus = cs ++ t.bus)
    (hm : (t.replay cs).mem = u.mem) (hi : (t.replay cs).io = u.io) : s.accounts u := by
  obtain ⟨ds, hd, hdm, hdi⟩ := h
  have := replay_congr hdm hdi cs
  exact ⟨cs ++ ds, by rw [hb, hd, List.append_assoc], by rw [replay_append, this.1, hm], by rw [replay_append, this.2, hi]⟩

/-- Events seen and nothing stored. -/
theorem State.accounts.seen {s t u : State} (h : s.accounts t) (es : List IoEvent)
    (hb : u.bus = Machine.seen es ++ t.bus) (hm : u.mem = t.mem) (hi : u.io = es ++ t.io) : s.accounts u :=
  h.step _ hb ((replay_seen t es).1.trans hm.symm) ((replay_seen t es).2.trans hi.symm)

theorem State.accounts.reads {s t : State} (h : s.accounts t) (as : List PhysAddr) : s.accounts (t.afterWords as) := by
  induction as generalizing t with
  | nil => exact h
  | cons a as ih =>
    rw [afterWords_cons]
    exact ih (h.seen _ (after16_bus t a) (after16_mem t a) (after16_io t a))

/-- Every operation leaves the cycles accounting for memory and the history. -/
theorem closed_accounts (s : State) : Closed s.accounts where
  book _ _ _ _ _ _ _ _ _ _ _ _ _ _ _ _ hs := hs
  noPrefix _ hs := hs
  noRepeat _ hs := hs
  repeats _ _ hs := hs
  read8 t a hs := hs.seen _ (after8_bus t a) (after8_mem t a) (after8_io t a)
  reads _ as hs := hs.reads as
  port _ e hs := hs.seen [e] rfl rfl rfl
  mem8 t a v hs := hs.step [_] rfl (replay_storeCycle8 t a v).1 (replay_storeCycle8 t a v).2
  mem16 t a v hs := hs.step _ rfl (replay_storeCycles16 t a v).1 (replay_storeCycles16 t a v).2
  flag _ _ _ hs := hs
  popFlags _ _ _ hs := hs
  realSeg _ r _ hs _ := by cases r <;> exact hs
  realFar _ _ _ hs _ := hs
  protSeg _ r _ hs _ := by cases r <;> exact hs
  cpl _ _ hs _ := hs
  ldtr _ _ hs := hs
  tr _ _ hs := hs
  enterTask _ _ _ _ _ hs _ := hs

end Sys2Proof.Machine
end

