-- ==== Sys2Proof/Tests/Slice0.lean ====
section
/-! SUPPORT. Tests: ill-formed terms are refused, the spec's encodings decode, the vectors of 95_test_vectors.md come out
as printed, and the hypotheses of every obligation can be met. Each is one step on a small state. -/

namespace Sys2Proof.Tests

open Sys2Proof Sys2Proof.Machine

/- What uses the decoder has no code (Decode.lean). -/
noncomputable section

/- One theorem after the other: kernel evaluations side by side need more memory than there is. -/
set_option Elab.async false

/-! ### Helpers -/

/-- Bytes placed in memory. -/
def place (a : Nat) (bs : List Byte) (s : State) : State :=
  { s with mem := (bs.zipIdx a).foldl (fun m c => Memory.write m c.2 c.1) s.mem }

/-- Words placed in memory. -/
def placeWords (a : Nat) (ws : List Word) (s : State) : State := place a (ws.flatMap wordBytes) s

def regs (l : List (Reg16 × Word)) (s : State) : State := l.foldl (fun t p => t.setReg16 p.1 p.2) s

def raised (l : List Flag) (s : State) : State := l.foldl (fun t f => t.setFlag f true) s

/-- What a step leaves with these bytes at CS:IP. -/
def ran (s : State) (bs : List Byte) : Option State :=
  match step (place (s.cs.lin s.ip).toNat bs s) with
  | .next t => some t
  | _ => none

def shows (s : State) (bs : List Byte) (f : State → Bool) : Bool :=
  match ran s bs with
  | some t => f t
  | none => false

def answers (r : Result) (f : State → Bool) : Bool :=
  match r with
  | .next t => f t
  | _ => false

/-- OF SF ZF AF PF CF. -/
def status (t : State) : List Bool := [t.flag .of, t.flag .sf, t.flag .zf, t.flag .af, t.flag .pf, t.flag .cf]

/-- The flags a row prints, 1 for set. -/
def bits (l : List Nat) : List Bool := l.map (· == 1)

/-- The word at SS:SP + k. -/
def onStack (t : State) (k : Word) : Word := t.mem16 (t.ss.lin (t.gpr.sp + k))

/-- Real Address Mode as 95_test_vectors.md has it; vector `n` of the table at 0 is 4000:0010H * n, n up to 16. -/
def rm : State :=
  placeWords 0 ((List.range 17).flatMap fun n => [BitVec.ofNat 16 (16 * n), 0x4000])
    { State.reset with
      cs := SegCache.real 0x3000 0x030000, ip := 0x0100, ds := SegCache.real 0x1000 0x010000
      es := SegCache.real 0x2000 0x020000, gpr := { State.reset.gpr with sp := 0x0100 } }

/-- Under a repeat prefix at 00FFH. -/
def under (p : RepPrefix) (s : State) : State := { s with pfx := ⟨none, some p, false, 1⟩, curIP := 0x00FF }

/-- The interrupt request of 60_exceptions.md R790 (a). -/
def requested : State :=
  { rm with
    cs := SegCache.real 0x1000 0x010000, ip := 0x0200, flags := .ofWord 0x0246, ss := SegCache.real 0x3000 0x030000
    lines := ⟨true, 0x08, false, true, none⟩ }

/-- PUSH AX at an odd SP, and a RESET after `k` of its data cycles. -/
def interrupted (k : Nat) : State :=
  place 0x030100 [0x50]
    (regs [(.sp, 0x0201), (.ax, 0x1234)] { rm with lines := { rm.lines with rising := some k } })

/-- With this control word. -/
def control (cw : Word) (s : State) : State := { s with npx := { s.npx with cw := cw } }

/-- Exception `n` was taken in Real Address Mode, saving `ip`. -/
def trapped (n : Nat) (ip : Word) (t : State) : Bool :=
  t.cs.sel == 0x4000 && t.ip == BitVec.ofNat 16 (16 * n) && onStack t 0 == ip && t.gpr.sp == 0x00FA

/-- Protected Mode as section 2.8 of 95_test_vectors.md has it: the GDT at 002000H, and gates of the IDT at 003000H to
0008H:(0100H + n), DPL 0. The stack is in entry 2. -/
def pm : State :=
  place 0x2008 [0xFF, 0xFF, 0x00, 0x10, 0x00, 0x9A, 0x00, 0x00, 0xFF, 0x1F, 0x00, 0x40, 0x00, 0x92, 0x00, 0x00,
    0xFF, 0x00, 0x00, 0x50, 0x00, 0xF2, 0x00, 0x00, 0xFF, 0x0F, 0x00, 0x60, 0x00, 0x96, 0x00, 0x00,
    0x2B, 0x00, 0x00, 0x70, 0x00, 0x81, 0x00, 0x00, 0xFF, 0xFF, 0x00, 0x80, 0x00, 0x12, 0x00, 0x00,
    0x00, 0x02, 0x08, 0x00, 0x02, 0xE4, 0x00, 0x00]
    (placeWords 0x3000 ((List.range 17).flatMap fun n => [BitVec.ofNat 16 (0x100 + n), 0x0008, 0x8700, 0x0000])
      (placeWords 0x7002 [0x0800, 0x0010]
        { State.reset with
          msw := 0xFFF1, gdtr := ⟨0x002000, 0x003F⟩, idtr := ⟨0x003000, 0x07FF⟩, ip := 0x0100
          cs := ⟨0x0008, 0x001000, 0xFFFF, 0x9B, true, false⟩, ss := ⟨0x0010, 0x004000, 0x1FFF, 0x93, true, false⟩
          ds := ⟨0x0010, 0x004000, 0x1FFF, 0x93, true, false⟩, es := ⟨0x0010, 0x004000, 0x1FFF, 0x93, true, false⟩
          tr := ⟨0x0028, 0x007000, 0x002B, true⟩, gpr := { State.reset.gpr with sp := 0x0100 } }))

/-- The same at privilege level 3, with the stack in entry 3. -/
def pm3 : State :=
  { pm with cpl := 3, cs := ⟨0x000B, 0x001000, 0xFFFF, 0xFB, true, false⟩
            ss := ⟨0x001B, 0x005000, 0x00FF, 0xF3, true, false⟩, ds := ⟨0x001B, 0x005000, 0x00FF, 0xF3, true, false⟩ }

/-- Exception `n` with error code `ec` was taken in Protected Mode, saving `ip`. -/
def faulted (n : Nat) (ec ip : Word) (t : State) : Bool :=
  t.cs.sel == 0x0008 && t.ip == BitVec.ofNat 16 (0x100 + n) && onStack t 0 == ec && onStack t 2 == ip && t.cpl == 0

/-- A numeric register from its exponent and significand words. -/
def real (e s : Nat) : Reg80 := BitVec.ofNat 80 (e * 2 ^ 64 + s)

/-- Real Address Mode with these numbers on the register stack, ST first. -/
def fp (l : List Reg80) : State := { rm with npx := l.reverse.foldl Npx.push Npx.reset }

def st (t : State) (i : BitVec 3) : Reg80 := t.npx.reg (t.npx.phys i)

/-- The exception flags P U O Z D I, as SW bits 5 to 0. -/
def excs (t : State) : Word := t.npx.sw.word &&& 0x003F

def one : Reg80 := real 0x3FFF 0x8000000000000000
def two : Reg80 := real 0x4000 0x8000000000000000
def three : Reg80 := real 0x4000 0xC000000000000000

/-! ### Well-formed terms -/

theorem test_wf_noDisp_bp : (Instr.movRwEw .ax (.mem (.noDisp .bp))).wf = false := by decide +kernel
theorem test_wf_memory_only : (Instr.leaRwM .ax (.noDisp .bp)).wf = false := by decide +kernel
theorem test_wf_esc_reserved_mem : (Instr.escReserved 0 0 (.mem (.direct 0))).wf = false := by decide +kernel
theorem test_wf_esc_reserved_reg : (Instr.escReserved 1 0 (.reg 0)).wf = false := by decide +kernel
theorem test_wf_esc_reserved_ea : (Instr.escReserved 1 1 (.mem (.noDisp .bp))).wf = false := by decide +kernel
theorem test_wf_direct : (Instr.movRwEw .ax (.mem (.direct 0))).wf = true := by decide +kernel

/-! ### Decoding: words written out from the encoding tables (30_encoding.md R180 to R204; 49_npx_instructions.md R621) -/

theorem test_decode_and_ew_dw :
    decode [0x81, 0x20, 0xFF, 0x03] = .ok (.andEwDw (.mem (.noDisp .bxSi)) 0x03FF) 4 := by decide +kernel
theorem test_decode_mov_disp8 :
    decode [0x8B, 0x46, 0x06] = .ok (.movRwEw .ax (.mem (.disp8 .bp 0x06))) 3 := by decide +kernel
theorem test_decode_shift_imm : decode [0xC1, 0xE3, 0x04] = .ok (.salEwDb (.reg .bx) 0x04) 3 := by decide +kernel
theorem test_decode_imul3 : decode [0x6B, 0xDE, 0x05] = .ok (.imulRwEwDb .bx (.reg .si) 0x05) 3 := by decide +kernel
theorem test_decode_call_far :
    decode [0x9A, 0x00, 0x00, 0x38, 0x00] = .ok (.callCd 0x0000 0x0038) 5 := by decide +kernel
theorem test_decode_jcc : decode [0x7F, 0xFE] = .ok (.jnleCb 0xFE) 2 := by decide +kernel
theorem test_decode_string : decode [0xF3] = .ok (.pfxRep) 1 := by decide +kernel
theorem test_decode_stos : decode [0xAB] = .ok (.stosw) 1 := by decide +kernel
theorem test_decode_in_imm : decode [0xE4, 0x60] = .ok (.inAlDb 0x60) 2 := by decide +kernel
theorem test_decode_bound : decode [0x62, 0x1C] = .ok (.boundRwMd .bx (.noDisp .si)) 2 := by decide +kernel
theorem test_decode_lgdt :
    decode [0x0F, 0x01, 0x16, 0x00, 0x02] = .ok (.lgdtM (.direct 0x0200)) 5 := by decide +kernel
theorem test_decode_lar : decode [0x0F, 0x02, 0xC3] = .ok (.larRwEw .ax (.reg .bx)) 3 := by decide +kernel
theorem test_decode_arpl : decode [0x63, 0xCB] = .ok (.arplEwRw (.reg .bx) .cx) 2 := by decide +kernel
theorem test_decode_faddp : decode [0xDE, 0xC1] = .ok (.faddpStiSt 1) 2 := by decide +kernel
theorem test_decode_fild : decode [0xDF, 0x06, 0x10, 0x00] = .ok (.fildM16int (.direct 0x0010)) 4 := by decide +kernel
theorem test_decode_fnsave : decode [0xDD, 0x76, 0xA2] = .ok (.fnsaveM94byte (.disp8 .bp 0xA2)) 3 := by decide +kernel
theorem test_decode_fpatan : decode [0xD9, 0xF3] = .ok (.fpatan) 2 := by decide +kernel
theorem test_table_word : decodeTableWord 16 0x0000 = some (.addEbRb (.mem (.noDisp .bxSi)) .al) := by decide +kernel

/-! ### Data movement (95_test_vectors.md 2.1) -/

/-- V1. -/
theorem test_push_sp :
    shows (rm) [0x54] (fun t => t.gpr.sp == 0x00FE && onStack t 0 == 0x0100) = true := by decide +kernel
/-- V2. -/
theorem test_push_wraps :
    shows (regs [(.sp, 0x0000), (.ax, 0xBEEF)] rm) [0x50] (fun t => t.gpr.sp == 0xFFFE && t.mem16 0x00FFFE ==
      0xBEEF) = true := by decide +kernel
/-- V3. -/
theorem test_push_shutdown :
    shows (regs [(.sp, 0x0001)] rm) [0x50] (fun t => t.run == .shutdown && t.gpr.sp == 0x0001) = true := by
      decide +kernel
/-- V4. -/
theorem test_pop_sp :
    shows (placeWords 0x00FE [0x1234] (regs [(.sp, 0x00FE)] rm)) [0x5C] (fun t => t.gpr.sp == 0x1234) = true := by
      decide +kernel
/-- V5. -/
theorem test_pop_ss :
    shows (placeWords 0x0100 [0x2000] rm) [0x17] (fun t => t.ss == SegCache.real 0x2000 0x020000 && t.gpr.sp ==
      0x0102 && t.inhibit) = true := by decide +kernel
/-- V7. -/
theorem test_mov_cs : shows (rm) [0x8E, 0xC8] (fun t => trapped 6 0x0100 t) = true := by decide +kernel
/-- V9. -/
theorem test_ea_wraps :
    shows (placeWords 0x010001 [0x55AA] (regs [(.bx, 0xFFFF), (.si, 0x0002)] rm)) [0x8B, 0x00] (fun t =>
      t.gpr.ax == 0x55AA) = true := by decide +kernel
/-- V10. -/
theorem test_word_at_end :
    shows (regs [(.bx, 0xFFFF), (.ax, 0x7777)] rm) [0x8B, 0x07] (fun t => trapped 13 0x0100 t && t.gpr.ax ==
      0x7777) = true := by decide +kernel
/-- V11. -/
theorem test_bp_uses_ss :
    shows (placeWords 0x0016 [0x0777] (regs [(.bp, 0x0010)] { rm with mem := [] })) [0x8B, 0x46, 0x06] (fun t =>
      t.gpr.ax == 0x0777) = true := by decide +kernel
/-- V13. -/
theorem test_xchg_ax :
    shows (regs [(.ax, 0x1234), (.bx, 0x5678)] rm) [0x93] (fun t => t.gpr.ax == 0x5678 && t.gpr.bx == 0x1234) =
      true := by decide +kernel
/-- V14. -/
theorem test_xlat :
    shows (place 0x0102FF [0x77] (regs [(.bx, 0x0200), (.ax, 0x00FF)] rm)) [0xD7] (fun t => t.gpr.ax == 0x0077) =
      true := by decide +kernel
/-- V15. -/
theorem test_lea_register : shows (rm) [0x8D, 0xC0] (fun t => trapped 6 0x0100 t) = true := by decide +kernel
/-- V17. -/
theorem test_sahf :
    shows (regs [(.ax, 0xFF00)] rm) [0x9E] (fun t => t.flags.word == 0x00D7) = true := by decide +kernel
/-- V18. -/
theorem test_popf_level3 :
    shows (placeWords 0x5080 [0xFFFF] (regs [(.sp, 0x0080)] (raised [.if_] pm3))) [0x9D] (fun t => t.flags.word ==
      0x4FD7) = true := by decide +kernel
/-- V19. -/
theorem test_popf_real :
    shows (placeWords 0x0100 [0xFFFF] rm) [0x9D] (fun t => t.flags.word == 0x0FD7) = true := by decide +kernel
/-- V20. -/
theorem test_ds_null :
    shows (pm) [0x8E, 0xD8] (fun t => t.ds.valid == false && t.ds.sel == 0x0000) = true := by decide +kernel
/-- V21. -/
theorem test_ss_null : shows (pm) [0x8E, 0xD0] (fun t => faulted 13 0x0000 0x0100 t) = true := by decide +kernel
/-- V22. -/
theorem test_pusha :
    shows (regs [(.ax, 1), (.cx, 2), (.dx, 3), (.bx, 4), (.bp, 6), (.si, 7), (.di, 8)] rm) [0x60] (fun t =>
      t.gpr.sp == 0x00F0 && [14, 12, 10, 8, 6, 4, 2, 0].map (onStack t) == [1, 2, 3, 4, 0x0100, 6, 7, 8]) = true :=
      by decide +kernel
/-- V23. -/
theorem test_popa :
    shows (placeWords 0x00F0 [8, 7, 6, 0x5555, 4, 3, 2, 1] (regs [(.sp, 0x00F0)] rm)) [0x61] (fun t => t.gpr == ⟨1,
      2, 3, 4, 0x0100, 6, 7, 8⟩) = true := by decide +kernel

/-! ### Arithmetic (2.2) -/

/-- A1. -/
theorem test_add_byte :
    shows (regs [(.ax, 0x00FF), (.bx, 0x0001)] rm) [0x00, 0xD8] (fun t => t.gpr.ax == 0x0000 && status t == bits
      [0, 0, 1, 1, 1, 1]) = true := by decide +kernel
/-- A2. -/
theorem test_add_word :
    shows (regs [(.ax, 0x7FFF), (.bx, 0x0001)] rm) [0x01, 0xD8] (fun t => t.gpr.ax == 0x8000 && status t == bits
      [1, 1, 0, 1, 1, 0]) = true := by decide +kernel
/-- A3. -/
theorem test_add_signs :
    shows (regs [(.ax, 0x8000)] rm) [0x01, 0xC0] (fun t => t.gpr.ax == 0x0000 && status t == bits [1, 0, 1, 0, 1,
      1]) = true := by decide +kernel
/-- A39. -/
theorem test_add_imm8 :
    shows (regs [(.ax, 0x0001)] rm) [0x83, 0xC0, 0xFF] (fun t => t.gpr.ax == 0x0000 && status t == bits [0, 0, 1,
      1, 1, 1]) = true := by decide +kernel
/-- A6. -/
theorem test_adc_byte :
    shows (raised [.cf] (regs [(.ax, 0x007F)] rm)) [0x14, 0x00] (fun t => t.gpr.ax == 0x0080 && status t == bits
      [1, 1, 0, 1, 0, 0]) = true := by decide +kernel
/-- A8. -/
theorem test_sub_byte :
    shows (regs [(.ax, 0x0080)] rm) [0x2C, 0x01] (fun t => t.gpr.ax == 0x007F && status t == bits [1, 0, 0, 1, 0,
      0]) = true := by decide +kernel
/-- A10. -/
theorem test_sbb_byte :
    shows (raised [.cf] (regs [(.ax, 0x0080)] rm)) [0x1C, 0x7F] (fun t => t.gpr.ax == 0x0000 && status t == bits
      [1, 0, 1, 1, 1, 0]) = true := by decide +kernel
/-- A11. -/
theorem test_cmp_byte :
    shows (regs [(.ax, 0x007F)] rm) [0x3C, 0xFF] (fun t => t.gpr.ax == 0x007F && status t == bits [1, 1, 0, 0, 0,
      1]) = true := by decide +kernel
/-- A12. -/
theorem test_inc_keeps_cf :
    shows (raised [.cf] (regs [(.ax, 0x007F)] rm)) [0xFE, 0xC0] (fun t => t.gpr.ax == 0x0080 && status t == bits
      [1, 1, 0, 1, 0, 1]) = true := by decide +kernel
/-- A13. -/
theorem test_dec_word :
    shows (rm) [0x48] (fun t => t.gpr.ax == 0xFFFF && status t == bits [0, 1, 0, 1, 1, 0]) = true := by decide +kernel
/-- A14. -/
theorem test_neg_min :
    shows (regs [(.ax, 0x0080)] rm) [0xF6, 0xD8] (fun t => t.gpr.ax == 0x0080 && status t == bits [1, 1, 0, 0, 0,
      1]) = true := by decide +kernel
/-- A16. -/
theorem test_mul_byte :
    shows (regs [(.ax, 0x00FF)] rm) [0xF6, 0xE0] (fun t => t.gpr.ax == 0xFE01) = true := by decide +kernel
/-- A17. -/
theorem test_mul_word :
    shows (regs [(.ax, 0xFFFF)] rm) [0xF7, 0xE0] (fun t => t.gpr.dx == 0xFFFE && t.gpr.ax == 0x0001) = true := by
      decide +kernel
/-- A18. -/
theorem test_imul_byte :
    shows (regs [(.ax, 0x00FF)] rm) [0xF6, 0xE8] (fun t => t.gpr.ax == 0x0001) = true := by decide +kernel
/-- A19. -/
theorem test_imul_word :
    shows (regs [(.ax, 0x8000), (.bx, 0xFFFF)] rm) [0xF7, 0xEB] (fun t => t.gpr.dx == 0x0000 && t.gpr.ax ==
      0x8000) = true := by decide +kernel
/-- A20. -/
theorem test_imul_imm :
    shows (regs [(.si, 0x4000)] rm) [0x6B, 0xDE, 0x05] (fun t => t.gpr.bx == 0x4000) = true := by decide +kernel
/-- A22. -/
theorem test_div_byte :
    shows (regs [(.ax, 0x00FF), (.bx, 0x00FF)] rm) [0xF6, 0xF3] (fun t => t.gpr.ax == 0x0001) = true := by
      decide +kernel
/-- A23. -/
theorem test_div_overflow :
    shows (regs [(.ax, 0xFFFF), (.bx, 0x00FF)] rm) [0xF6, 0xF3] (fun t => trapped 0 0x0100 t && t.gpr.ax ==
      0xFFFF) = true := by decide +kernel
/-- A27. -/
theorem test_idiv_overflow :
    shows (regs [(.ax, 0x8000), (.bx, 0x00FF)] rm) [0xF6, 0xFB] (fun t => trapped 0 0x0100 t) = true := by
      decide +kernel
/-- A28. -/
theorem test_idiv_min :
    shows (regs [(.ax, 0xFF80), (.bx, 0x0001)] rm) [0xF6, 0xFB] (fun t => t.gpr.ax == 0x0080) = true := by
      decide +kernel
/-- A29. -/
theorem test_idiv_signs :
    shows (regs [(.ax, 0x0007), (.bx, 0x00FE)] rm) [0xF6, 0xFB] (fun t => t.gpr.ax == 0x01FD) = true := by
      decide +kernel
/-- A30. -/
theorem test_daa : shows (regs [(.ax, 0x009A)] rm) [0x27] (fun t => t.gpr.ax == 0x0000) = true := by decide +kernel
/-- A31. -/
theorem test_das :
    shows (raised [.cf] (regs [(.ax, 0x00F0)] rm)) [0x2F] (fun t => t.gpr.ax == 0x0090) = true := by decide +kernel
/-- A32. -/
theorem test_aaa : shows (regs [(.ax, 0x000A)] rm) [0x37] (fun t => t.gpr.ax == 0x0100) = true := by decide +kernel
/-- A34. -/
theorem test_aas : shows (regs [(.ax, 0x010F)] rm) [0x3F] (fun t => t.gpr.ax == 0x0009) = true := by decide +kernel
/-- A35. -/
theorem test_aam :
    shows (regs [(.ax, 0x0063)] rm) [0xD4, 0x0A] (fun t => t.gpr.ax == 0x0909) = true := by decide +kernel
/-- A36. -/
theorem test_aad :
    shows (regs [(.ax, 0x0909)] rm) [0xD5, 0x0A] (fun t => t.gpr.ax == 0x0063) = true := by decide +kernel
/-- A37. -/
theorem test_aam_other_base : shows (rm) [0xD4, 0x10] (fun t => trapped 6 0x0100 t) = true := by decide +kernel
/-- A40. -/
theorem test_cbw : shows (regs [(.ax, 0x0080)] rm) [0x98] (fun t => t.gpr.ax == 0xFF80) = true := by decide +kernel

/-! ### Logic, shifts and rotates (2.3) -/

/-- L1. -/
theorem test_and_byte :
    shows (regs [(.ax, 0x00F0)] rm) [0x24, 0x0F] (fun t => t.gpr.ax == 0x0000) = true := by decide +kernel
/-- L2. -/
theorem test_or_word :
    shows (regs [(.ax, 0x8000)] rm) [0x0D, 0x01, 0x00] (fun t => t.gpr.ax == 0x8001) = true := by decide +kernel
/-- L5. -/
theorem test_not_word :
    shows (rm) [0xF7, 0xD0] (fun t => t.gpr.ax == 0xFFFF && t.flags.word == 0x0002) = true := by decide +kernel
/-- L6. -/
theorem test_or_imm8_word : shows (rm) [0x83, 0xC8, 0x01] (fun t => trapped 6 0x0100 t) = true := by decide +kernel
/-- L7. -/
theorem test_shl_one :
    shows (regs [(.ax, 0x0080)] rm) [0xD0, 0xE0] (fun t => t.gpr.ax == 0x0000) = true := by decide +kernel
/-- L10. -/
theorem test_shl_nine :
    shows (regs [(.ax, 0x00FF)] rm) [0xC0, 0xE0, 0x09] (fun t => t.gpr.ax == 0x0000) = true := by decide +kernel
/-- L12. -/
theorem test_shl_masked :
    shows (raised [.cf] (regs [(.ax, 0x0001), (.cx, 0x0020)] rm)) [0xD3, 0xE0] (fun t => t.gpr.ax == 0x0001) = true
      := by decide +kernel
/-- L13. -/
theorem test_shl_33 :
    shows (regs [(.ax, 0x0001), (.cx, 0x0021)] rm) [0xD3, 0xE0] (fun t => t.gpr.ax == 0x0002) = true := by
      decide +kernel
/-- L14. -/
theorem test_shr_15 :
    shows (regs [(.ax, 0x8000)] rm) [0xC1, 0xE8, 0x0F] (fun t => t.gpr.ax == 0x0001) = true := by decide +kernel
/-- L17. -/
theorem test_sar_8 :
    shows (regs [(.ax, 0x0080)] rm) [0xC0, 0xF8, 0x08] (fun t => t.gpr.ax == 0x00FF) = true := by decide +kernel
/-- L19. -/
theorem test_rol_one :
    shows (regs [(.ax, 0x8000)] rm) [0xD1, 0xC0] (fun t => t.gpr.ax == 0x0001 && t.flag .cf && t.flag .of) = true
      := by decide +kernel
/-- L22. -/
theorem test_ror_12 :
    shows (regs [(.ax, 0x0012)] rm) [0xC0, 0xC8, 0x0C] (fun t => t.gpr.ax == 0x0021) = true := by decide +kernel
/-- L24. -/
theorem test_rcl_full_turn :
    shows (raised [.cf] (regs [(.ax, 0x00A5)] rm)) [0xC0, 0xD0, 0x09] (fun t => t.gpr.ax == 0x00A5) = true := by
      decide +kernel
/-- L29. -/
theorem test_rcr_two :
    shows (regs [(.ax, 0x0081)] rm) [0xC0, 0xD8, 0x02] (fun t => t.gpr.ax == 0x00A0) = true := by decide +kernel
/-- L30. -/
theorem test_shift_slot6 : shows (rm) [0xD0, 0xF0] (fun t => trapped 6 0x0100 t) = true := by decide +kernel

/-! ### Control transfer (2.4) -/

/-- T1. -/
theorem test_je_taken : shows (raised [.zf] rm) [0x74, 0x10] (fun t => t.ip == 0x0112) = true := by decide +kernel
/-- T3. -/
theorem test_jl_taken : shows (raised [.sf] rm) [0x7C, 0xFE] (fun t => t.ip == 0x0100) = true := by decide +kernel
/-- T4. -/
theorem test_jg_taken :
    shows (raised [.sf, .of] rm) [0x7F, 0x02] (fun t => t.ip == 0x0104) = true := by decide +kernel
/-- T5. -/
theorem test_ja_not_taken : shows (raised [.zf] rm) [0x77, 0x02] (fun t => t.ip == 0x0102) = true := by decide +kernel
/-- T7. -/
theorem test_loop_wraps :
    shows (rm) [0xE2, 0xFE] (fun t => t.gpr.cx == 0xFFFF && t.ip == 0x0100) = true := by decide +kernel
/-- T9. -/
theorem test_loopne :
    shows (regs [(.cx, 0x0002)] rm) [0xE0, 0xFE] (fun t => t.gpr.cx == 0x0001 && t.ip == 0x0100) = true := by
      decide +kernel
/-- T10. -/
theorem test_jcxz : shows (rm) [0xE3, 0x05] (fun t => t.ip == 0x0107) = true := by decide +kernel
/-- T11. -/
theorem test_jmp_wraps :
    shows ({ rm with ip := 0xFFFE }) [0xEB, 0x10] (fun t => t.ip == 0x0010) = true := by decide +kernel
/-- T12. -/
theorem test_jmp_limit :
    shows ({ pm with cs := { pm.cs with limit := 0x0FFF } }) [0xE9, 0x00, 0x10] (fun t => faulted 13 0x0000 0x0100
      t) = true := by decide +kernel
/-- T13. -/
theorem test_call_bx :
    shows (regs [(.bx, 0x3000)] rm) [0xFF, 0xD3] (fun t => t.ip == 0x3000 && t.gpr.sp == 0x00FE && onStack t 0 ==
      0x0102) = true := by decide +kernel
/-- T15. -/
theorem test_retf_imm :
    shows (placeWords 0x00FC [0x0205, 0x1000] (regs [(.sp, 0x00FC)] rm)) [0xCA, 0x04, 0x00] (fun t => t.ip ==
      0x0205 && t.cs == SegCache.real 0x1000 0x010000 && t.gpr.sp == 0x0104) = true := by decide +kernel
/-- T17. -/
theorem test_int3 :
    shows (raised [.if_] rm) [0xCC] (fun t => trapped 3 0x0101 t && onStack t 2 == 0x3000 && onStack t 4 ==
      0x0202 && !t.flag .if_) = true := by decide +kernel
/-- T18. -/
theorem test_into_not_taken :
    shows (rm) [0xCE] (fun t => t.ip == 0x0101 && t.gpr.sp == 0x0100) = true := by decide +kernel
/-- T19, at vector 13: 8 * 13 + 2. -/
theorem test_int_level3 :
    shows (regs [(.sp, 0x0080)] pm3) [0xCD, 0x0D] (fun t => faulted 13 0x006A 0x0100 t && onStack t 10 == 0x001B) =
      true := by decide +kernel
/-- P25. -/
theorem test_call_gate :
    shows (placeWords 0x5080 [0x1111, 0x2222] (regs [(.sp, 0x0080)] pm3)) [0x9A, 0x00, 0x00, 0x38, 0x00] (fun t =>
      t.cpl == 0 && t.cs.sel == 0x0008 && t.ip == 0x0200 && t.ss.sel == 0x0010 && t.gpr.sp == 0x07F4 && [0, 2, 4,
      6, 8, 10].map (onStack t) == [0x0105, 0x000B, 0x1111, 0x2222, 0x0080, 0x001B]) = true := by decide +kernel

/-! ### Strings (2.5) -/

/-- G1, after its prefix. -/
theorem test_rep_zero :
    shows (under .rep rm) [0xA4] (fun t => t.ip == 0x0101 && t.gpr == rm.gpr) = true := by decide +kernel
/-- G2, its first iteration. -/
theorem test_rep_movsb :
    shows (raised [.df] (place 0x010011 [0xAA] (regs [(.cx, 2), (.si, 0x0011), (.di, 0x0021)] (under .rep rm))))
      [0xA4] (fun t => t.mem8 0x020021 == 0xAA && t.gpr.si == 0x0010 && t.gpr.di == 0x0020 && t.gpr.cx == 1 &&
      t.ip == 0x00FF) = true := by decide +kernel
/-- G4. -/
theorem test_stosw_at_end :
    shows (regs [(.di, 0xFFFF)] rm) [0xAB] (fun t => trapped 13 0x0100 t && t.gpr.di == 0xFFFF) = true := by
      decide +kernel
/-- G5, its third iteration. -/
theorem test_repe_cmpsb :
    shows (place 0x010000 [0x43] (place 0x020000 [0x58] (regs [(.cx, 3)] (under .rep rm)))) [0xA6] (fun t =>
      t.gpr.cx == 2 && !t.flag .zf && t.flag .cf && t.ip == 0x0101) = true := by decide +kernel
/-- G6. -/
theorem test_repne_scasb :
    shows (place 0x020000 [0x42] (regs [(.cx, 1), (.ax, 0x0041)] (under .repne rm))) [0xAE] (fun t => t.gpr.cx ==
      0 && !t.flag .zf && t.ip == 0x0101) = true := by decide +kernel
/-- G9. -/
theorem test_movsb_override :
    shows (place 0x030010 [0x99] (regs [(.si, 0x0010)] { rm with pfx := ⟨some .cs, none, false, 1⟩ })) [0xA4] (fun
      t => t.mem8 0x020000 == 0x99) = true := by decide +kernel
/-- G10. -/
theorem test_insb_privilege :
    shows (regs [(.sp, 0x0080)] pm3) [0x6C] (fun t => faulted 13 0x0000 0x0100 t) = true := by decide +kernel

/-! ### Flags, I/O, miscellaneous (2.6) -/

/-- M1. -/
theorem test_std : shows (rm) [0xFD] (fun t => t.flags.word == 0x0402) = true := by decide +kernel
/-- M2. -/
theorem test_cli_level3 :
    shows (raised [.if_] { pm3 with flags := .ofWord 0x3002 }) [0xFA] (fun t => !t.flag .if_) = true := by
      decide +kernel
/-- M3. -/
theorem test_sti_privilege :
    shows ({ pm with cpl := 1, tr := { pm.tr with valid := true }, cs := { pm.cs with sel := 0x0009 } }) [0xFB]
      (fun t => !t.flag .if_) = true := by decide +kernel
/-- M4. -/
theorem test_out_word :
    shows (regs [(.dx, 0x0300), (.ax, 0xBEEF)] rm) [0xEF] (fun t => t.io == [.write 0x0300 true 0xBEEF]) = true :=
      by decide +kernel
/-- M6. -/
theorem test_hlt : shows (rm) [0xF4] (fun t => t.run == .halted && t.ip == 0x0101) = true := by decide +kernel
/-- M8. -/
theorem test_wait_nm :
    shows ({ rm with msw := 0xFFFA }) [0x9B] (fun t => trapped 7 0x0100 t) = true := by decide +kernel
/-- M10. -/
theorem test_wait_mf :
    shows ({ rm with npx := Npx.flag { Npx.reset with cw := 0x037E } .invalid }) [0x9B] (fun t => trapped 16 0x0100
      t) = true := by decide +kernel
/-- X2. -/
theorem test_ten_prefixes :
    shows ({ rm with pfx := ⟨none, none, true, 10⟩, curIP := 0x0100 }) [0x90] (fun t => trapped 6 0x0100 t) = true
      := by decide +kernel

/-! ### ENTER, LEAVE, BOUND (2.7) -/

/-- E2. -/
theorem test_enter_level1 :
    shows (regs [(.bp, 0x0200)] rm) [0xC8, 0x08, 0x00, 0x01] (fun t => onStack t 10 == 0x0200 && onStack t 8 ==
      0x00FE && t.gpr.bp == 0x00FE && t.gpr.sp == 0x00F4) = true := by decide +kernel
/-- E3. -/
theorem test_enter_level2 :
    shows (placeWords 0x01FE [0x0AAA] (regs [(.bp, 0x0200)] rm)) [0xC8, 0x00, 0x00, 0x02] (fun t => [4, 2, 0].map
      (onStack t) == [0x0200, 0x0AAA, 0x00FE] && t.gpr.bp == 0x00FE && t.gpr.sp == 0x00FA) = true := by decide +kernel
/-- E5; the stack has no room for the exceptions either, and nothing is written. -/
theorem test_enter_limit :
    shows (regs [(.sp, 0x0004)] { pm with ss := { pm.ss with limit := 0x00FF } }) [0xC8, 0x10, 0x00, 0x00] (fun
      t => t.run == .shutdown && t.mem == (place 0x1100 [0xC8, 0x10, 0x00, 0x00] pm).mem) = true := by decide +kernel
/-- E6. -/
theorem test_leave :
    shows (placeWords 0x00FE [0x0200] (regs [(.sp, 0x00F4), (.bp, 0x00FE)] rm)) [0xC9] (fun t => t.gpr.sp ==
      0x0100 && t.gpr.bp == 0x0200) = true := by decide +kernel
/-- E7. -/
theorem test_bound_passes :
    shows (placeWords 0x010000 [0x0000, 0x0009] (regs [(.bx, 0x0005)] rm)) [0x62, 0x1C] (fun t => t.ip == 0x0102) =
      true := by decide +kernel
/-- E8. -/
theorem test_bound_traps :
    shows (placeWords 0x010000 [0x0000, 0x0009] (regs [(.bx, 0x000A)] rm)) [0x62, 0x1C] (fun t => trapped 5 0x0100
      t) = true := by decide +kernel

/-! ### System control and protection (2.8) -/

/-- P1. -/
theorem test_load_ds :
    shows (regs [(.ax, 0x0010)] pm) [0x8E, 0xD8] (fun t => t.ds == ⟨0x0010, 0x004000, 0x1FFF, 0x93, true, false⟩ &&
      t.mem8 0x002015 == 0x93) = true := by decide +kernel
/-- P2. -/
theorem test_load_ds_limit :
    shows (regs [(.ax, 0x0040)] pm) [0x8E, 0xD8] (fun t => faulted 13 0x0040 0x0100 t) = true := by decide +kernel
/-- P3. -/
theorem test_load_ds_absent :
    shows (regs [(.ax, 0x0030)] pm) [0x8E, 0xD8] (fun t => faulted 11 0x0030 0x0100 t) = true := by decide +kernel
/-- P4. -/
theorem test_load_ss_absent :
    shows (regs [(.ax, 0x0030)] pm) [0x8E, 0xD0] (fun t => faulted 12 0x0030 0x0100 t) = true := by decide +kernel
/-- P5. -/
theorem test_load_ds_level3 :
    shows (regs [(.ax, 0x0013), (.sp, 0x0080)] pm3) [0x8E, 0xD8] (fun t => faulted 13 0x0010 0x0100 t) = true := by
      decide +kernel
/-- P6. -/
theorem test_load_ds_rpl3 :
    shows (regs [(.ax, 0x001B)] pm3) [0x8E, 0xD8] (fun t => t.ds.base == 0x005000 && t.ds.limit == 0x00FF && t.mem8
      0x00201D == 0xF3) = true := by decide +kernel
/-- P7. -/
theorem test_read_limit :
    shows (regs [(.sp, 0x0080)] pm3) [0xA0, 0x00, 0x01] (fun t => faulted 13 0x0000 0x0100 t) = true := by
      decide +kernel
/-- P9. -/
theorem test_expand_down :
    shows (placeWords 0x007000 [0xABCD] { pm with ds := ⟨0x0020, 0x006000, 0x0FFF, 0x97, true, false⟩ }) [0xA1,
      0x00, 0x10] (fun t => t.gpr.ax == 0xABCD) = true := by decide +kernel
/-- P11. -/
theorem test_load_ss_code :
    shows (regs [(.ax, 0x0008)] pm) [0x8E, 0xD0] (fun t => faulted 13 0x0008 0x0100 t) = true := by decide +kernel
/-- P12. -/
theorem test_ltr :
    shows (regs [(.ax, 0x0028)] pm) [0x0F, 0x00, 0xD8] (fun t => t.tr == ⟨0x0028, 0x007000, 0x002B, true⟩ && t.mem8
      0x00202D == 0x83) = true := by decide +kernel
/-- P14. -/
theorem test_ltr_real : shows (rm) [0x0F, 0x00, 0xD8] (fun t => trapped 6 0x0100 t) = true := by decide +kernel
/-- P17. -/
theorem test_smsw : shows (pm3) [0x0F, 0x01, 0xE0] (fun t => t.gpr.ax == 0xFFF1) = true := by decide +kernel
/-- P18. -/
theorem test_clts_level3 :
    shows (regs [(.sp, 0x0080)] pm3) [0x0F, 0x06] (fun t => faulted 13 0x0000 0x0100 t) = true := by decide +kernel
/-- P19. -/
theorem test_lar_denied :
    shows (regs [(.bx, 0x0010)] pm3) [0x0F, 0x02, 0xC3] (fun t => !t.flag .zf && t.gpr.ax == 0x0000) = true := by
      decide +kernel
/-- P20. -/
theorem test_lsl :
    shows (regs [(.bx, 0x001B)] pm3) [0x0F, 0x03, 0xC3] (fun t => t.gpr.ax == 0x00FF && t.flag .zf) = true := by
      decide +kernel
/-- P21. -/
theorem test_lar_gate :
    shows (regs [(.bx, 0x003B)] pm3) [0x0F, 0x02, 0xC3] (fun t => t.gpr.ax == 0xE400 && t.flag .zf) = true := by
      decide +kernel
/-- P22. -/
theorem test_verw :
    shows (regs [(.ax, 0x001B)] pm3) [0x0F, 0x00, 0xE8] (fun t => t.flag .zf) = true := by decide +kernel
/-- P24. -/
theorem test_arpl :
    shows (regs [(.bx, 0x0008), (.cx, 0x001B)] pm) [0x63, 0xCB] (fun t => t.gpr.bx == 0x000B && t.flag .zf) = true
      := by decide +kernel
/-- 3.3. -/
theorem test_lgdt :
    shows (place 0x010200 [0x17, 0x00, 0x00, 0x20, 0x00, 0x00] rm) [0x0F, 0x01, 0x16, 0x00, 0x02] (fun t =>
      t.gdtr == ⟨0x002000, 0x0017⟩) = true := by decide +kernel
/-- 3.3. -/
theorem test_lmsw :
    shows (regs [(.ax, 0x0001)] rm) [0x0F, 0x01, 0xF0] (fun t => t.msw == 0xFFF1 && t.cpl == 0) = true := by
      decide +kernel
/-- 3.3. -/
theorem test_jmp_far_protected :
    shows (pm) [0xEA, 0x18, 0x00, 0x08, 0x00] (fun t => t.cs == ⟨0x0008, 0x001000, 0xFFFF, 0x9B, true, false⟩ &&
      t.ip == 0x0018 && t.mem8 0x00200D == 0x9B) = true := by decide +kernel

/-! ### The 80287 (2.9) -/

/-- N1. -/
theorem test_fld1 :
    shows (rm) [0xD9, 0xE8] (fun t => t.npx.top == 7 && st t 0 == one && t.npx.tw == 0x3FFF) = true := by
      decide +kernel
/-- N3. -/
theorem test_fld_m32 :
    shows (place 0x010100 [0x00, 0x00, 0x20, 0x40] rm) [0xD9, 0x06, 0x00, 0x01] (fun t => st t 0 == real 0x4000
      0xA000000000000000) = true := by decide +kernel
/-- N6. -/
theorem test_fild_m16 :
    shows (place 0x010100 [0xFF, 0x7F] rm) [0xDF, 0x06, 0x00, 0x01] (fun t => st t 0 == real 0x400D
      0xFFFE000000000000) = true := by decide +kernel
/-- N7. -/
theorem test_fbld :
    shows (place 0x010100 [0x45, 0x23, 0x01] rm) [0xDF, 0x26, 0x00, 0x01] (fun t => st t 0 == real 0x400C
      0xC0E4000000000000) = true := by decide +kernel
/-- N8; P as R633 has it (log 51). -/
theorem test_fbstp :
    shows (fp [real 0x400C 0xC0E6000000000000]) [0xDF, 0x36, 0x00, 0x01] (fun t => t.mem16 0x010100 == 0x2346 &&
      t.mem8 0x010102 == 0x01 && t.npx.top == 0) = true := by decide +kernel
/-- N9. -/
theorem test_faddp :
    shows (fp [one, one]) [0xDE, 0xC1] (fun t => st t 0 == two && excs t == 0) = true := by decide +kernel
/-- N10. -/
theorem test_fdivp :
    shows (fp [three, one]) [0xDE, 0xF9] (fun t => st t 0 == real 0x3FFD 0xAAAAAAAAAAAAAAAB && excs t == 0x20) =
      true := by decide +kernel
/-- N11. -/
theorem test_fdivp_chop :
    shows (control 0x0F7F (fp [three, one])) [0xDE, 0xF9] (fun t => st t 0 == real 0x3FFD 0xAAAAAAAAAAAAAAAA) =
      true := by decide +kernel
/-- N12. -/
theorem test_fdivp_24_bits :
    shows (control 0x007F (fp [three, one])) [0xDE, 0xF9] (fun t => st t 0 == real 0x3FFD 0xAAAAAB0000000000) =
      true := by decide +kernel
/-- N14. -/
theorem test_fdivp_by_zero :
    shows (fp [0, one]) [0xDE, 0xF9] (fun t => st t 0 == real 0x7FFF 0x8000000000000000 && excs t == 0x04) = true
      := by decide +kernel
/-- N15. -/
theorem test_fdivp_zero_zero :
    shows (fp [0, 0]) [0xDE, 0xF9] (fun t => st t 0 == real 0xFFFF 0xC000000000000000 && excs t == 0x01) = true :=
      by decide +kernel
/-- N16. -/
theorem test_fsqrt :
    shows (fp [real 0x4001 0x8000000000000000]) [0xD9, 0xFA] (fun t => st t 0 == two && excs t == 0) = true := by
      decide +kernel
/-- N18. -/
theorem test_fsqrt_negative :
    shows (fp [real 0xBFFF 0x8000000000000000]) [0xD9, 0xFA] (fun t => st t 0 == real 0xFFFF 0xC000000000000000 &&
      excs t == 0x01 && t.npx.sw.word &&& 0x80 == 0) = true := by decide +kernel
/-- N19. -/
theorem test_fsqrt_unmasked :
    shows (control 0x037E (fp [real 0xBFFF 0x8000000000000000])) [0xD9, 0xFA] (fun t => st t 0 == real 0xBFFF
      0x8000000000000000 && t.npx.sw.word &&& 0x80FF == 0x8081) = true := by decide +kernel
/-- N20. -/
theorem test_fscale :
    shows (fp [one, three]) [0xD9, 0xFD] (fun t => st t 0 == real 0x4002 0x8000000000000000) = true := by
      decide +kernel
/-- N21. -/
theorem test_fprem :
    shows (fp [real 0x4001 0xA000000000000000, three]) [0xD9, 0xF8] (fun t => st t 0 == two && t.npx.cond ==
      (false, false, true, false)) = true := by decide +kernel
/-- N22. -/
theorem test_fxtract :
    shows (fp [real 0x4002 0x8000000000000000]) [0xD9, 0xF4] (fun t => st t 0 == one && st t 1 == three) = true :=
      by decide +kernel
/-- N23. -/
theorem test_frndint_up :
    shows (control 0x0B7F (fp [real 0x4000 0xA000000000000000])) [0xD9, 0xFC] (fun t => st t 0 == three && excs
      t == 0x20) = true := by decide +kernel
/-- N24. -/
theorem test_fist_even :
    shows (fp [real 0xC000 0xA000000000000000]) [0xDF, 0x16, 0x00, 0x01] (fun t => t.mem16 0x010100 == 0xFFFE &&
      excs t == 0x20) = true := by decide +kernel
/-- N25. -/
theorem test_fist_indefinite :
    shows (fp [real 0x400E 0x8000000000000000]) [0xDF, 0x16, 0x00, 0x01] (fun t => t.mem16 0x010100 == 0x8000 &&
      excs t == 0x01) = true := by decide +kernel
/-- N26. -/
theorem test_fst_m32 :
    shows (fp [real 0x3FFD 0xAAAAAAAAAAAAAAAB]) [0xD9, 0x16, 0x00, 0x01] (fun t => t.mem16 0x010100 == 0xAAAB &&
      t.mem16 0x010102 == 0x3EAA && excs t == 0x20) = true := by decide +kernel
/-- 48_npx_architecture.md R579, the number of Table 1-7. -/
theorem test_fst_denormal :
    shows (fp [real 0x3F7E 0xAE00000000000000]) [0xD9, 0x16, 0x00, 0x01] (fun t => t.mem16 0x010100 == 0xC000 &&
      t.mem16 0x010102 == 0x0015 && excs t == 0x10) = true := by decide +kernel
/-- N27. -/
theorem test_fabs :
    shows (fp [real 0xC000 0x8000000000000000]) [0xD9, 0xE1] (fun t => st t 0 == two) = true := by decide +kernel
/-- N28. -/
theorem test_ftst_zero :
    shows (fp [real 0x8000 0]) [0xD9, 0xE4] (fun t => t.npx.cond.1 && !t.npx.cond.2.1 && !t.npx.cond.2.2.2) = true
      := by decide +kernel
/-- 1.4. -/
theorem test_fcom_unordered :
    shows (fp [one, real 0x7FFF 0xC000000000000000]) [0xD8, 0xD1] (fun t => t.npx.cond.1 && t.npx.cond.2.1 &&
      t.npx.cond.2.2.2 && excs t == 0x01) = true := by decide +kernel
/-- N30. -/
theorem test_fld_full :
    shows (fp (List.replicate 8 one)) [0xD9, 0xE8] (fun t => t.npx.top == 7 && st t 0 == real 0xFFFF
      0xC000000000000000 && excs t == 0x01) = true := by decide +kernel
/-- N31. -/
theorem test_fadd_empty :
    shows (fp [one]) [0xD8, 0xC1] (fun t => st t 0 == real 0xFFFF 0xC000000000000000 && excs t == 0x01) = true :=
      by decide +kernel
/-- N33. -/
theorem test_ffree :
    shows (fp [one]) [0xDD, 0xC0] (fun t => t.npx.empty t.npx.top && t.npx.top == 7 && st t 0 == one) = true := by
      decide +kernel
/-- N34. -/
theorem test_fnstcw :
    shows (rm) [0xD9, 0x3E, 0x00, 0x01] (fun t => t.mem16 0x010100 == 0x037F) = true := by decide +kernel
/-- N35. -/
theorem test_fldcw_unmasks :
    shows (place 0x010100 [0x7E, 0x03] { rm with npx := Npx.flag Npx.reset .invalid }) [0xD9, 0x2E, 0x00, 0x01]
      (fun t => t.npx.sw.word &&& 0x8080 == 0x8080) = true := by decide +kernel
/-- N36. -/
theorem test_fnclex :
    shows ({ rm with npx := { Npx.reset with sw := .ofWord 0xB8C1, cw := 0x037E } }) [0xDB, 0xE2] (fun t =>
      t.npx.sw.word == 0x3800) = true := by decide +kernel
/-- N38. -/
theorem test_esc_em :
    shows ({ rm with msw := 0xFFF4 }) [0xD9, 0xE8] (fun t => trapped 7 0x0100 t && t.npx == Npx.reset) = true := by
      decide +kernel
/-- N40. -/
theorem test_esc_overrun :
    shows ({ pm with ds := { pm.ds with limit := 0xFFFF } }) [0xD9, 0x06, 0xFE, 0xFF] (fun t => t.ip == 0x0109 &&
      onStack t 0 == 0x0104) = true := by decide +kernel
/-- N41. -/
theorem test_esc_limit :
    shows (pm) [0xD9, 0x06, 0x00, 0x30] (fun t => faulted 13 0x0000 0x0100 t && t.npx == Npx.reset) = true := by
      decide +kernel
/-- N42. -/
theorem test_fldpi :
    shows (rm) [0xD9, 0xEB] (fun t => st t 0 == real 0x4000 0xC90FDAA22168C235) = true := by decide +kernel

/-! ### Exceptions, interrupts and reset (5; 60_exceptions.md R790) -/

/-- an undefined AF leaves ZF to be tested. -/
theorem test_undefined_flag :
    shows (rm) [0x31, 0xC0, 0x74, 0x10] (fun t => answers (step t) (fun u => u.ip == 0x0114)) = true := by
      decide +kernel
/-- an undefined condition code leaves ES 0. -/
theorem test_undefined_condition :
    shows (rm) [0xDB, 0xE3, 0xD9, 0xE8] (fun t => answers (step t) (fun u => st u 0 == one)) = true := by
      decide +kernel
/-- X1. -/
theorem test_reset_fetch : State.reset.cs.lin State.reset.ip = 0xFFFFF0 := by decide +kernel
/-- R790 (a). -/
theorem test_intr_real :
    answers (step (placeWords 0x0020 [0x0100, 0x2000] requested)) (fun t => [0, 2, 4].map (onStack t) == [0x0200,
      0x1000, 0x0246] && t.gpr.sp == 0x00FA && t.flags.word == 0x0046 && t.cs == SegCache.real 0x2000 0x020000 &&
      t.ip == 0x0100) = true := by decide +kernel
/-- R790 (b). -/
theorem test_int_shutdown :
    shows ({ rm with idtr := ⟨0x000000, 0x001F⟩ }) [0xCD, 0x21] (fun t => t.run == .shutdown) = true := by
      decide +kernel
/-- R790 (b). -/
theorem test_int_vector8 :
    shows ({ rm with idtr := ⟨0x000000, 0x0023⟩ }) [0xCD, 0x21] (fun t => trapped 8 0x0100 t) = true := by
      decide +kernel
/-- X13. -/
theorem test_shutdown_nmi :
    answers (step { rm with run := .shutdown, nmiPending := true }) (fun t => trapped 2 0x0100 t && t.run ==
      .running && t.nmiMask) = true := by decide +kernel
/-- X8. -/
theorem test_single_step :
    shows (raised [.tf] rm) [0x90] (fun t => t.stepPending && t.ip == 0x0101) = true := by decide +kernel
/-- X10. -/
theorem test_sti_shadow : shows (rm) [0xFB] (fun t => t.flag .if_ && t.stiShadow) = true := by decide +kernel

/-- 20_memory.md R169, 93_implementation_defined.md U13: a wait for READY, ended by RESET. -/
theorem test_ready_waits :
    answers (step { rm with lines := ⟨false, 0x00, false, false, none⟩ }) (fun t => t == { rm with
      lines := ⟨false, 0x00, false, false, none⟩ }) = true := by decide +kernel
theorem test_reset_over_ready :
    answers (step { rm with lines := ⟨false, 0x00, true, false, none⟩ }) (fun t => t.ip == 0xFFF0 && t.cs.sel == 0xF000) =
      true := by decide +kernel
/-- R734: after a boundary that delivered, the handler's first instruction comes before the next boundary. -/
theorem test_boundary_once :
    answers (step (place 0x010200 [0x90] { requested with boundaryDone := true })) (fun t => t.ip == 0x0201) = true := by
      decide +kernel
/-- R757: the NMI that leaves shutdown saves the address of the instruction that was given up. -/
theorem test_shutdown_ip :
    shows { rm with idtr := ⟨0x000000, 0x001F⟩ } [0xCD, 0x21] (fun t => t.run == .shutdown && t.ip == 0x0100) = true := by
      decide +kernel
/-- 44_string.md R435: REP STOSB over its own bytes goes on with STOSB. -/
theorem test_rep_own_code :
    shows (regs [(.cx, 3), (.di, 0x0101)] { rm with es := rm.cs }) [0xF3, 0xAA] (fun t =>
      answers (step t) fun u => u.mem8 0x030101 == 0x00 && answers (step u) fun v =>
        v.gpr.cx == 1 && v.gpr.di == 0x0103) = true := by decide +kernel
/-- 45_flag_io_misc.md R461. -/
theorem test_out_odd_port :
    shows (regs [(.dx, 0x0301), (.ax, 0x1234)] rm) [0xEF] (fun t =>
      t.io == [.write 0x0302 false 0x0012, .write 0x0301 false 0x0034]) = true := by decide +kernel
/-- 47_system_control.md R505, D32: an LDT's descriptor is shown whatever its DPL. -/
theorem test_lar_ldt :
    shows (place 0x2030 [0x0F, 0x00, 0x00, 0x90, 0x00, 0x82, 0x00, 0x00] (regs [(.bx, 0x0033)] pm3))
      [0x0F, 0x02, 0xC3] (fun t => t.flag .zf && t.gpr.ax == 0x8200) = true := by decide +kernel
/-- 00_scope.md R6: ROM keeps its contents. -/
theorem test_rom_store :
    shows (place 0x010000 [0x55] { rm with memMap := [⟨0x010000, 0x01FFFF, .rom⟩] }) [0xC6, 0x06, 0x00, 0x00, 0xAA]
      (fun t => t.mem8 0x010000 == 0x55) = true := by decide +kernel
/-- 20_memory.md R88: CMPSB of one byte of a device with itself is two reads of it. -/
theorem test_device_reads :
    shows (regs [(.si, 0x0010), (.di, 0x0010)] { rm with es := rm.ds, memMap := [⟨0x010010, 0x01001F, .device⟩] })
      [0xA6] (fun t => t.io == [.memRead 0x010010 false, .memRead 0x010010 false]) = true := by decide +kernel
/-- 20_memory.md R85, R88: NOT of a word of a device at an odd address is two byte reads, and then two byte writes. -/
theorem test_device_not :
    shows { rm with memMap := [⟨0x010010, 0x01001F, .device⟩] } [0xF7, 0x16, 0x11, 0x00] (fun t =>
      t.io.map (fun e => match e with
        | .memRead a wide => some (a, wide, false)
        | .memWrite a wide _ => some (a, wide, true)
        | _ => none) ==
        [some (0x010012, false, true), some (0x010011, false, true), some (0x010012, false, false),
          some (0x010011, false, false)]) = true := by decide +kernel

/-- 44_string.md R422: a destination that faults leaves the source device unread; ES:[DI] is the word at FFFFH. -/
theorem test_movs_checks_first :
    shows (regs [(.si, 0x0010), (.di, 0xFFFF)] { rm with memMap := [⟨0x010010, 0x01001F, .device⟩] }) [0xA5]
      (fun t => t.io == [] && trapped 13 0x0100 t) = true := by decide +kernel
/-- 70_reset_and_hazards.md R820: a RESET inside PUSH AX, after one byte cycle of the store at an odd address. -/
theorem test_reset_inside :
    answers (step (interrupted 1)) (fun t =>
      t.mem8 0x0001FF == 0x34 && t.mem8 0x000200 == (interrupted 1).mem8 0x000200 &&
      t.ip == 0xFFF0 && t.lines.reset && t.lines.rising == none) = true := by decide +kernel

/-! ### The hypotheses of the obligations can be met -/

/-- What `StepRunsDecodedInstruction` asks of the bytes at CS:IP. -/
def fetchable (s : State) (i : Instr) : Bool :=
  i.wf && s.lines.ready && !s.lines.reset && s.lines.rising == none && s.run == .running && s.stale == [] && !s.ipPast &&
    decide (s.ip.toNat + (encode i).length ≤ s.cs.limit.toNat + 1) &&
    decide (s.pfx.count + (encode i).length ≤ maxLength) &&
    (List.range (encode i).length).all fun k =>
      { s with clock := s.clock + 1, bus := [] }.mem8 (s.cs.lin (s.ip + BitVec.ofNat 16 k)) == (encode i).getD k 0

/-- A quotient that DIV and IDIV accept. -/
def fits8 (n : Word) (v : Byte) : Bool := v.toNat != 0 && decide (n.toNat / v.toNat < 2 ^ 8)
def fits16 (hi lo v : Word) : Bool := v.toNat != 0 && decide ((hi.toNat * 2 ^ 16 + lo.toNat) / v.toNat < 2 ^ 16)
def fitsS8 (n : Word) (v : Byte) : Bool :=
  v.toInt != 0 && decide (-2 ^ 7 ≤ n.toInt.tdiv v.toInt) && decide (n.toInt.tdiv v.toInt < 2 ^ 7)
def fitsS16 (hi lo v : Word) : Bool :=
  v.toInt != 0 && decide (-2 ^ 15 ≤ (hi.toInt * 2 ^ 16 + lo.toNat).tdiv v.toInt) &&
    decide ((hi.toInt * 2 ^ 16 + lo.toNat).tdiv v.toInt < 2 ^ 15)

/-- AX selects the entry that is not present. -/
def absent : State := regs [(.ax, 0x0030)] pm

/-- A code segment that ends at IP. -/
def shortCode : State := { pm with cs := { pm.cs with limit := 0x0100 } }

/-- A far pointer to the code segment at DS:0000H, and one with FLAGS on the stack. -/
def farCode : State := placeWords 0x4100 [0x0018, 0x0008, 0x0002] (placeWords 0x4000 [0x0018, 0x0008] pm)

/-- An interrupt gate for vector 13. -/
def intGate : State := placeWords 0x3068 [0x010D, 0x0008, 0x8600, 0x0000] pm

/-- Selectors of a TSS and of an LDT. -/
def tables : State :=
  place 0x2030 [0x0F, 0x00, 0x00, 0x90, 0x00, 0x82, 0x00, 0x00] (regs [(.ax, 0x0028), (.bx, 0x0030)] pm)

/-- Whether the double fault inside a fault of vector 13 is delivered. -/
def nested (s : State) : Option Bool :=
  match (deliverProt 13 .fault (some 0)).run s with
  | .ok _ _ => none
  | .error _ u =>
    match (deliverProt 8 .fault (some 0)).run u with
    | .ok _ _ => some true
    | .error _ _ => some false

/-- A repeated string instruction between two iterations. -/
def held (i : Instr) (s : State) : State :=
  { s with curIP := s.ip, repeating := some ⟨i, ⟨none, some .rep, false, 1⟩, s.ip + 2, false⟩ }

/-- READY is inactive. -/
def waiting (s : State) : State := { s with lines := { s.lines with ready := false } }

/-- A map with a ROM and a device in DS. -/
def mapped : State := { rm with memMap := [⟨0x010000, 0x01000F, .rom⟩, ⟨0x010010, 0x01001F, .device⟩] }

/-- Both operands of a string comparison at one byte of a device. -/
def onDevice : State := regs [(.si, 0x0010), (.di, 0x0010)] { mapped with es := mapped.ds }

/-- No 80287. -/
def alone : State := { rm with npxPresent := false }

/-- A call gate of 31 parameters at 0038H, used from level 3 and from level 0, and code of level 3 at 0040H. -/
def gates : State := place 0x2038 [0x00, 0x02, 0x08, 0x00, 0x1F, 0xE4, 0x00, 0x00] (regs [(.sp, 0x0080)] pm3)
def gates0 : State := place 0x2038 [0x00, 0x02, 0x08, 0x00, 0x1F, 0xE4, 0x00, 0x00] pm

/-- A frame for IRET and one for RET to level 3 on the stack of level 0. -/
def outer : State :=
  placeWords 0x4100 [0x0020, 0x0043, 0x0202, 0x0080, 0x001B]
    (place 0x2040 [0xFF, 0xFF, 0x00, 0x30, 0x00, 0xFA, 0x00, 0x00] { pm with gdtr := ⟨0x002000, 0x0047⟩ })
def outer2 : State := placeWords 0x4104 [0x0080, 0x001B] outer

/-- The gate of a vector open to level 3. -/
def open3 (n : Nat) : State := placeWords (0x3000 + 8 * n) [0x0100, 0x0008, 0xE700, 0x0000] pm3

/-- A second TSS at 0030H, a task gate to it at 0040H and in vector 3. -/
def tasks : State :=
  placeWords 0x9000 [0x0028, 0, 0, 0, 0, 0, 0, 0x0111, 0x0202, 1, 2, 3, 4, 0x0100, 6, 7, 8, 0x0000, 0x0008, 0x0010, 0x0010, 0]
    (place 0x2030 [0x2B, 0x00, 0x00, 0x90, 0x00, 0x81, 0x00, 0x00]
      (place 0x2040 [0x00, 0x00, 0x30, 0x00, 0x00, 0x85, 0x00, 0x00]
        (placeWords 0x3018 [0x0000, 0x0030, 0x8500, 0x0000]
          (place 0x202D [0x83] { pm with gdtr := ⟨0x002000, 0x0047⟩ }))))

/-- The nested task: its back link names the second TSS, which is busy. -/
def tasks2 : State := placeWords 0x7000 [0x0030] (place 0x2035 [0x83] (raised [.nt] tasks))

/-- `State.tasksApart`, decided. -/
def apart (s : State) (n : Desc) : Bool :=
  ((List.range 44).all fun k => s.kindAt (s.oldTss k) == .ram && s.kindAt (n.newTss k) == .ram &&
    s.oldTss k != s.oldRights && s.oldTss k != n.newRights && n.newTss k != s.oldRights && n.newTss k != n.newRights &&
    (List.range 44).all fun j => s.oldTss k != n.newTss j) &&
  s.kindAt s.oldRights == .ram && s.kindAt n.newRights == .ram && s.oldRights != n.newRights

theorem test_meets_DecodeEncodeAgree :
    (Instr.addEwRw (.mem (.disp8 .bp 0x80)) .di).wf = true ∧ (Instr.escReserved 7 7 (.reg 7)).wf = true :=
      by decide +kernel
theorem test_meets_UndefinedEncodingsRefused :
    (0x04 : Byte) ∉ ([0x00, 0x01, 0x02, 0x03, 0x06] : List Byte) ∧ (0x0B : Byte) ≠ 0x0A ∧
      ([0xC8, 0xCF, 0xE8, 0xF8, 0x30, 0x38, 0x28, 0x18, 0xD8] : List Byte).map (fun m => m.extractLsb' 3 3) =
        ([1, 1, 5, 7, 6, 7, 5, 3, 3] : List (BitVec 3)) ∧
      ([0xC8, 0xF8, 0xD8, 0x38] : List Byte).map (fun m => m.extractLsb' 6 2) = ([3, 3, 3, 0] : List (BitVec 2)) ∧
      2 ≤ ([0x00, 0x00] : List Byte).length := by decide +kernel
/-- An instruction that ends at offset FFFFH, one after a prefix, one after a boundary that was run, and an iteration. -/
theorem test_meets_StepRunsDecodedInstruction :
    fetchable (place 0x03FFFF [0x90] { rm with ip := 0xFFFF }) .nop = true ∧
      fetchable (place 0x030100 [0x90] (under .rep rm)) .nop = true ∧ rm.repeating = none ∧
      rm.eventDue rm.inhibit rm.stiShadow = false ∧ rm.pfx.count = 0 ∧ (under .rep rm).pfx.count ≠ 0 ∧
      fetchable (place 0x010200 [0x90] { requested with boundaryDone := true }) .nop = true ∧
      (held .movsb rm).repeating = some ⟨.movsb, ⟨none, some .rep, false, 1⟩, 0x0102, false⟩ ∧
      (held .movsb rm).pfx.count = 0 ∧
      (held .movsb rm).eventDue (held .movsb rm).inhibit (held .movsb rm).stiShadow = false := by decide +kernel
theorem test_meets_EveryStepAnswers :
    (waiting rm).lines.ready = false ∧ (waiting rm).lines.reset = false ∧ (waiting rm).lines.rising = none ∧
      (waiting rm).run = .running ∧
      { rm with run := .halted }.eventDue rm.inhibit rm.stiShadow = false ∧ { rm with run := .halted }.run = .halted ∧
      { rm with run := .shutdown }.nmiPending = false ∧ { rm with run := .shutdown, nmiMask := true }.nmiMask = true :=
      by decide +kernel
theorem test_meets_InterruptRequest :
    requested.lines.ready = true ∧ requested.lines.reset = false ∧ requested.lines.rising = none ∧
      requested.boundaryNext = true ∧
      requested.stepPending = false ∧ requested.nmiPending = false ∧
      requested.mpPending = false ∧ requested.lines.intr = true ∧ requested.flag .if_ = true ∧
      requested.inhibit = false ∧ requested.stiShadow = false ∧ { rm with run := .halted }.boundaryNext = true ∧
      { rm with run := .halted }.flag .if_ = false ∧ rm.lines.intr = false ∧ rm.inhibit = false ∧
      rm.boundaryNext = true ∧ { rm with nmiPending := true }.nmiMask = false ∧
      { rm with nmiPending := true, nmiMask := true, run := .halted }.boundaryNext = true ∧
      { rm with stepPending := true }.boundaryNext = true ∧ { rm with mpPending := true }.boundaryNext = true ∧
      rm.realEntryOk 1 = true ∧ rm.realEntryOk 2 = true ∧ rm.realEntryOk 9 = true := by decide +kernel
theorem test_meets_StepKeepsInvariant :
    rm.Inv ∧ answers (step rm) (fun _ => true) = true :=
    ⟨⟨by decide +kernel, by decide +kernel, by decide +kernel, by decide +kernel,
      (fun _ h => by rw [(by decide +kernel : rm.repeating = none)] at h; cases h),
      fun _ => by decide +kernel, fun _ r => by cases r <;> decide +kernel⟩, by decide +kernel⟩
theorem test_meets_ProtectedModeStays :
    pm.lines.reset = false ∧ pm.lines.rising = none ∧ pm.pe = true ∧ answers (step pm) (fun _ => true) = true := by decide +kernel
theorem test_meets_NpxChangedOnlyByEsc :
    isEsc .nop = false ∧ answers (exec .nop rm) (fun _ => true) = true := by decide +kernel
/-- RESET of a machine that waits for READY, and one inside a step. -/
theorem test_meets_ResetState :
    { rm with lines := ⟨false, 0x00, true, false, none⟩ }.lines.reset = true ∧
      { rm with lines := ⟨false, 0x00, true, false, none⟩ }.lines.rising = none ∧
      (interrupted 1).lines.rising = some 1 ∧ answers (interrupted 1).unbroken (fun u => u.bus.length == 2) = true :=
      by decide +kernel
theorem test_meets_AdditionFlags :
    ((8 : Nat) = 8 ∨ (8 : Nat) = 16) ∧ ((16 : Nat) = 8 ∨ (16 : Nat) = 16) := by decide +kernel
theorem test_meets_SubtractionFlags :
    ((8 : Nat) = 8 ∨ (8 : Nat) = 16) ∧ ((16 : Nat) = 8 ∨ (16 : Nat) = 16) := by decide +kernel
theorem test_meets_AddSubtractResults :
    rm.lockOk = true ∧ rm.canWrite 1 (.mem (.direct 0xFFFF) : Rm Reg8) = true ∧
      rm.canWrite 2 (.mem (.direct 0xFFFE) : Rm Reg16) = true ∧
      rm.canRead 1 (.mem (.direct 0xFFFF) : Rm Reg8) = true ∧
      rm.canRead 2 (.mem (.direct 0xFFFE) : Rm Reg16) = true := by decide +kernel
theorem test_meets_CompareAndTest :
    rm.lockOk = true ∧ rm.canRead 1 (.mem (.direct 0xFFFF) : Rm Reg8) = true ∧
      rm.canRead 2 (.mem (.direct 0xFFFE) : Rm Reg16) = true := by decide +kernel
theorem test_meets_LogicResults :
    rm.lockOk = true ∧ rm.canWrite 1 (.mem (.direct 0xFFFF) : Rm Reg8) = true ∧
      rm.canWrite 2 (.mem (.direct 0xFFFE) : Rm Reg16) = true ∧
      rm.canRead 1 (.mem (.direct 0xFFFF) : Rm Reg8) = true ∧
      rm.canRead 2 (.mem (.direct 0xFFFE) : Rm Reg16) = true := by decide +kernel
theorem test_meets_IncDecNegNot :
    rm.lockOk = true ∧ rm.canWrite 1 (.mem (.direct 0xFFFF) : Rm Reg8) = true ∧
      rm.canWrite 2 (.mem (.direct 0xFFFE) : Rm Reg16) = true := by decide +kernel
theorem test_meets_MultiplyResults :
    rm.lockOk = true ∧ rm.canRead 1 (.mem (.direct 0xFFFF) : Rm Reg8) = true ∧
      rm.canRead 2 (.mem (.direct 0xFFFE) : Rm Reg16) = true := by decide +kernel
/-- Quotients at both ends of their ranges, and just outside. -/
theorem test_meets_DivideResults :
    rm.lockOk = true ∧ rm.canRead 1 (.reg .bl : Rm Reg8) = true ∧ rm.canRead 2 (.reg .bx : Rm Reg16) = true ∧
      fits8 0x00FF 0x01 = true ∧ fits8 0x0100 0x01 = false ∧ fits8 0x0000 0x00 = false ∧
      fits16 0x0000 0xFFFF 0x0001 = true ∧ fits16 0x0001 0x0000 0x0001 = false ∧ fits16 0x0000 0x0000 0x0000 = false ∧
      fitsS8 0xFF80 0x01 = true ∧ fitsS8 0x007F 0x01 = true ∧ fitsS8 0xFF7F 0x01 = false ∧ fitsS8 0x0080 0x01 = false ∧
      fitsS16 0xFFFF 0x8000 0x0001 = true ∧ fitsS16 0x0000 0x7FFF 0x0001 = true ∧ fitsS16 0xFFFF 0x7FFF 0x0001 = false ∧
      fitsS16 0x0000 0x8000 0x0001 = false := by decide +kernel
theorem test_meets_DecimalAdjustments :
    rm.lockOk = true := by decide +kernel
theorem test_meets_DecimalSums :
    (let r := addFlags (packed 99) (packed 99) false;
      let s := (regs [(.ax, 0x0032)] rm).setStatus r.2;
      s.lockOk = true ∧ r.1.toNat < 0xFA ∧ s.reg8 .al = r.1 ∧ s.flag .af = r.2.af ∧ s.flag .cf = r.2.cf) ∧
      (let r := subFlags (packed 0) (packed 99) false;
      let s := (regs [(.ax, 0x0067)] rm).setStatus r.2;
      s.lockOk = true ∧ s.reg8 .al = r.1 ∧ s.flag .af = r.2.af ∧ s.flag .cf = r.2.cf) := by decide +kernel
theorem test_meets_ShiftResults :
    rm.lockOk = true ∧ rm.canWrite 1 (.mem (.direct 0xFFFF) : Rm Reg8) = true ∧
      rm.canWrite 2 (.mem (.direct 0xFFFE) : Rm Reg16) = true := by decide +kernel
theorem test_meets_ShiftMeaning :
    ((8 : Nat) = 8 ∨ (8 : Nat) = 16) ∧ (31 : Nat) < 32 ∧ 1 ≤ (8 : Nat) ∧ (8 : Nat) ≤ 8 ∧ (8 : Nat) < 9 := by decide +kernel
theorem test_meets_Moves :
    rm.lockOk = true ∧ rm.canWrite 1 (.mem (.direct 0xFFFF) : Rm Reg8) = true ∧
      rm.canWrite 2 (.mem (.direct 0xFFFE) : Rm Reg16) = true ∧
      rm.canRead 1 (.mem (.direct 0xFFFF) : Rm Reg8) = true ∧
      rm.canRead 2 (.mem (.direct 0xFFFE) : Rm Reg16) = true ∧ rm.readOk rm.dataSeg 0xFFFF 1 = true ∧
      rm.readOk rm.dataSeg 0xFFFE 2 = true ∧ rm.writeOk rm.dataSeg 0xFFFF 1 = true ∧
      rm.writeOk rm.dataSeg 0xFFFE 2 = true := by decide +kernel
theorem test_meets_ExchangeAndTranslate :
    rm.lockOk = true ∧ rm.canWrite 1 (.mem (.direct 0xFFFF) : Rm Reg8) = true ∧
      rm.canWrite 2 (.mem (.direct 0xFFFE) : Rm Reg16) = true ∧
      rm.readOk rm.dataSeg (rm.gpr.bx + (rm.reg8 .al).setWidth 16) 1 = true := by decide +kernel
theorem test_meets_Pushes :
    rm.lockOk = true ∧ (regs [(.sp, 0x0000)] rm).pushesOk 1 = true ∧ (regs [(.sp, 0x0010)] rm).pushesOk 8 = true ∧
      (regs [(.sp, 0x0011)] rm).pushesOk 8 = true ∧ rm.pe = false ∧ pm.pushesOk 8 = true ∧ pm.pe = true ∧
      pm.stackRoom 16 = true ∧ rm.canRead 2 (.mem (.direct 0xFFFE) : Rm Reg16) = true := by decide +kernel
theorem test_meets_Pops :
    rm.lockOk = true ∧ rm.stackOk 0xFFFE 2 = true ∧
      (regs [(.sp, 0xFFFE)] rm).stackOk (regs [(.sp, 0xFFFE)] rm).gpr.sp 2 = true ∧
      rm.writeOk (rm.eaSeg (.direct 0xFFFE)) (rm.eaOff (.direct 0xFFFE)) 2 = true ∧
      (regs [(.sp, 0xFFF0)] rm).stackOk (regs [(.sp, 0xFFF0)] rm).gpr.sp 16 = true := by decide +kernel
/-- A descriptor that is not present among them. -/
theorem test_meets_SegmentLoads :
    pm.lockOk = true ∧ rm.segLoadOk .ss 0x1234 = true ∧ pm.segLoadOk .ds 0x0010 = true ∧
      pm.segLoadOk .es 0x0000 = true ∧ pm.segLoadOk .ss 0x0010 = true ∧
      pm.canRead 2 (.reg .ax : Rm Reg16) = true ∧ pm.stackOk pm.gpr.sp 2 = true ∧
      pm.segLoadOk .ds pm.stackTop = true ∧
      (placeWords 0x4100 [0x0010] pm).segLoadOk .ss (placeWords 0x4100 [0x0010] pm).stackTop = true ∧
      pm.farReadOk (.direct 0x1FFC) = true ∧ pm.segLoadOk .ds (pm.farPointer (.direct 0x1FFC)).2 = true ∧
      absent.val16 (.reg .ax) = 0x0030 ∧ selNull 0x0030 = false ∧ absent.pe = true ∧
      (absent.descLookup 0x0030).isSome = true ∧ (absent.descAt 0x002030).isData = true ∧
      (absent.descAt 0x002030).writable = true ∧ (absent.descAt 0x002030).dpl = absent.cpl ∧
      selRpl 0x0030 = absent.cpl ∧ (absent.descAt 0x002030).present = false ∧
      absent.descLookup 0x0030 = some (absent.descAt 0x002030) := by decide +kernel
/-- RAM, ROM and a device, at the address of an operand. -/
theorem test_meets_MemoryAccesses :
    Memory.wf rm.mem = true ∧ rm.kindAt 0x01FFFE = .ram ∧ rm.kindAt 0x01FFFF = .ram ∧ rm.kindAt 0x020000 = .ram ∧ mapped.kindAt 0x010000 = .rom ∧
      mapped.kindAt 0x010001 = .rom ∧ mapped.outside 0x010010 = true ∧ mapped.outside 0x010011 = true ∧
      mapped.outside 0x010012 = true ∧ Memory.wf mapped.mem = true ∧ mapped.lockOk = true ∧
      mapped.readOk (mapped.eaSeg (.direct 0x0010)) (mapped.eaOff (.direct 0x0010)) 2 = true ∧
      mapped.writeOk (mapped.eaSeg (.direct 0x0011)) (mapped.eaOff (.direct 0x0011)) 2 = true ∧
      (mapped.seg (mapped.eaSeg (.direct 0x0010))).lin (mapped.eaOff (.direct 0x0010)) = 0x010010 ∧
      onDevice.lockOk = true ∧ onDevice.pfx.rep = none ∧ onDevice.readOk onDevice.dataSeg onDevice.gpr.si 1 = true ∧
      onDevice.readOk .es onDevice.gpr.di 1 = true ∧
      onDevice.es.lin onDevice.gpr.di = (onDevice.seg onDevice.dataSeg).lin onDevice.gpr.si ∧
      onDevice.outside ((onDevice.seg onDevice.dataSeg).lin onDevice.gpr.si) = true := by decide +kernel
theorem test_meets_Frames :
    rm.lockOk = true ∧ Memory.wf rm.mem = true ∧
      rm.writeOk (rm.eaSeg (.direct 0xFFFE)) (rm.eaOff (.direct 0xFFFE)) 2 = true ∧
      rm.writeOk (rm.eaSeg (.direct 0xFFFF)) (rm.eaOff (.direct 0xFFFF)) 1 = true ∧
      answers (exec (.addEwRw (.mem (.direct 0xFFFE)) .ax) rm) (fun _ => true) = true ∧
      answers (exec (.xchgEwRw (.mem (.direct 0xFFFE)) .ax) rm) (fun _ => true) = true ∧
      answers (exec (.addEbRb (.mem (.direct 0xFFFF)) .al) rm) (fun _ => true) = true ∧
      answers (exec (.xchgEbRb (.mem (.direct 0xFFFF)) .al) rm) (fun _ => true) = true ∧
      answers (exec (.addRwEw .ax (.reg .bx)) rm) (fun _ => true) = true ∧
      answers (exec (.addRbEb .al (.reg .bl)) rm) (fun _ => true) = true ∧
      answers (exec (.xchgAxRw .bx) rm) (fun _ => true) = true ∧ pm.pe = true ∧ pm.lockOk = true ∧
      pm.writeOk (pm.eaSeg (.direct 0x1FFE)) (pm.eaOff (.direct 0x1FFE)) 2 = true ∧ Memory.wf pm.mem = true ∧
      answers (exec (.strEw (.mem (.direct 0x1FFE))) pm) (fun _ => true) = true := by decide +kernel
/-- A target at the limit and one past it. -/
theorem test_meets_JumpsOnFlags :
    rm.lockOk = true ∧ rm.flag .of = false ∧ rm.targetOk (rm.relTarget8 0x80) = true ∧
      (raised [.of] shortCode).flag .of = true ∧ shortCode.targetOk (shortCode.relTarget8 0x00) = true ∧
      shortCode.targetOk (shortCode.relTarget8 0x01) = false := by decide +kernel
theorem test_meets_SignedJumps :
    rm.lockOk = true ∧ (raised [.sf] rm).flag .sf = true ∧ rm.flag .of = false ∧ rm.gpr.cx = 0 ∧
      shortCode.targetOk (shortCode.relTarget8 0x00) = true ∧
      shortCode.targetOk (shortCode.relTarget8 0x01) = false := by decide +kernel
theorem test_meets_LoopsAndNearJumps :
    rm.lockOk = true ∧ rm.gpr.cx - 1 ≠ 0 ∧ (regs [(.cx, 1)] rm).gpr.cx - 1 = 0 ∧ rm.flag .zf = false ∧
      (raised [.zf] rm).flag .zf = true ∧ shortCode.targetOk (shortCode.relTarget8 0x00) = true ∧
      shortCode.targetOk (shortCode.relTarget8 0x01) = false ∧ rm.targetOk (rm.ip + 0x8000) = true ∧
      rm.canRead 2 (.reg .bx : Rm Reg16) = true ∧ rm.targetOk (rm.val16 (.reg .bx)) = true := by decide +kernel
theorem test_meets_NearCallsAndReturns :
    rm.lockOk = true ∧ rm.pushesOk 1 = true ∧ rm.targetOk (rm.ip + 0x8000) = true ∧
      rm.canRead 2 (.reg .bx : Rm Reg16) = true ∧ rm.targetOk (rm.val16 (.reg .bx)) = true ∧
      rm.stackOk rm.gpr.sp 2 = true ∧ rm.targetOk rm.stackTop = true ∧ pm.targetOk pm.stackTop = true :=
      by decide +kernel
theorem test_meets_FarTransfersReal :
    rm.lockOk = true ∧ rm.pe = false ∧ rm.farReadOk (.direct 0xFFFC) = true ∧ rm.pushesOk 2 = true ∧
      rm.stkOk 0 = true ∧ rm.stkOk 2 = true ∧ rm.stkOk 4 = true := by decide +kernel
/-- A far JMP and CALL through a pointer, and direct ones. -/
theorem test_meets_jumpsFar :
    farCode.jumpsFar (.jmpEd (.direct 0x0000)) 0x0008 0x0018 (farCode.operandRead 2 (.direct 0x0000)) ∧
      farCode.callsFar (.callEd (.direct 0x0000)) 0x0008 0x0018 (farCode.operandRead 2 (.direct 0x0000)) ∧
      farCode.jumpsFar (.jmpCd 0x0018 0x0008) 0x0008 0x0018 farCode ∧
      farCode.callsFar (.callCd 0x0018 0x0008) 0x0008 0x0018 farCode :=
  ⟨.inr ⟨_, rfl, by decide +kernel, by decide +kernel, rfl⟩, .inr ⟨_, rfl, by decide +kernel, by decide +kernel, rfl⟩,
    .inl ⟨rfl, rfl⟩, .inl ⟨rfl, rfl⟩⟩
theorem test_meets_FarTransfersProtected :
    pm.lockOk = true ∧ pm.pe = true ∧ pm.descLookup 0x0008 = some (pm.descAt 0x002008) ∧
      pm.codeOk 0x0008 0xFFFF (pm.descAt 0x002008) = true ∧ pm.stackRoom 4 = true ∧
      (farCode.operandRead 2 (.direct 0x0000)).descLookup 0x0008 = some (farCode.descAt 0x002008) ∧
      farCode.codeOk 0x0008 0x0018 (farCode.descAt 0x002008) = true ∧ farCode.stkOk 0 = true ∧
      farCode.stkOk 2 = true ∧ farCode.stkOk 4 = true ∧ farCode.stkWord 2 = 0x0008 ∧
      (farCode.afterStk 2).descLookup 0x0008 = some (farCode.descAt 0x002008) ∧
      farCode.returnOk 0x0008 (((farCode.afterStk 2).afterLookup 0x0008).stkWord 0) (farCode.descAt 0x002008) = true ∧
      farCode.flag .nt = false ∧ farCode.lockOk = true ∧ farCode.pe = true := by decide +kernel
/-- A call gate to the same and to more privilege with 31 parameters, and returns to level 3. -/
theorem test_meets_FarTransfersProtected_gates :
    gates.lockOk = true ∧ gates.pe = true ∧ gates.gateFor 0x003B (gates.descAt 0x002038) 4 = true ∧
      (gates.afterLookup 0x003B).innerCode 0x0008 0x0200 (gates.descAt 0x002008) = true ∧
      (gates.descAt 0x002038).gateSel = 0x0008 ∧ (gates.descAt 0x002038).gateOffset = 0x0200 ∧
      (gates.descAt 0x002038).gateCount = 31 ∧
      ((gates.afterLookup 0x003B).afterLookup 0x0008).innerStackOk (gates.descAt 0x002008).dpl (gates.descAt 0x002010)
        (8 + 2 * 31) = true ∧
      ((List.range 31).all fun k => gates.stkOk (BitVec.ofNat 16 (2 * k))) = true ∧
      gates0.gateFor 0x0038 (gates0.descAt 0x002038) 4 = true ∧
      (gates0.afterLookup 0x0038).sameCode 0x0008 0x0200 (gates0.descAt 0x002008) = true ∧ gates0.stackRoom 4 = true :=
      by decide +kernel
theorem test_meets_FarTransfersProtected_outer :
    let u := (outer.afterStk 2).afterLookup 0x0043
    let v := (outer2.afterStk 2).afterLookup 0x0043
    outer.lockOk = true ∧ outer.pe = true ∧ outer.stkOk 0 = true ∧ outer.stkOk 2 = true ∧ outer.stkWord 2 = 0x0043 ∧
      (outer.afterStk 2).descLookup 0x0043 = some (outer.descAt 0x002040) ∧
      outer.outerCode 0x0043 (u.stkWord 0) (outer.descAt 0x002040) = true ∧ outer.stkOk 6 = true ∧
      outer.stkOk 8 = true ∧ (u.afterStk 6).stkWord 8 = 0x001B ∧
      ((u.afterStk 6).afterStk 8).stackFor 0x001B 3 (outer.descAt 0x002018) = true ∧
      outer.stkOk 4 = true ∧ outer.flag .nt = false ∧ selRpl 0x0043 = 3 ∧ outer2.stkWord 2 = 0x0043 ∧
      (outer2.afterStk 2).descLookup 0x0043 = some (outer2.descAt 0x002040) ∧
      outer2.outerCode 0x0043 (v.stkWord 0) (outer2.descAt 0x002040) = true ∧ (v.afterStk 4).stkWord 6 = 0x001B ∧
      ((v.afterStk 4).afterStk 6).stackFor 0x001B 3 (outer2.descAt 0x002018) = true := by decide +kernel
theorem test_meets_InterruptsReal :
    rm.lockOk = true ∧ rm.realEntryOk 0xFF = true ∧ rm.realEntryOk 3 = true ∧ rm.realEntryOk 4 = true ∧
      (raised [.of] rm).flag .of = true ∧ (raised [.of] rm).realEntryOk 4 = true ∧ rm.flag .of = false :=
      by decide +kernel
/-- Trap gates and an interrupt gate. -/
theorem test_meets_InterruptsProtected :
    pm.lockOk = true ∧ pm.gateOk 16 true 6 (pm.descAt 0x002008) = true ∧
      pm.gateOk 3 true 6 (pm.descAt 0x002008) = true ∧ (raised [.of] pm).flag .of = true ∧
      (raised [.of] pm).gateOk 4 true 6 (pm.descAt 0x002008) = true ∧
      pm.gateOk 0 false 6 (pm.descAt 0x002008) = true ∧ pm.gateOk 13 false 8 (pm.descAt 0x002008) = true ∧
      (intGate.gate 13).isControl 6 = true ∧ intGate.gateOk 13 false 8 (intGate.descAt 0x002008) = true :=
      by decide +kernel
/-- Gates from level 3 to level 0, with and without an error code. -/
theorem test_meets_InterruptsProtected_inner :
    pm3.lockOk = true ∧ (open3 3).gateInnerOk 3 true 10 ((open3 3).descAt 0x002008) ((open3 3).descAt 0x002010) = true ∧
      (open3 4).gateInnerOk 4 true 10 ((open3 4).descAt 0x002008) ((open3 4).descAt 0x002010) = true ∧
      (raised [.of] (open3 4)).flag .of = true ∧
      pm3.gateInnerOk 0 false 10 (pm3.descAt 0x002008) (pm3.descAt 0x002010) = true ∧
      pm3.gateInnerOk 13 false 12 (pm3.descAt 0x002008) (pm3.descAt 0x002010) = true := by decide +kernel
/-- JMP, CALL and INT to an available task, IRET to a busy one, and the two TSSs apart. -/
theorem test_meets_TaskSwitches :
    tasks.lockOk = true ∧ tasks.pe = true ∧ selNull 0x0030 = false ∧
      tasks.tssFor 0x0030 (tasks.descAt 0x002030) 1 = true ∧ tasks.cpl.toNat ≤ (tasks.descAt 0x002030).dpl.toNat ∧
      (selRpl 0x0030).toNat ≤ (tasks.descAt 0x002030).dpl.toNat ∧
      ((tasks.afterLookup 0x0030).taskEntered .jmp 0x0030 (tasks.descAt 0x002030) tasks.ip).isSome = true ∧
      ((tasks.afterLookup 0x0030).taskEntered .call 0x0030 (tasks.descAt 0x002030) tasks.ip).isSome = true ∧
      tasks.gateFor 0x0040 (tasks.descAt 0x002040) 5 = true ∧ (tasks.descAt 0x002040).gateSel = 0x0030 ∧
      (tasks.afterLookup 0x0040).tssFor 0x0030 (tasks.descAt 0x002030) 1 = true ∧
      (((tasks.afterLookup 0x0040).afterLookup 0x0030).taskEntered .jmp 0x0030 (tasks.descAt 0x002030)
        tasks.ip).isSome = true ∧
      (((tasks.afterLookup 0x0040).afterLookup 0x0030).taskEntered .call 0x0030 (tasks.descAt 0x002030)
        tasks.ip).isSome = true ∧
      tasks.taskGateOk 3 true (tasks.descAt 0x002030) = true ∧ (tasks.gate 3).gateSel = 0x0030 ∧
      ((tasks.targetRead 3).taskEntered .int 0x0030 (tasks.descAt 0x002030) tasks.ip).isSome = true ∧
      ((tasks.targetRead 3).taskEntered .int 0x0030 (tasks.descAt 0x002030) tasks.curIP).isSome = true ∧
      apart tasks (tasks.descAt 0x002030) = true ∧ Memory.wf tasks.mem = true := by decide +kernel
theorem test_meets_TaskSwitches_back :
    tasks2.lockOk = true ∧ tasks2.flag .nt = true ∧ tasks2.tr.valid = true ∧ 1 ≤ tasks2.tr.limit.toNat ∧
      tasks2.mem16 tasks2.tr.base = 0x0030 ∧
      (tasks2.after16 tasks2.tr.base).tssFor 0x0030 (tasks2.descAt 0x002030) 3 = true ∧
      (((tasks2.after16 tasks2.tr.base).afterLookup 0x0030).taskEntered .iret 0x0030 (tasks2.descAt 0x002030)
        tasks2.ip).isSome = true ∧
      (((tasks.targetRead 3).taskEntered .int 0x0030 (tasks.descAt 0x002030) tasks.curIP).map fun t => t.stackRoom 2) = some true := by
  decide +kernel
theorem test_meets_DoubleFaultAndShutdown :
    { pm with idtr := ⟨0x003000, 0x0047⟩ }.pe = true ∧ (13 : Byte) ≠ 8 ∧
      nested { pm with idtr := ⟨0x003000, 0x0047⟩ } = some true ∧
      nested { pm with idtr := ⟨0x003000, 0x000F⟩ } = some false ∧ { rm with run := .shutdown }.run = .shutdown ∧
      rm.lines.reset = false ∧ rm.lines.rising = none ∧ rm.nmiPending = false := by decide +kernel
theorem test_meets_StringElements :
    rm.lockOk = true ∧ rm.readOk rm.dataSeg 0xFFFF 1 = true ∧ rm.readOk rm.dataSeg 0xFFFE 2 = true ∧
      rm.readOk .es 0xFFFF 1 = true ∧ rm.readOk .es 0xFFFE 2 = true ∧ rm.writeOk .es 0xFFFF 1 = true ∧
      rm.writeOk .es 0xFFFE 2 = true ∧ rm.ioAllowed = true ∧ (under .rep rm).lockOk = true := by decide +kernel
theorem test_meets_FlagControl :
    rm.lockOk = true ∧ Flag.zf ≠ Flag.cf := by decide +kernel
/-- An even and an odd port, and the last one. -/
theorem test_meets_IoAndInterruptFlag :
    rm.ioAllowed = true ∧ { pm3 with flags := .ofWord 0x3002 }.ioAllowed = true ∧ oddPort 0x00FE = false ∧
      oddPort 0x00FF = true ∧ oddPort 0xFFFD = true ∧ oddPort 0xFFFF = false := by decide +kernel
theorem test_meets_IoPrivilege :
    pm3.ioAllowed = false ∧ { pm3 with flags := .ofWord 0x2002 }.ioAllowed = false ∧ pm3.pfx.rep = none ∧
      { pm3 with pfx := ⟨none, none, true, 1⟩ }.pfx.lock = true ∧
      Instr.nop ∉ [Instr.pfxEs, .pfxCs, .pfxSs, .pfxDs, .pfxLock, .pfxRepne, .pfxRep] ∧ pm3.pfx.lock = false ∧
      (regs [(.sp, 0x00FE)] pm3).stackOk (regs [(.sp, 0x00FE)] pm3).gpr.sp 2 = true := by decide +kernel
theorem test_meets_NopWaitHaltPrefixes :
    rm.lockOk = true ∧ (rm.mp && rm.ts) = false ∧ (rm.em || !rm.npxError) = true ∧
      ({ rm with msw := 0xFFFA }.mp && { rm with msw := 0xFFFA }.ts) = true ∧ rm.em = false ∧
      { rm with npx := Npx.flag { Npx.reset with cw := 0x037E } .invalid }.npxError = true ∧ rm.pe = false ∧
      pm.cpl = 0 := by decide +kernel
/-- Levels 0 and 31. -/
theorem test_meets_EnterLeaveBound :
    rm.lockOk = true ∧ rm.ss.readable = true ∧ rm.pe = false ∧ rm.pushesOk 32 = true ∧
      (regs [(.bp, 0x0100)] rm).displayOk 30 = true ∧ pm.ss.readable = true ∧
      (regs [(.bp, 0x0100)] pm).displayOk 30 = true ∧ pm.stackRoom (2 * 32 + 16) = true ∧ pm.pushesOk 32 = true ∧
      pm.pushesOk 1 = true ∧ rm.displayOk (0 - 1) = true ∧
      (regs [(.bp, 0xFFFE)] rm).stackOk (regs [(.bp, 0xFFFE)] rm).gpr.bp 2 = true ∧
      rm.farReadOk (.direct 0xFFFC) = true ∧ (rm.farPointer (.direct 0xFFFC)).1.toInt ≤ (rm.reg16 .bx).toInt ∧
      (rm.reg16 .bx).toInt ≤ (rm.farPointer (.direct 0xFFFC)).2.toInt ∧
      ¬((regs [(.bx, 1)] rm).reg16 .bx).toInt ≤ ((regs [(.bx, 1)] rm).farPointer (.direct 0xFFFC)).2.toInt :=
      by decide +kernel
theorem test_meets_SystemRegisters :
    rm.lockOk = true ∧ rm.pe = false ∧ pm.cpl = 0 ∧
      rm.readOk (rm.eaSeg (.direct 0xFFFA)) (rm.eaOff (.direct 0xFFFA)) 6 = true ∧
      rm.writeOk (rm.eaSeg (.direct 0xFFFA)) (rm.eaOff (.direct 0xFFFA)) 6 = true ∧
      pm.canRead 2 (.reg .ax : Rm Reg16) = true ∧ pm.canWrite 2 (.reg .ax : Rm Reg16) = true ∧ pm.pe = true ∧
      selNull (pm.val16 (.reg .ax)) = true ∧ selNull 0x0028 = false ∧ selLocal 0x0028 = false ∧
      tables.val16 (.reg .ax) = 0x0028 ∧ tables.val16 (.reg .bx) = 0x0030 ∧
      tables.descLookup 0x0028 = some (tables.descAt 0x002028) ∧ (tables.descAt 0x002028).present = true ∧
      (tables.descAt 0x002028).isControl 1 = true ∧ selNull 0x0030 = false ∧ selLocal 0x0030 = false ∧
      tables.descLookup 0x0030 = some (tables.descAt 0x002030) ∧ (tables.descAt 0x002030).present = true ∧
      (tables.descAt 0x002030).isControl 2 = true ∧ tables.pe = true ∧ tables.cpl = 0 ∧ tables.lockOk = true :=
      by decide +kernel
theorem test_meets_PointerValidation :
    pm3.lockOk = true ∧ pm3.pe = true ∧ pm3.canRead 2 (.reg .ax : Rm Reg16) = true ∧
      selNull (pm3.val16 (.reg .ax)) = true ∧ pm3.descLookup 0x0043 = none ∧
      (regs [(.ax, 0x0010)] pm3).val16 (.reg .ax) = 0x0010 ∧ selNull 0x0010 = false ∧
      (regs [(.ax, 0x0010)] pm3).descLookup 0x0010 = some (pm3.descAt 0x002010) ∧
      (pm3.descAt 0x002010).dpl.toNat < pm3.cpl.toNat ∧ selNull 0x001B = false ∧
      (regs [(.ax, 0x001B)] pm3).descLookup 0x001B = some (pm3.descAt 0x002018) ∧
      pm3.cpl.toNat ≤ (pm3.descAt 0x002018).dpl.toNat ∧ (selRpl 0x001B).toNat ≤ (pm3.descAt 0x002018).dpl.toNat ∧
      (pm3.descAt 0x002018).readable = true ∧ (pm3.descAt 0x002018).isData = true ∧
      (pm3.descAt 0x002018).ar.getLsbD 1 = true ∧ (tables.descAt 0x002030).segment = false ∧
      (tables.descAt 0x002030).type = 2 ∧ pm3.canWrite 2 (.reg .bx : Rm Reg16) = true := by decide +kernel
theorem test_meets_SystemTraps :
    rm.lockOk = true ∧ rm.pe = false ∧ pm3.lockOk = true ∧ pm3.pe = true ∧ pm3.cpl ≠ 0 := by decide +kernel
theorem test_meets_EscTraps :
    rm.lockOk = true ∧ isEsc .fld1 = true ∧
      ({ rm with msw := 0xFFF4 }.em || { rm with msw := 0xFFF4 }.ts) = true ∧ rm.em = false ∧ rm.ts = false ∧
      { rm with npx := Npx.flag { Npx.reset with cw := 0x037E } .invalid }.npxError = true ∧
      (∀ ea, Instr.fld1 ≠ .fnstenvM14byte ea ∧ Instr.fld1 ≠ .fnstcwM2byte ea ∧ Instr.fld1 ≠ .fnsaveM94byte ea ∧
        Instr.fld1 ≠ .fnstswM2byte ea) ∧ Instr.fld1 ∉ [Instr.fnclex, .fninit, .fsetpm, .fnstswAx] :=
  ⟨by decide +kernel, by decide +kernel, by decide +kernel, by decide +kernel, by decide +kernel, by decide +kernel,
    fun _ => ⟨Instr.noConfusion, Instr.noConfusion, Instr.noConfusion, Instr.noConfusion⟩, by decide +kernel⟩
/-- No 80287, and operands that begin at the last word of the segment. -/
theorem test_meets_EscTraps_operands :
    alone.em = false ∧ alone.ts = false ∧ alone.npxPresent = false ∧ alone.lockOk = true ∧
      encode .fld1 = [0xD9, 0xE8] ∧ 0xC0 ≤ (0xE8 : Byte).toNat ∧ (Instr.fld1 == .fnstswAx) = false ∧
      alone.readOk (alone.eaSeg (.direct 0xFFFE)) (alone.eaOff (.direct 0xFFFE)) 2 = true ∧
      alone.writeOk (alone.eaSeg (.direct 0xFFFE)) (alone.eaOff (.direct 0xFFFE)) 2 = true ∧
      rm.escReadOk 1 (.direct 0xFFFE) = true ∧
      (rm.seg (rm.eaSeg (.direct 0xFFFE))).inLimit (rm.eaOff (.direct 0xFFFE)).toNat (2 * 1) = true ∧
      (rm.seg (rm.eaSeg (.direct 0xFFFE))).inLimit (rm.eaOff (.direct 0xFFFE)).toNat (2 * 1 + 2) = false ∧
      rm.escWriteOk false 1 (.direct 0xFFFE) = true ∧ rm.escWriteOk true 1 (.direct 0xFFFE) = true ∧
      1 < rm.npx.envWords.length ∧ 1 < rm.npx.saveWords.length ∧
      ((rm.latch 0 none).answered (intImage 32)).isSome = true ∧
      rm.nmiMask = false ∧ { rm with nmiMask := true }.nmiMask = true := by decide +kernel
theorem test_meets_NpxMemoryOperands :
    rm.lockOk = true ∧ rm.escReadOk 5 (.direct 0xFFF6) = true ∧ rm.escReadOk 4 (.direct 0xFFF8) = true ∧
      rm.escReadOk 2 (.direct 0xFFFC) = true ∧ rm.escReadOk 1 (.direct 0xFFFE) = true := by decide +kernel
theorem test_meets_NpxRegisterForms :
    rm.lockOk = true ∧ rm.escOk true = true ∧ rm.npxPresent = true := by decide +kernel
theorem test_meets_NpxStores :
    rm.lockOk = true ∧ rm.escWriteOk true 5 (.direct 0xFFF6) = true ∧
      rm.escWriteOk true 4 (.direct 0xFFF8) = true ∧ rm.escWriteOk true 2 (.direct 0xFFFC) = true ∧
      rm.escWriteOk true 1 (.direct 0xFFFE) = true := by decide +kernel
theorem test_meets_NpxControl :
    rm.lockOk = true ∧ rm.npxPresent = true ∧ rm.escReadOk 1 (.direct 0xFFFE) = true ∧
      rm.escReadOk 7 (.direct 0xFFF2) = true ∧ rm.escReadOk 47 (.direct 0xFFA2) = true ∧
      rm.escWriteOk false 1 (.direct 0xFFFE) = true ∧ rm.escWriteOk false 7 (.direct 0xFFF2) = true ∧
      rm.escWriteOk false 47 (.direct 0xFFA2) = true ∧ rm.escOk false = true ∧ rm.escOk true = true :=
      by decide +kernel
theorem test_meets_ExactSums :
    Npx.reset.allMasked = true ∧ classOf one = .normal ∧ classOf two = .normal ∧ classOf three = .normal ∧
      realSig three % 2 ^ (64 - Npx.reset.precision) = 0 ∧ realValue three = realValue one + realValue two ∧
      classOf (real 0xBFFF 0x8000000000000000) = .normal ∧
      realValue one + realValue (real 0xBFFF 0x8000000000000000) = 0 := by
  have h : realSign one = false ∧ realSig one = 2 ^ 63 ∧ realTrue one = 0 ∧ realSign two = false ∧ realSig two = 2 ^ 63 ∧
      realTrue two = 1 ∧ realSign three = false ∧ realSig three = 3 * 2 ^ 62 ∧ realTrue three = 1 ∧
      realSign (real 0xBFFF 0x8000000000000000) = true ∧ realSig (real 0xBFFF 0x8000000000000000) = 2 ^ 63 ∧
      realTrue (real 0xBFFF 0x8000000000000000) = 0 := by decide +kernel
  obtain ⟨h1, h2, h3, h4, h5, h6, h7, h8, h9, h10, h11, h12⟩ := h
  refine ⟨by decide +kernel, by decide +kernel, by decide +kernel, by decide +kernel, by decide +kernel, ?_,
    by decide +kernel, ?_⟩
  · unfold realValue
    rw [h1, h2, h3, h4, h5, h6, h7, h8, h9]
    norm_num
  · unfold realValue
    rw [h1, h2, h3, h10, h11, h12]
    norm_num
theorem test_meets_CompareByValue :
    classOf one = .normal ∧ classOf (real 0x8000 0) = .zero := by decide +kernel
theorem test_meets_IntegerRoundTrip :
    (let n := Npx.reset.push (intOperand 16 0x8000);
      n.empty n.top = false ∧ n.reg n.top = intOperand 16 0x8000 ∧ (0x8000 : Nat) < 2 ^ 16) ∧
      (let v := 0x999999999999999999;
      let n := Npx.reset.push (ofNatReal true (bcdValue 18 v));
      n.empty n.top = false ∧ n.reg n.top = ofNatReal true (bcdValue 18 v) ∧ v < 2 ^ 72 ∧ bcdValid 18 v = true) :=
      by decide +kernel
theorem test_meets_RegisterStack :
    Npx.reset.empty (Npx.reset.top - 1) = true ∧ Npx.reset.masked .invalid = true ∧
      (let n := (fp (List.replicate 8 one)).npx;
      n.empty (n.top - 1) = false ∧ n.masked .invalid = true ∧ { n with cw := 0x037E }.masked .invalid = false) ∧
      Npx.reset.empty (Npx.reset.phys 0) = true ∧
      (let n := (fp [one, two]).npx;
      n.empty n.top = false ∧ n.empty (n.phys 1) = false) := by decide +kernel
theorem test_meets_SaveRestore :
    { Npx.reset with protectedMode := true }.protectedMode = true ∧ Npx.reset.protectedMode = false ∧
      Npx.reset.fixES = Npx.reset ∧
      { Npx.reset with protectedMode := true }.fixES = { Npx.reset with protectedMode := true } := by decide +kernel

end

end Sys2Proof.Tests
end

section
/-! SUPPORT. The flags of an addition and a subtraction as the integers say (10_state.md R25, R29 to R33). -/

namespace Sys2Proof.Machine

/-- PF counts the 1 bits of the low byte (10_state.md R30). -/
theorem parityEven_setWidth_iff {n : Nat} (r : BitVec n) :
    parityEven (r.setWidth 8) = true ↔ ((List.range 8).countP fun i => r.getLsbD i) % 2 = 0 := by
  have parity : ∀ b0 b1 b2 b3 b4 b5 b6 b7 : Bool,
      (!(((b0 ^^ b1) ^^ (b2 ^^ b3)) ^^ ((b4 ^^ b5) ^^ (b6 ^^ b7)))) = true ↔
        ([b0, b1, b2, b3, b4, b5, b6, b7].countP id) % 2 = 0 := by decide
  have bits : (List.range 8).countP (fun i => r.getLsbD i) =
      ([r.getLsbD 0, r.getLsbD 1, r.getLsbD 2, r.getLsbD 3, r.getLsbD 4, r.getLsbD 5, r.getLsbD 6,
        r.getLsbD 7].countP id) := List.countP_map.symm
  rw [bits, ← parity]
  simp [parityEven]

/-- ZF. -/
theorem beq_zero_iff {n : Nat} (r : BitVec n) : (r == 0) = true ↔ r.toNat = 0 := by
  rw [beq_iff_eq, ← BitVec.toNat_inj]
  simp

/-- SF. -/
theorem msb_iff_toInt_neg {n : Nat} (r : BitVec n) : r.msb = true ↔ r.toInt < 0 := by
  rw [BitVec.msb_eq_toInt, decide_eq_true_eq]

/-- The sum, with CF as the bit above it. -/
theorem addFlags_carry {n : Nat} (a b : BitVec n) (c : Bool) :
    (addFlags a b c).1.toNat + (addFlags a b c).2.cf.toNat * 2 ^ n = a.toNat + b.toNat + c.toNat := by
  have ha := a.isLt
  have hb := b.isLt
  have hc := c.toNat_le
  simp only [addFlags, BitVec.toNat_ofNat]
  by_cases h : 2 ^ n ≤ a.toNat + b.toNat + c.toNat
  · rw [Nat.mod_eq_sub_mod h, Nat.mod_eq_of_lt (by omega)]
    simp [h]
  · rw [Nat.mod_eq_of_lt (by omega)]
    simp [h]

/-- The difference modulo the width. -/
theorem subFlags_toNat {n : Nat} (a b : BitVec n) (c : Bool) :
    ((subFlags a b c).1.toNat : Int) = ((a.toNat : Int) - b.toNat - c.toNat) % 2 ^ n := by
  simp only [subFlags, BitVec.toNat_ofInt]
  have hpow : (0 : Int) < 2 ^ n := by positivity
  rw [Int.toNat_of_nonneg (by push_cast; exact Int.emod_nonneg _ hpow.ne')]
  push_cast
  rfl

/-- The difference, with CF as the borrow. -/
theorem subFlags_borrow {n : Nat} (a b : BitVec n) (c : Bool) :
    (subFlags a b c).1.toNat + b.toNat + c.toNat = a.toNat + (subFlags a b c).2.cf.toNat * 2 ^ n := by
  have ha := a.isLt
  have hb := b.isLt
  have hc := c.toNat_le
  simp only [subFlags, BitVec.toNat_ofInt]
  by_cases h : a.toNat < b.toNat + c.toNat
  · rw [← Int.add_emod_right, Int.emod_eq_of_lt (by omega) (by omega)]
    simp only [h, decide_true, Bool.toNat_true]
    omega
  · rw [Int.emod_eq_of_lt (by omega) (by omega)]
    simp only [h, decide_false, Bool.toNat_false]
    omega

/-- A bit vector as a signed number, `h` being the weight of the sign bit: twice that weight comes off its unsigned
value if the sign is set, and the sign says in which half the unsigned value stands. -/
theorem toInt_msb_bounds {n h : Nat} (hn : 0 < n) (hh : 2 ^ (n - 1) = h) (x : BitVec n) :
    x.toInt = x.toNat - 2 * (x.msb.toNat * h : Nat) ∧
      x.msb.toNat * h ≤ x.toNat ∧ x.toNat < x.msb.toNat * h + h := by
  have hpow : 2 ^ n = 2 * h := by rw [← hh, Nat.mul_comm, Nat.two_pow_pred_mul_two hn]
  have hx : x.toNat < 2 * h := hpow ▸ x.isLt
  rw [BitVec.toInt_eq_msb_cond, BitVec.msb_eq_decide, hh, hpow]
  by_cases hs : h ≤ x.toNat
  · simp only [hs, decide_true, if_true, Bool.toNat_true]
    omega
  · simp only [hs, decide_false, Bool.false_eq_true, if_false, Bool.toNat_false]
    omega

/-- OF of an addition (10_state.md R33): the operands have one sign and the sum the other. -/
theorem addFlags_of_iff {n h : Nat} (hn : 0 < n) (hh : 2 ^ (n - 1) = h) (a b : BitVec n) (c : Bool) :
    (addFlags a b c).2.of = true ↔
      a.toInt + b.toInt + c.toNat < -h ∨ (h : Int) ≤ a.toInt + b.toInt + c.toNat := by
  have hof : (addFlags a b c).2.of = ((a.msb == b.msb) && ((addFlags a b c).1.msb != a.msb)) := rfl
  have hpow : 2 ^ n = 2 * h := by rw [← hh, Nat.mul_comm, Nat.two_pow_pred_mul_two hn]
  have hsum := addFlags_carry a b c
  have hc := c.toNat_le
  obtain ⟨ea, la, ua⟩ := toInt_msb_bounds hn hh a
  obtain ⟨eb, lb, ub⟩ := toInt_msb_bounds hn hh b
  obtain ⟨-, lr, ur⟩ := toInt_msb_bounds hn hh (addFlags a b c).1
  rw [hof, ea, eb]
  rw [hpow] at hsum
  -- The three signs and the carry fix every multiple of `h` in these bounds; what is left is linear.
  generalize a.msb = p, b.msb = q, (addFlags a b c).1.msb = r, (addFlags a b c).2.cf = k at *
  cases p <;> cases q <;> cases r <;> cases k <;> simp at * <;> omega

/-- OF of a subtraction (10_state.md R33): the operands have opposite signs, and the difference has not the sign of the
first. -/
theorem subFlags_of_iff {n h : Nat} (hn : 0 < n) (hh : 2 ^ (n - 1) = h) (a b : BitVec n) (c : Bool) :
    (subFlags a b c).2.of = true ↔
      a.toInt - b.toInt - c.toNat < -h ∨ (h : Int) ≤ a.toInt - b.toInt - c.toNat := by
  have hof : (subFlags a b c).2.of = ((a.msb != b.msb) && ((subFlags a b c).1.msb != a.msb)) := rfl
  have hpow : 2 ^ n = 2 * h := by rw [← hh, Nat.mul_comm, Nat.two_pow_pred_mul_two hn]
  have hdiff := subFlags_borrow a b c
  have hc := c.toNat_le
  obtain ⟨ea, la, ua⟩ := toInt_msb_bounds hn hh a
  obtain ⟨eb, lb, ub⟩ := toInt_msb_bounds hn hh b
  obtain ⟨-, lr, ur⟩ := toInt_msb_bounds hn hh (subFlags a b c).1
  rw [hof, ea, eb]
  rw [hpow] at hdiff
  -- The three signs and the carry fix every multiple of `h` in these bounds; what is left is linear.
  generalize a.msb = p, b.msb = q, (subFlags a b c).1.msb = r, (subFlags a b c).2.cf = k at *
  cases p <;> cases q <;> cases r <;> cases k <;> simp at * <;> omega

end Sys2Proof.Machine

open Sys2Proof.Machine

/-- Settles O13, from the law of the carry: sum and CF together are the sum of the integers. -/
theorem additionFlags : Obligations.AdditionFlags := by
  intro n hn a b c
  have hpos : 0 < n := by omega
  refine ⟨BitVec.toNat_ofNat _ _, decide_eq_true_iff, ?_, decide_eq_true_iff, beq_zero_iff _, msb_iff_toInt_neg _,
    parityEven_setWidth_iff _⟩
  exact_mod_cast addFlags_of_iff hpos rfl a b c

/-- Settles O14, from the law of the borrow. -/
theorem subtractionFlags : Obligations.SubtractionFlags := by
  intro n hn a b c
  have hpos : 0 < n := by omega
  refine ⟨?_, decide_eq_true_iff, ?_, decide_eq_true_iff, beq_zero_iff _, msb_iff_toInt_neg _,
    parityEven_setWidth_iff _⟩
  · exact subFlags_toNat a b c
  · exact_mod_cast subFlags_of_iff hpos rfl a b c

end

section
/-! SUPPORT. The register stack of the 80287: what a register and a tag read after each update (10_state.md R60, R63;
48_npx_architecture.md R551, R552). -/

namespace Sys2Proof.Machine

/-! ### Registers and tags after an update -/

/-- The eight register numbers. -/
theorem regNumber_cases (k : BitVec 3) : k = 0 ∨ k = 1 ∨ k = 2 ∨ k = 3 ∨ k = 4 ∨ k = 5 ∨ k = 6 ∨ k = 7 := by
  revert k
  decide

@[simp] theorem Npx.reg_setReg (n : Npx) (k j : BitVec 3) (v : Reg80) :
    (n.setReg k v).reg j = if j = k then v else n.reg j := by
  rcases regNumber_cases k with rfl | rfl | rfl | rfl | rfl | rfl | rfl | rfl <;>
  rcases regNumber_cases j with rfl | rfl | rfl | rfl | rfl | rfl | rfl | rfl <;> rfl

/-- What does not read R0 to R7 is the same after one of them is set. -/
theorem Npx.setReg_frame (n : Npx) (k : BitVec 3) (v : Reg80) :
    (n.setReg k v).sw = n.sw ∧ (n.setReg k v).tw = n.tw := by
  unfold Npx.setReg
  split_ifs <;> exact ⟨rfl, rfl⟩

@[simp] theorem Npx.sw_setReg (n : Npx) (k : BitVec 3) (v : Reg80) : (n.setReg k v).sw = n.sw := (n.setReg_frame k v).1
@[simp] theorem Npx.top_setReg (n : Npx) (k : BitVec 3) (v : Reg80) : (n.setReg k v).top = n.top :=
  congrArg StatusWord.top (n.sw_setReg k v)
@[simp] theorem Npx.tag_setReg (n : Npx) (k j : BitVec 3) (v : Reg80) : (n.setReg k v).tag j = n.tag j := by
  unfold Npx.tag
  rw [(n.setReg_frame k v).2]

/-- The tags that a tag word is made of, read back. -/
theorem tagWord_extract (f : BitVec 3 → BitVec 2) (j : BitVec 3) : (tagWord f).extractLsb' (2 * j.toNat) 2 = f j := by
  apply BitVec.eq_of_getLsbD_eq
  intro i hi
  unfold tagWord
  simp only [BitVec.getLsbD_extractLsb', BitVec.getLsbD_append]
  rcases regNumber_cases j with rfl | rfl | rfl | rfl | rfl | rfl | rfl | rfl <;> interval_cases i <;> simp

@[simp] theorem Npx.tag_setTag (n : Npx) (k j : BitVec 3) (t : BitVec 2) :
    (n.setTag k t).tag j = if j = k then t else n.tag j := by
  show (tagWord fun l => if l = k then t else n.tag l).extractLsb' (2 * j.toNat) 2 = _
  rw [tagWord_extract]
@[simp] theorem Npx.reg_setTag (n : Npx) (k j : BitVec 3) (t : BitVec 2) : (n.setTag k t).reg j = n.reg j := rfl
@[simp] theorem Npx.sw_setTag (n : Npx) (k : BitVec 3) (t : BitVec 2) : (n.setTag k t).sw = n.sw := rfl
@[simp] theorem Npx.top_setTag (n : Npx) (k : BitVec 3) (t : BitVec 2) : (n.setTag k t).top = n.top := rfl

@[simp] theorem Npx.reg_setTop (n : Npx) (t k : BitVec 3) : (n.setTop t).reg k = n.reg k := rfl
@[simp] theorem Npx.tag_setTop (n : Npx) (t k : BitVec 3) : (n.setTop t).tag k = n.tag k := rfl
@[simp] theorem Npx.top_setTop (n : Npx) (t : BitVec 3) : (n.setTop t).top = t := rfl

@[simp] theorem Npx.reg_put (n : Npx) (k j : BitVec 3) (v : Reg80) :
    (n.put k v).reg j = if j = k then v else n.reg j := n.reg_setReg k j v
@[simp] theorem Npx.tag_put (n : Npx) (k j : BitVec 3) (v : Reg80) :
    (n.put k v).tag j = if j = k then tagOf v else n.tag j := by simp [Npx.put]
@[simp] theorem Npx.top_put (n : Npx) (k : BitVec 3) (v : Reg80) : (n.put k v).top = n.top := n.top_setReg k v

/-! ### Push, pop, exchange -/

@[simp] theorem Npx.top_push (n : Npx) (v : Reg80) : (n.push v).top = n.top - 1 := by simp [Npx.push]
theorem Npx.reg_push (n : Npx) (v : Reg80) (k : BitVec 3) :
    (n.push v).reg k = if k = n.top - 1 then v else n.reg k := by simp [Npx.push]
theorem Npx.tag_push (n : Npx) (v : Reg80) (k : BitVec 3) :
    (n.push v).tag k = if k = n.top - 1 then tagOf v else n.tag k := by simp [Npx.push]

@[simp] theorem Npx.top_pop (n : Npx) : n.pop.top = n.top + 1 := rfl
@[simp] theorem Npx.reg_pop (n : Npx) (k : BitVec 3) : n.pop.reg k = n.reg k := rfl
theorem Npx.tag_pop (n : Npx) (k : BitVec 3) : n.pop.tag k = if k = n.top then 3 else n.tag k := by simp [Npx.pop]

@[simp] theorem Npx.sw_swap (n : Npx) (j k : BitVec 3) : (n.swap j k).sw = n.sw := by simp [Npx.swap]
theorem Npx.reg_swap (n : Npx) (j k l : BitVec 3) :
    (n.swap j k).reg l = if l = k then n.reg j else if l = j then n.reg k else n.reg l := by simp [Npx.swap]
theorem Npx.tag_swap (n : Npx) (j k l : BitVec 3) :
    (n.swap j k).tag l = if l = k then n.tag j else if l = j then n.tag k else n.tag l := by simp [Npx.swap]

/-- Each of the two registers gets the contents and the tag of the other, one register with itself included. -/
theorem Npx.swap_left (n : Npx) (j k : BitVec 3) : (n.swap j k).reg j = n.reg k ∧ (n.swap j k).tag j = n.tag k := by
  rw [Npx.reg_swap, Npx.tag_swap]
  by_cases h : j = k
  · rw [if_pos h, if_pos h, h]
    exact ⟨rfl, rfl⟩
  · rw [if_neg h, if_neg h, if_pos rfl, if_pos rfl]
    exact ⟨rfl, rfl⟩

theorem Npx.swap_right (n : Npx) (j k : BitVec 3) : (n.swap j k).reg k = n.reg j ∧ (n.swap j k).tag k = n.tag j := by
  rw [Npx.reg_swap, Npx.tag_swap, if_pos rfl, if_pos rfl]
  exact ⟨rfl, rfl⟩

theorem Npx.swap_other (n : Npx) {j k l : BitVec 3} (hj : l ≠ j) (hk : l ≠ k) :
    (n.swap j k).reg l = n.reg l ∧ (n.swap j k).tag l = n.tag l := by
  rw [Npx.reg_swap, Npx.tag_swap, if_neg hk, if_neg hj, if_neg hk, if_neg hj]
  exact ⟨rfl, rfl⟩

/-- A register that is not empty keeps its contents. -/
theorem Npx.fill_full {n : Npx} {k : BitVec 3} (h : n.empty k = false) : n.fill k = n := by simp [Npx.fill, h]

/-! ### How the stack operations run -/

/-- Signal(e): the flag is set, and an unmasked exception ends the operation (48_npx_architecture.md R573, R581). -/
theorem N.runFrom_signal (e : NumExc) (n : Npx) (u : Nat) :
    (signal e).runFrom n u = (if n.masked e then some () else none, ⟨n.flag e, u⟩) := by
  have hm : (n.flag e).masked e = n.masked e := rfl
  unfold signal
  simp only [N.runFrom_bind, N.runFrom_changeNpx, N.runFrom_theNpx, hm]
  split <;> rfl

/-- The stack test of a push: room, or the invalid operation (48_npx_architecture.md R552). -/
theorem N.runFrom_stackRoom (n : Npx) (u : Nat) :
    stackRoom.runFrom n u =
      if n.empty (n.top - 1) then (some true, ⟨n, u⟩)
      else (if n.masked .invalid then some false else none, ⟨n.flag .invalid, u⟩) := by
  unfold stackRoom
  simp only [N.runFrom_bind, N.runFrom_theNpx, Npx.pushOverflows]
  by_cases he : n.empty (n.top - 1) = true
  · simp only [he, Bool.not_true, Bool.false_eq_true, if_false, if_true]
    rfl
  · simp only [he, Bool.not_false, if_true, N.runFrom_bind, N.runFrom_signal]
    by_cases hm : n.masked .invalid = true <;> simp only [hm] <;> rfl

theorem N.runFrom_pushST (v : Reg80) (n : Npx) (u : Nat) :
    (pushST v).runFrom n u =
      if n.empty (n.top - 1) then (some (), ⟨n.push v, u⟩)
      else if n.masked .invalid then (some (), ⟨(n.flag .invalid).push realIndefinite, u⟩)
      else (none, ⟨n.flag .invalid, u⟩) := by
  unfold pushST
  rw [N.runFrom_bind, N.runFrom_stackRoom]
  cases n.empty (n.top - 1)
  · cases n.masked .invalid <;> rfl
  · rfl

/-- A masked read of an empty register answers real indefinite (49_npx_instructions.md R624). -/
theorem N.runFrom_source_empty {n : Npx} {i : BitVec 3} (u : Nat) (he : n.empty (n.phys i) = true)
    (hm : n.masked .invalid = true) : (source i).runFrom n u = (some realIndefinite, ⟨n.flag .invalid, u⟩) := by
  unfold source
  simp only [N.runFrom_bind, N.runFrom_theNpx, he, if_true, N.runFrom_signal, hm, N.runFrom_pure]

/-- FXCH of two registers that are not empty (49_npx_instructions.md R628). -/
theorem N.runFrom_exchange_full {n : Npx} {i : BitVec 3} (u : Nat) (ht : n.empty n.top = false)
    (hi : n.empty (n.phys i) = false) : (exchange i).runFrom n u = (some (), ⟨n.swap n.top (n.phys i), u⟩) := by
  unfold exchange signalIf
  simp only [N.runFrom_bind, N.runFrom_theNpx, ht, hi, Bool.or_self, Bool.false_eq_true, if_false, N.runFrom_pure,
    N.runFrom_changeNpx, Npx.fill_full ht, Npx.fill_full hi]

end Sys2Proof.Machine

open Sys2Proof.Machine

/-- Settles O59: the runs of the stack operations, and the laws of push, pop and exchange. -/
theorem registerStack : Obligations.RegisterStack := by
  intro n u v
  refine ⟨fun he => ?_, fun he hm => ?_, fun he hm => ?_, ⟨n.top_push v, ?_, ?_, fun k hk => ?_⟩,
    ⟨n.top_pop, ?_, fun k => ⟨n.reg_pop k, fun hk => ?_⟩⟩, fun i he hm => N.runFrom_source_empty u he hm,
    fun i ht hi => ⟨_, N.runFrom_exchange_full u ht hi, ?_⟩⟩
  · rw [N.runFrom_pushST, if_pos he]
  · rw [N.runFrom_pushST, if_neg (Bool.eq_false_iff.mp he), if_pos hm]
  · rw [N.runFrom_pushST, if_neg (Bool.eq_false_iff.mp he), if_neg (Bool.eq_false_iff.mp hm)]
  · rw [Npx.reg_push, if_pos (n.top_push v)]
  · rw [Npx.tag_push, if_pos (n.top_push v)]
  · rw [Npx.reg_push, Npx.tag_push, if_neg hk, if_neg hk]
    exact ⟨rfl, rfl⟩
  · simp [Npx.empty, Npx.tag_pop]
  · simp [Npx.tag_pop, hk]
  · obtain ⟨regTop, tagTop⟩ := n.swap_left n.top (n.phys i)
    obtain ⟨regOther, tagOther⟩ := n.swap_right n.top (n.phys i)
    exact ⟨regTop, regOther, tagTop, tagOther, n.sw_swap _ _, fun k => n.swap_other⟩

end

section
/-! SUPPORT. How the pushes run: one after the other, and the test of PUSHA (20_memory.md R124 to R127). -/

namespace Sys2Proof.Machine

/-- An instruction completes: LOCK before it is allowed, if it stands there, and its rule `body` runs to its end. -/
theorem exec_completes {i : Instr} {body : M Unit} {s t : State} (hi : exec i s = runInstr body s)
    (hl : s.lockOk = true) (h : body.run s = .ok () t) : exec i s = .next t.done := by
  rw [hi]
  exact runInstr_ok hl h

/-! ### A run of pushes -/

/-- A push that can be made (20_memory.md R124). -/
theorem push16_pushOk {s : State} (v : Word) (h : s.pushOk = true) : (push16 v).run s = .ok () (s.pushed v) := by
  unfold State.pushOk at h
  rw [Bool.and_eq_true, Bool.not_eq_true'] at h
  exact push16_ok v h.1 h.2

/-- What is pushed is read before SP changes (40_data_movement.md R238, R240, R247). -/
theorem pushReg_run (r : Reg16) (s : State) : (pushReg r).run s = (push16 (s.reg16 r)).run s := run_get_bind _ _
theorem pushSeg_run (r : SegReg) (s : State) : (pushSeg r).run s = (push16 (s.seg r).sel).run s := run_get_bind _ _
theorem pushFlags_run (s : State) : pushFlags.run s = (push16 s.flags.word).run s := run_get_bind _ _

/-- Words can be pushed one after the other if the first can, and the others after it. -/
theorem pushesOk_succ (s : State) (k : Nat) (v : Word) :
    s.pushesOk (k + 1) = (s.pushOk && (s.pushed v).pushesOk k) := by
  have next : ∀ i : Nat, (s.pushed v).gpr.sp - BitVec.ofNat 16 i = s.gpr.sp - BitVec.ofNat 16 (i + 2) := fun i => by
    show s.gpr.sp - 2 - BitVec.ofNat 16 i = _
    bv_omega
  unfold State.pushesOk
  rw [List.range_succ_eq_map, List.all_cons, List.all_map]
  congr 1
  · simp [State.pushOk]
  · refine congrArg (List.all _) (funext fun i => ?_)
    simp only [Function.comp, next]
    rfl

theorem pushOk_of_pushesOk {s : State} {k : Nat} (h : s.pushesOk (k + 1) = true) : s.pushOk = true := by
  rw [pushesOk_succ s k 0, Bool.and_eq_true] at h
  exact h.1

theorem pushesOk_pushed {s : State} {k : Nat} (v : Word) (h : s.pushesOk (k + 1) = true) :
    (s.pushed v).pushesOk k = true := by
  rw [pushesOk_succ s k v, Bool.and_eq_true] at h
  exact h.2

/-- The first of a run of pushes. -/
theorem push16_bind {α : Type} {s : State} {k : Nat} (v : Word) (f : Unit → M α) (h : s.pushesOk (k + 1) = true) :
    (push16 v >>= f).run s = (f ()).run (s.pushed v) :=
  run_bind_ok (push16_pushOk v (pushOk_of_pushesOk h))

/-- What a read leaves does not matter to a push. -/
theorem read16_pushOk (s : State) (d : Rm Reg16) : (s.read16 d).pushOk = s.pushOk := by
  cases d <;> rfl

/-! ### PUSHA -/

/-- The test of PUSHA passes: the whole block fits, or SP splits no word of it (40_data_movement.md R245). -/
theorem checkPusha_ok {s : State} (hp : s.pe = true → s.stackRoom 16 = true)
    (hr : s.pe = false → s.gpr.sp.toNat % 2 = 0 ∨ 16 ≤ s.gpr.sp.toNat) : checkPusha.run s = .ok () s := by
  unfold checkPusha
  rw [run_get_bind, run_ite]
  by_cases hpe : s.pe = true
  · rw [if_pos hpe]
    unfold checkStackRoom
    rw [run_get_bind, hp hpe, require_true]
  · have hsp := hr (by simpa using hpe)
    have notSplit : (s.gpr.sp == 1 || s.gpr.sp == 3 || s.gpr.sp == 5) = false := by
      simp only [Bool.or_eq_false_iff, beq_eq_false_iff_ne]
      refine ⟨⟨?_, ?_⟩, ?_⟩ <;> intro h <;> rw [h] at hsp <;> simp at hsp
    have whole : (s.gpr.sp.getLsbD 0 && decide (s.gpr.sp.toNat < 16)) = false := by
      have odd : s.gpr.sp.getLsbD 0 = decide (s.gpr.sp.toNat % 2 = 1) := by
        rw [BitVec.getLsbD, Nat.testBit_zero]
      rw [odd, ← Bool.decide_and, decide_eq_false_iff_not]
      omega
    rw [if_neg hpe, run_ite, notSplit, if_neg Bool.false_ne_true, whole]
    rfl

theorem pushAll_run {s : State} (h : s.pushesOk 8 = true) (hp : s.pe = true → s.stackRoom 16 = true)
    (hr : s.pe = false → s.gpr.sp.toNat % 2 = 0 ∨ 16 ≤ s.gpr.sp.toNat) :
    pushAll.run s = .ok () ((((((((s.pushed s.gpr.ax).pushed s.gpr.cx).pushed s.gpr.dx).pushed s.gpr.bx).pushed
      s.gpr.sp).pushed s.gpr.bp).pushed s.gpr.si).pushed s.gpr.di) := by
  have h7 := pushesOk_pushed s.gpr.ax h
  have h6 := pushesOk_pushed s.gpr.cx h7
  have h5 := pushesOk_pushed s.gpr.dx h6
  have h4 := pushesOk_pushed s.gpr.bx h5
  have h3 := pushesOk_pushed s.gpr.sp h4
  have h2 := pushesOk_pushed s.gpr.bp h3
  have h1 := pushesOk_pushed s.gpr.si h2
  unfold pushAll
  rw [run_get_bind, run_bind_ok (checkPusha_ok hp hr), push16_bind _ _ h, push16_bind _ _ h7, push16_bind _ _ h6,
    push16_bind _ _ h5, push16_bind _ _ h4, push16_bind _ _ h3, push16_bind _ _ h2,
    push16_pushOk _ (pushOk_of_pushesOk h1)]

/-! ### The image of FLAGS -/

/-- Bit vectors side by side, as numbers. -/
theorem toNat_append_eq_add {m n : Nat} (x : BitVec m) (y : BitVec n) : (x ++ y).toNat = x.toNat * 2 ^ n + y.toNat := by
  rw [BitVec.toNat_append, ← Nat.shiftLeft_add_eq_or_of_lt y.isLt, Nat.shiftLeft_eq]

/-- The image of FLAGS by the weight of each field (10_state.md R26). -/
theorem FlagsReg.word_toNat (r : FlagsReg) :
    r.word.toNat = 2 + r.cf.toNat + 4 * r.pf.toNat + 16 * r.af.toNat + 64 * r.zf.toNat + 128 * r.sf.toNat +
      256 * r.tf.toNat + 512 * r.if_.toNat + 1024 * r.df.toNat + 2048 * r.of.toNat + 4096 * r.iopl.toNat +
      16384 * r.nt.toNat := by
  unfold FlagsReg.word
  simp only [toNat_append_eq_add, BitVec.toNat_ofBool, BitVec.reduceToNat]
  omega

end Sys2Proof.Machine

open Sys2Proof Sys2Proof.Machine

/-- Settles O27: each form pushes the value that it reads from the state it begins in. -/
theorem pushes : Obligations.Pushes := by
  intro s hl h1
  have hpush : s.pushOk = true := pushOk_of_pushesOk h1
  have one : ∀ v, (push16 v).run s = .ok () (s.pushed v) := fun v => push16_pushOk v hpush
  have seg : ∀ r, (pushSeg r).run s = .ok () (s.pushed (s.seg r).sel) := fun r => (pushSeg_run r s).trans (one _)
  refine ⟨fun r => exec_completes rfl hl ((pushReg_run r s).trans (one _)), exec_completes rfl hl (seg .es),
    exec_completes rfl hl (seg .cs), exec_completes rfl hl (seg .ss), exec_completes rfl hl (seg .ds),
    fun imm => exec_completes rfl hl (one imm), fun imm => exec_completes rfl hl (one _), fun d hd => ?_,
    exec_completes rfl hl ((pushFlags_run s).trans (one _)), s.flags.word_toNat,
    fun h8 hp hr => exec_completes rfl hl (pushAll_run h8 hp hr)⟩
  have operand : (pushRm d).run s = .ok () ((s.read16 d).pushed (s.val16 d)) := by
    unfold pushRm
    rw [run_bind_ok (rd16_run d s hd)]
    exact push16_pushOk _ ((read16_pushOk s d).trans hpush)
  exact exec_completes rfl hl operand

end

section
/-! SUPPORT. What an instruction can do: it runs its rule, or it is one of the bytes that go before another instruction;
so it answers a next state and keeps what its rule keeps. -/

namespace Sys2Proof.Machine

/-! ### The two forms of an instruction -/

/-- The instruction is a byte that goes before another (30_encoding.md R182): it changes the prefixes read so far, and counts as one more of them. -/
def PrefixByte (i : Instr) : Prop :=
  ∀ s, ∃ p : Prefixes, exec i s = .next { s with pfx := p } ∧ p.count = s.pfx.count + 1

/-- An instruction runs a rule, or it is a byte that goes before another. -/
theorem exec_cases (i : Instr) :
    (∃ body, ∀ s, exec i s = runInstr body s) ∨ PrefixByte i := by
  cases i
  case pfxEs | pfxCs | pfxSs | pfxDs | pfxLock | pfxRepne | pfxRep =>
    exact .inr fun _ => ⟨_, rfl, rfl⟩
  all_goals exact .inl ⟨_, fun _ => rfl⟩

/-- Every instruction answers a next state. -/
theorem exec_next (i : Instr) (s : State) : ∃ t, exec i s = .next t := by
  rcases exec_cases i with ⟨body, h⟩ | h
  · rw [h]
    exact runInstr_next body s
  · obtain ⟨p, hp, -⟩ := h s
    exact ⟨_, hp⟩

/-! ### What an instruction keeps -/

/-- Whatever the instruction does, the property still holds. -/
def KeptBy (P : State → Prop) (i : Instr) : Prop := ∀ s t, P s → exec i s = .next t → P t

/-- An instruction keeps what its rule keeps: exceptions are delivered, and that keeps a closed property. -/
theorem Closed.keptBy {P : State → Prop} (h : Closed P) {i : Instr} {body : M Unit}
    (hi : ∀ s, exec i s = Machine.runInstr body s) (hb : Keeps P body) : KeptBy P i :=
  fun s _ hs ht => h.runInstr hb hs ((hi s).symm.trans ht)

/-- A byte that goes before an instruction changes nothing but the prefixes read so far. -/
theorem PrefixByte.keptBy {P : State → Prop} (hpfx : ∀ s p, P s → P { s with pfx := p }) {i : Instr}
    (hi : PrefixByte i) : KeptBy P i := by
  intro s t hs ht
  obtain ⟨p, hp, -⟩ := hi s
  rw [hp] at ht
  injection ht with ht
  exact ht ▸ hpfx s _ hs

/-- The first byte of a reserved ESC encoding is D8H to DFH as well. -/
theorem isEsc_escReserved (x g : BitVec 3) (d : Rm (BitVec 3)) : isEsc (.escReserved x g d) = true := by
  have first : ∀ x : BitVec 3, (((27 : BitVec 5) ++ x).extractLsb' 3 5 == 0b11011) = true := by decide
  exact first x

/-- Closed under the updates of the CPU, LMSW and CLTS among them (47_system_control.md R500, R502). -/
structure ClosedCpu (P : State → Prop) : Prop extends Closed P where
  lmsw : ∀ s (v : Word), P s → P { s with msw := (s.msw &&& 0xFFF1) ||| (v &&& 0x000F) }
  clts : ∀ s, P s → P { s with msw := withBit s.msw 3 false }

namespace ClosedCpu

variable {P : State → Prop}

theorem loadMsw (h : ClosedCpu P) (d : Rm Reg16) : Keeps P (Machine.loadMsw d) :=
  Keeps.bind h.privileged fun _ => Keeps.bind (h.rd16 d) fun v => Keeps.mod fun s hs => h.lmsw s v hs

theorem clearTaskSwitched (h : ClosedCpu P) : Keeps P Machine.clearTaskSwitched :=
  Keeps.bind h.privileged fun _ => Keeps.mod fun s hs => h.clts s hs

/-- Every instruction of the CPU keeps a closed property, if the bytes that go before an instruction do: family by family,
its rule is put together from operations that keep it. -/
theorem keptBy_cpu (h : ClosedCpu P) (i : Instr) (he : isEsc i = false)
    (hp : PrefixByte i → KeptBy P i) : KeptBy P i := by
  cases i
  case pfxEs | pfxCs | pfxSs | pfxDs | pfxLock | pfxRepne | pfxRep => exact hp fun _ => ⟨_, rfl, rfl⟩
  case escReserved => exact absurd ((isEsc_escReserved _ _ _).symm.trans he) (by decide)
  all_goals first | exact Bool.noConfusion he | refine h.keptBy (fun _ => rfl) ?_
  -- Arithmetic
  case addEbRb => exact h.ebRb h.nothingLost h.opAdd _ _
  case addEwRw => exact h.ewRw h.nothingLost h.opAdd _ _
  case addRbEb => exact h.rbEb h.opAdd _ _
  case addRwEw => exact h.rwEw h.opAdd _ _
  case addAlDb | addEbDb => exact h.ebDb h.nothingLost h.opAdd _ _
  case addAxDw | addEwDw | addEwDb => exact h.ewDw h.nothingLost h.opAdd _ _
  case adcEbRb => exact h.ebRb h.carryLost h.opAdc _ _
  case adcEwRw => exact h.ewRw h.carryLost h.opAdc _ _
  case adcRbEb => exact h.rbEb h.opAdc _ _
  case adcRwEw => exact h.rwEw h.opAdc _ _
  case adcAlDb => exact h.ebDb h.nothingLost h.opAdc _ _
  case adcAxDw => exact h.ewDw h.nothingLost h.opAdc _ _
  case adcEbDb => exact h.ebDb h.carryLost h.opAdc _ _
  case adcEwDw | adcEwDb => exact h.ewDw h.carryLost h.opAdc _ _
  case subEbRb => exact h.ebRb h.nothingLost h.opSub _ _
  case subEwRw => exact h.ewRw h.nothingLost h.opSub _ _
  case subRbEb => exact h.rbEb h.opSub _ _
  case subRwEw => exact h.rwEw h.opSub _ _
  case subAlDb | subEbDb => exact h.ebDb h.nothingLost h.opSub _ _
  case subAxDw | subEwDw | subEwDb => exact h.ewDw h.nothingLost h.opSub _ _
  case sbbEbRb => exact h.ebRb h.carryLost h.opSbb _ _
  case sbbEwRw => exact h.ewRw h.carryLost h.opSbb _ _
  case sbbRbEb => exact h.rbEb h.opSbb _ _
  case sbbRwEw => exact h.rwEw h.opSbb _ _
  case sbbAlDb => exact h.ebDb h.nothingLost h.opSbb _ _
  case sbbAxDw => exact h.ewDw h.nothingLost h.opSbb _ _
  case sbbEbDb => exact h.ebDb h.carryLost h.opSbb _ _
  case sbbEwDw | sbbEwDb => exact h.ewDw h.carryLost h.opSbb _ _
  case cmpEbRb => exact h.cmpEbRb h.opCmp _ _
  case cmpEwRw => exact h.cmpEwRw h.opCmp _ _
  case cmpRbEb => exact h.cmpRbEb h.opCmp _ _
  case cmpRwEw => exact h.cmpRwEw h.opCmp _ _
  case cmpAlDb | cmpEbDb => exact h.cmpEbDb h.opCmp _ _
  case cmpAxDw | cmpEwDw | cmpEwDb => exact h.cmpEwDw h.opCmp _ _
  case incRw | incEw => exact h.modify16 h.nothingLost h.opInc _
  case incEb => exact h.modify8 h.nothingLost h.opInc _
  case decRw | decEw => exact h.modify16 h.nothingLost h.opDec _
  case decEb => exact h.modify8 h.nothingLost h.opDec _
  case negEb => exact h.modify8 h.nothingLost h.opNeg _
  case negEw => exact h.modify16 h.nothingLost h.opNeg _
  case daa | das => exact h.decimalAdjust _
  case aaa | aas => exact h.asciiAdjust _
  case imulRwEwDw | imulRwEwDb => exact h.imulImm _ _ _
  case aam => exact h.asciiMul
  case aad => exact h.asciiDiv
  case mulEb => exact h.mul8 _
  case imulEb => exact h.imul8 _
  case divEb => exact h.div8 _
  case idivEb => exact h.idiv8 _
  case mulEw => exact h.mul16 _
  case imulEw => exact h.imul16 _
  case divEw => exact h.div16 _
  case idivEw => exact h.idiv16 _
  -- Logic, shifts and rotates
  case andEbRb => exact h.ebRb h.nothingLost h.opAnd _ _
  case andEwRw => exact h.ewRw h.nothingLost h.opAnd _ _
  case andRbEb => exact h.rbEb h.opAnd _ _
  case andRwEw => exact h.rwEw h.opAnd _ _
  case andAlDb | andEbDb => exact h.ebDb h.nothingLost h.opAnd _ _
  case andAxDw | andEwDw => exact h.ewDw h.nothingLost h.opAnd _ _
  case orEbRb => exact h.ebRb h.nothingLost h.opOr _ _
  case orEwRw => exact h.ewRw h.nothingLost h.opOr _ _
  case orRbEb => exact h.rbEb h.opOr _ _
  case orRwEw => exact h.rwEw h.opOr _ _
  case orAlDb | orEbDb => exact h.ebDb h.nothingLost h.opOr _ _
  case orAxDw | orEwDw => exact h.ewDw h.nothingLost h.opOr _ _
  case xorEbRb => exact h.ebRb h.nothingLost h.opXor _ _
  case xorEwRw => exact h.ewRw h.nothingLost h.opXor _ _
  case xorRbEb => exact h.rbEb h.opXor _ _
  case xorRwEw => exact h.rwEw h.opXor _ _
  case xorAlDb | xorEbDb => exact h.ebDb h.nothingLost h.opXor _ _
  case xorAxDw | xorEwDw => exact h.ewDw h.nothingLost h.opXor _ _
  case testEbRb => exact h.cmpEbRb h.opTest _ _
  case testEwRw => exact h.cmpEwRw h.opTest _ _
  case testAlDb | testEbDb => exact h.cmpEbDb h.opTest _ _
  case testAxDw | testEwDw => exact h.cmpEwDw h.opTest _ _
  case notEb => exact h.modify8 h.nothingLost h.opNot _
  case notEw => exact h.modify16 h.nothingLost h.opNot _
  case rolEbDb | rorEbDb | rclEbDb | rcrEbDb | salEbDb | shrEbDb | sarEbDb | rolEb1 | rorEb1 | rclEb1 | rcrEb1 |
      salEb1 | shrEb1 | sarEb1 => exact h.shift8 _ _ _
  case rolEwDb | rorEwDb | rclEwDb | rcrEwDb | salEwDb | shrEwDb | sarEwDb | rolEw1 | rorEw1 | rclEw1 | rcrEw1 |
      salEw1 | shrEw1 | sarEw1 => exact h.shift16 _ _ _
  case rolEbCl | rorEbCl | rclEbCl | rcrEbCl | salEbCl | shrEbCl | sarEbCl => exact h.shiftCl8 _ _
  case rolEwCl | rorEwCl | rclEwCl | rcrEwCl | salEwCl | shrEwCl | sarEwCl => exact h.shiftCl16 _ _
  -- Control transfer
  case joCb | jnoCb | jbCb | jnbCb | jeCb | jneCb | jbeCb | jnbeCb | jsCb | jnsCb | jpCb | jnpCb | jlCb | jnlCb |
      jleCb | jnleCb | jcxzCb => exact h.jumpIf _ _
  case callCd => exact h.callFar _ _
  case retNearDw | retNear => exact h.nearRet _
  case retFarDw | retFar => exact h.retFar _
  case int3 | intDb => exact h.softInt _
  case into => exact h.intOnOverflow
  case iret => exact h.iret
  case loopneCb | loopeCb | loopCb => exact h.loopIf _ _
  case callCw => exact h.callRel16 _
  case jmpCw => exact h.jumpRel16 _
  case jmpCd => exact h.jumpFar _ _
  case jmpCb => exact h.jumpRel8 _
  case callEw => exact h.nearCallRm _
  case callEd => exact h.throughPointer h.callFar _
  case jmpEw => exact h.nearJumpRm _
  case jmpEd => exact h.throughPointer h.jumpFar _
  -- Data movement
  case pushEs | pushCs | pushSs | pushDs => exact h.pushSeg _
  case popEs | popDs => exact h.popSeg _
  case popSs => exact Keeps.bind (h.popSeg _) fun _ => h.inhibitNext
  case pushRw => exact h.pushReg _
  case popRw => exact h.popReg _
  case pusha => exact h.pushAll
  case popa => exact h.popAll
  case pushDw | pushDb => exact h.push16 _
  case xchgEbRb => exact h.exchange8 _ _
  case xchgEwRw => exact h.exchange16 _ _
  case movEbRb => exact h.movToRm8 _ _
  case movEwRw => exact h.movToRm16 _ _
  case movRbEb => exact h.movFromRm8 _ _
  case movRwEw => exact h.movFromRm16 _ _
  case movEwSreg => exact h.storeSeg _ _
  case leaRwM | cbw | cwd | movRwDw => exact Keeps.mod fun _ hs => h.reg16 _ _ hs
  case movEsEw | movDsEw => exact h.movSeg _ _
  case movSsEw => exact Keeps.bind (h.movSeg _ _) fun _ => h.inhibitNext
  case popMw => exact h.popRm _
  case xchgAxRw => exact h.exchangeAx _
  case pushf => exact h.pushFlags
  case popf => exact h.popFlagsWord
  case sahf => exact h.storeAh
  case lahf | movRbDb => exact Keeps.mod fun _ hs => h.reg8 _ _ hs
  case movAlXb => exact h.loadDirect8 _
  case movAxXw => exact h.loadDirect16 _
  case movXbAl => exact h.storeDirect8 _
  case movXwAx => exact h.storeDirect16 _
  case lesRwEd | ldsRwEd => exact h.loadPointer _ _ _
  case movEbDb => exact h.wr8 _ _
  case movEwDw => exact h.wr16 _ _
  case xlat => exact h.translate
  case pushMw => exact h.pushRm _
  -- Strings
  case insb => exact h.repeated _ _ h.ins8
  case insw => exact h.repeated _ _ h.ins16
  case outsb => exact h.repeated _ _ h.outs8
  case outsw => exact h.repeated _ _ h.outs16
  case movsb => exact h.repeated _ _ h.movs8
  case movsw => exact h.repeated _ _ h.movs16
  case cmpsb => exact h.repeated _ _ h.cmps8
  case cmpsw => exact h.repeated _ _ h.cmps16
  case stosb => exact h.repeated _ _ h.stos8
  case stosw => exact h.repeated _ _ h.stos16
  case lodsb => exact h.repeated _ _ h.lods8
  case lodsw => exact h.repeated _ _ h.lods16
  case scasb => exact h.repeated _ _ h.scas8
  case scasw => exact h.repeated _ _ h.scas16
  -- Flags, I/O, ENTER, LEAVE, BOUND
  case boundRwMd => exact h.bound _ _
  case nop => exact Keeps.pure _
  case wait => exact h.waitNpx
  case enterDwDb => exact h.enter _ _
  case leave => exact h.leaveFrame
  case inAlDb => exact h.inByte _
  case inAxDb => exact h.inWord _
  case outDbAl => exact h.outByte _
  case outDbAx => exact h.outWord _
  case inAlDx => exact h.withDx h.inByte
  case inAxDx => exact h.withDx h.inWord
  case outDxAl => exact h.withDx h.outByte
  case outDxAx => exact h.withDx h.outWord
  case hlt => exact h.halt
  case cmc => exact Keeps.mod fun _ hs => h.flag _ _ _ hs
  case clc | stc | cld | std => exact h.flagTo _ _
  case cli => exact Keeps.bind h.ioPriv fun _ => h.flagTo _ _
  case sti => exact h.enableInterrupts
  -- System control
  case sldtEw => exact h.storeLocalTable _
  case strEw => exact h.storeTask _
  case lldtEw => exact h.loadLocalTable _
  case ltrEw => exact h.loadTask _
  case verrEw => exact h.verifyRead _
  case verwEw => exact h.verifyWrite _
  case sgdtM => exact h.storeGdtr _
  case sidtM => exact h.storeIdtr _
  case lgdtM => exact h.loadGdtr _
  case lidtM => exact h.loadIdtr _
  case smswEw => exact h.storeMsw _
  case lmswEw => exact h.loadMsw _
  case larRwEw => exact h.loadRights _ _
  case lslRwEw => exact h.loadLimit _ _
  case clts => exact h.clearTaskSwitched
  case arplEwRw => exact h.adjust _ _

end ClosedCpu

end Sys2Proof.Machine
end

section
/-! SUPPORT. What a step keeps: a property closed under every update of CPU and 80287 is kept by the ESC instructions
too, by the boundary and the fetch, and so by a whole step that no RESET ends. -/

namespace Sys2Proof.Machine

/-- Closed under every update but that of RESET: of the CPU, of the 80287, whatever it holds, of the prefixes read so
far, and of what a step keeps of its own. -/
structure ClosedMachine (P : State → Prop) : Prop extends ClosedCpu P where
  npx : ∀ s n, P s → P { s with npx := n }
  pfx : ∀ s p, P s → P { s with pfx := p }
  stepped : ∀ s n, P s → P { s with clock := n, bus := [] }
  boundary : ∀ s b, P s → P { s with boundaryDone := b }

namespace ClosedMachine

variable {P : State → Prop} {α : Type}

/-! ### ESC instructions -/

theorem numeric (h : ClosedMachine P) (x : N α) : Keeps P (Machine.numeric x) :=
  Keeps.get_bind' fun s hs => Keeps.set_bind (h.drawn _ (h.npx s (x.runFrom s.npx s.undef).2.npx hs)) (Keeps.pure _)

theorem escTest (_h : ClosedMachine P) (c : Bool) : Keeps P (Machine.escTest c) :=
  Keeps.get_bind fun _ => Keeps.bind (Keeps.require _ _) fun _ => Keeps.require _ _

theorem whenPresent (_h : ClosedMachine P) {x : M Unit} (hx : Keeps P x) : Keeps P (Machine.whenPresent x) :=
  Keeps.get_bind fun _ => Keeps.ite hx (Keeps.pure _)

theorem latch (h : ClosedMachine P) (op : BitVec 11) (m : Option Ea) : Keeps P (modify fun s => s.latch op m) :=
  Keeps.mod fun s hs => by cases m <;> exact h.npx s _ hs

theorem overrun (h : ClosedMachine P) : Keeps P (Machine.overrun : M α) :=
  Keeps.bind (h.numeric _) fun _ => Keeps.raise _

theorem getWords (h : ClosedMachine P) (r : SegReg) : ∀ k off, Keeps P (Machine.getWords r k off)
  | 0, _ => Keeps.pure _
  | k + 1, _ => Keeps.get_bind fun _ => Keeps.ite
    (Keeps.bind (h.load16 _) fun _ => Keeps.bind (h.getWords r k _) fun _ => Keeps.pure _) h.overrun

theorem putWords (h : ClosedMachine P) (r : SegReg) : ∀ off ws, Keeps P (Machine.putWords r off ws)
  | _, [] => Keeps.pure _
  | _, _ :: rest => Keeps.get_bind fun _ => Keeps.ite
    (Keeps.bind (Keeps.mod fun _ hs => h.mem16 _ _ _ hs) fun _ => h.putWords r _ rest) h.overrun

theorem escReg (h : ClosedMachine P) (op : BitVec 11) (x : N Unit) : Keeps P (Machine.escReg op x) :=
  Keeps.bind (h.escTest _) fun _ => h.whenPresent <| Keeps.bind (h.latch _ _) fun _ =>
    Keeps.bind (h.numeric _) fun _ => Keeps.pure _

theorem escLoad (h : ClosedMachine P) (op : BitVec 11) (ea : Ea) (k : Nat) (x : Nat → N Unit) :
    Keeps P (Machine.escLoad op ea k x) :=
  Keeps.bind (h.escTest _) fun _ => Keeps.get_bind fun _ => Keeps.bind (h.checkRead _ _ _) fun _ => h.whenPresent <|
    Keeps.bind (h.latch _ _) fun _ => Keeps.bind (h.getWords _ _ _) fun _ =>
    Keeps.bind (h.numeric _) fun _ => Keeps.pure _

theorem escStore (h : ClosedMachine P) (op : BitVec 11) (ea : Ea) (k : Nat) (x : N Nat) :
    Keeps P (Machine.escStore op ea k x) := by
  refine Keeps.bind (h.escTest _) fun _ => Keeps.get_bind fun _ => Keeps.bind (h.checkWrite _ _ _) fun _ => ?_
  refine h.whenPresent ?_
  refine Keeps.bind (h.latch _ _) fun _ => Keeps.bind (h.numeric _) fun v => ?_
  cases v with
  | none => exact Keeps.pure _
  | some v => exact h.putWords _ _ _

theorem escControl (h : ClosedMachine P) (c : Bool) (x : N Unit) : Keeps P (Machine.escControl c x) :=
  Keeps.bind (h.escTest _) fun _ => h.whenPresent <| Keeps.bind (h.numeric _) fun _ => Keeps.pure _

theorem escLoadState (h : ClosedMachine P) (ea : Ea) (k : Nat) (f : List Word → Npx → Npx) :
    Keeps P (Machine.escLoadState ea k f) :=
  Keeps.bind (h.escTest _) fun _ => Keeps.get_bind fun _ => Keeps.bind (h.checkRead _ _ _) fun _ => h.whenPresent <|
    Keeps.bind (h.getWords _ _ _) fun _ => Keeps.mod fun s hs => h.npx s _ hs

theorem escStoreState (h : ClosedMachine P) (ea : Ea) (ab : List Word) (im : Npx → List Word) (x : N Unit) :
    Keeps P (Machine.escStoreState ea ab im x) :=
  Keeps.bind (h.escTest _) fun _ => Keeps.get_bind fun _ => Keeps.bind (h.checkWrite _ _ _) fun _ =>
    Keeps.ite (Keeps.bind (h.putWords _ _ _) fun _ => Keeps.bind (h.numeric _) fun _ => Keeps.pure _) (h.putWords _ _ _)

theorem statusToAx (h : ClosedMachine P) : Keeps P Machine.statusToAx :=
  Keeps.bind (h.escTest _) fun _ => Keeps.mod fun _ hs => h.reg16 _ _ hs

/-- An ESC instruction has one of seven shapes, by what it does with memory (48_npx_architecture.md R535). -/
theorem keptBy_esc (h : ClosedMachine P) (i : Instr) (he : isEsc i = true) : KeptBy P i := by
  cases i
  case escReserved => exact h.keptBy (fun _ => rfl) (h.escControl _ _)
  -- A register's number is part of the first byte.
  case incRw r | decRw r | pushRw r | popRw r | xchgAxRw r | movRbDb r _ | movRwDw r _ =>
    cases r <;> exact Bool.noConfusion he
  all_goals first | exact Bool.noConfusion he | refine h.keptBy (fun _ => rfl) ?_
  case faddM32real | fmulM32real | fcomM32real | fcompM32real | fsubM32real | fsubrM32real | fdivM32real |
      fdivrM32real | fldM32real | fiaddM32int | fimulM32int | ficomM32int | ficompM32int | fisubM32int |
      fisubrM32int | fidivM32int | fidivrM32int | fildM32int | fldM80real | faddM64real | fmulM64real | fcomM64real |
      fcompM64real | fsubM64real | fsubrM64real | fdivM64real | fdivrM64real | fldM64real | fiaddM16int |
      fimulM16int | ficomM16int | ficompM16int | fisubM16int | fisubrM16int | fidivM16int | fidivrM16int |
      fildM16int | fbldM80dec | fildM64int => exact h.escLoad _ _ _ _
  case faddStSti | fmulStSti | fcomSti | fcompSti | fsubStSti | fsubrStSti | fdivStSti | fdivrStSti | fldSti |
      fxchSti | fnop | fstpStiD9 | fchs | fabs | ftst | fxam | fld1 | fldl2t | fldl2e | fldpi | fldlg2 | fldln2 |
      fldz | f2xm1 | fyl2x | fptan | fpatan | fxtract | fdecstp | fincstp | fprem | fyl2xp1 | fsqrt | frndint |
      fscale | faddStiSt | fmulStiSt | fcomStiDC | fcompStiDC | fsubrStiSt | fsubStiSt | fdivrStiSt | fdivStiSt |
      ffreeSti | fxchStiDD | fstSti | fstpSti | faddpStiSt | fmulpStiSt | fcompStiDE | fcompp | fsubrpStiSt |
      fsubpStiSt | fdivrpStiSt | fdivpStiSt | ffreeStiDF | fxchStiDF | fstpStiDFD0 | fstpStiDFD8 =>
    exact h.escReg _ _
  case fstM32real | fstpM32real | fistM32int | fistpM32int | fstpM80real | fstM64real | fstpM64real | fistM16int |
      fistpM16int | fbstpM80dec | fistpM64int => exact h.escStore _ _ _ _
  case fldenvM14byte | fldcwM2byte | frstorM94byte => exact h.escLoadState _ _ _
  case fnstenvM14byte | fnstcwM2byte | fnsaveM94byte | fnstswM2byte =>
    exact h.escStoreState _ _ _ _
  case fneni | fndisi | fnclex | fninit | fsetpm => exact h.escControl _ _
  case fnstswAx => exact h.statusToAx

/-- Every instruction keeps the property. -/
theorem keptBy (h : ClosedMachine P) (i : Instr) : KeptBy P i := by
  cases he : isEsc i with
  | true => exact h.keptBy_esc i he
  | false => exact h.keptBy_cpu i he fun hi => PrefixByte.keptBy h.pfx hi

/-! ### The boundary and the fetch -/

theorem takeEvent (h : ClosedMachine P) (due : Bool) (n : Byte) (k : EventKind) {ack : State → State}
    (ha : ∀ s, P s → P (ack s)) {s : State} (hs : P s) : P (Machine.takeEvent due n k ack s) := by
  unfold Machine.takeEvent
  split
  · exact h.deliver _ _ _ (ha s hs)
  · exact hs

theorem events (h : ClosedMachine P) (inh sti : Bool) {s : State} (hs : P s) : P (s.events inh sti) :=
  h.takeEvent _ _ _ (fun _ hs => hs) <|
    h.takeEvent _ _ _ (fun s hs => h.book s _ _ _ _ _ _ _ false _ _ _ _ _ _ _ hs) <|
    h.takeEvent _ _ _ (fun s hs => h.book s _ _ _ _ _ _ false _ _ _ _ _ _ _ _ hs) <|
    h.takeEvent _ _ _ (fun s hs => h.book s _ _ _ _ _ _ _ _ false _ _ _ _ _ _ hs) hs

theorem shutdownNMI (h : ClosedMachine P) {s : State} (hs : P s) : P s.shutdownNMI := by
  have acknowledged : P { s with nmiPending := false } := h.book s _ _ _ _ _ _ false _ _ _ _ _ _ _ _ hs
  unfold State.shutdownNMI
  split
  · exact hs
  split
  · split
    · exact h.deliver _ _ _ acknowledged
    · exact hs
  · rename_i hp
    have hd := (h.deliverProt 2 .nmi none).after _ ⟨acknowledged, by simpa [State.pe] using hp⟩
    split <;> rename_i e <;> rw [e] at hd
    · exact h.delivered _ hd.1
    · exact hd.1

theorem anyOf (h : ClosedMachine P) : ∀ l v, Keeps P (Machine.anyOf l v)
  | [], _ => Keeps.pure _
  | _ :: rest, v => Keeps.bind h.drawBit fun _ => Keeps.ite (Keeps.pure _) (h.anyOf rest v)

theorem fetchBytes (h : ClosedMachine P) : ∀ n off, Keeps P (Machine.fetchBytes n off)
  | 0, _ => Keeps.pure _
  | n + 1, _ => Keeps.bind (Keeps.get_bind fun _ => h.anyOf _ _) fun _ => Keeps.bind (h.fetchBytes n _) fun _ =>
    Keeps.pure _

theorem fetch (h : ClosedMachine P) : Keeps P Machine.fetch := by
  refine Keeps.get_bind fun s => Keeps.bind (h.fetchBytes _ _) fun bytes => ?_
  cases decode bytes with
  | ok i n => exact Keeps.bind (Keeps.mod fun s hs => h.book s _ _ _ _ _ _ _ _ _ _ _ _ _ _ _ hs) fun _ => Keeps.pure _
  | error e => exact Keeps.raise _

end ClosedMachine

/-- The property holds of the state that a step has come to. -/
def Prepared.Holds (P : State → Prop) : Prepared → Prop
  | .over s => P s
  | .run _ s => P s

namespace ClosedMachine

variable {P : State → Prop}

theorem fetchStep (h : ClosedMachine P) {s : State} (hs : P s) : s.fetchStep.Holds P := by
  have hf := h.fetch.after s hs
  unfold State.fetchStep
  split <;> rename_i e <;> rw [e] at hf
  · exact hf
  · exact h.takeAbort _ hf

theorem atBoundary (h : ClosedMachine P) {s : State} (hs : P s) : P s.atBoundary :=
  h.boundary _ false (h.book s _ _ _ false false _ _ _ _ _ s.ip _ _ _ _ hs)

theorem begin (h : ClosedMachine P) {s : State} (hs : P s) : s.begin.Holds P := by
  have ht : P { s with stepPending := s.flag .tf, pfx := Prefixes.none } :=
    h.noPrefix _ (h.book s _ _ _ _ _ _ _ _ (s.flag .tf) _ _ _ _ _ _ hs)
  unfold State.begin
  extract_lets t
  split
  · rename_i r _
    exact h.book _ _ r.ip r.ipPast _ _ _ _ _ _ _ _ _ _ _ _ (h.noRepeat _ (h.pfx t r.pfx ht))
  · exact h.fetchStep ht

theorem boundaryStep (h : ClosedMachine P) {s : State} (hs : P s) : s.boundary.Holds P := by
  have hb := h.atBoundary hs
  unfold State.boundary
  split
  · show P (if _ then _ else _)
    split
    · exact h.boundary _ _ (h.shutdownNMI hb)
    · exact hb
  · show P (if _ then _ else _)
    split
    · exact h.boundary _ _ (h.events _ _ hb)
    · exact hb
  · split
    · exact h.boundary _ _ (h.events _ _ hb)
    · exact h.begin hb

theorem prepare (h : ClosedMachine P) {s : State} (hr : s.lines.reset = false) (hs : P s) : s.prepare.Holds P := by
  unfold State.prepare
  extract_lets t
  have ht : P t := h.stepped s _ hs
  rw [hr, if_neg Bool.false_ne_true]
  split
  · exact hs
  split
  · exact h.fetchStep ht
  · exact h.boundaryStep ht

/-- A step in which RESET is not active keeps the property. -/
theorem step_keeps (h : ClosedMachine P) {s t : State} (hr : s.lines.reset = false) (hi : s.lines.rising = none)
    (hs : P s) (ht : step s = .next t) : P t := by
  have hp := h.prepare hr hs
  unfold step at ht
  rw [hi] at ht
  change s.unbroken = .next t at ht
  unfold State.unbroken at ht
  split at ht <;> rename_i e <;> rw [e] at hp
  · injection ht with ht
    exact ht ▸ hp
  · exact h.keptBy _ _ _ hp ht

end ClosedMachine

/-! ### Two properties that are kept -/

/-- The 80287 is as `n`: only an ESC instruction changes it (48_npx_architecture.md R530). -/
theorem closedCpu_npx (n : Npx) : ClosedCpu fun s => s.npx = n where
  book _ _ _ _ _ _ _ _ _ _ _ _ _ _ _ _ hs := hs
  noPrefix _ hs := hs
  noRepeat _ hs := hs
  repeats _ _ hs := hs
  read8 _ _ hs := hs
  reads _ _ hs := hs
  port _ _ hs := hs
  mem8 _ _ _ hs := hs
  mem16 _ _ _ hs := hs
  flag _ _ _ hs := hs
  popFlags _ _ _ hs := hs
  realSeg s r _ hs _ := (setSeg_npx s r _).trans hs
  realFar _ _ _ hs _ := hs
  protSeg s r _ hs _ := (setSeg_npx s r _).trans hs
  cpl _ _ hs _ := hs
  ldtr _ _ hs := hs
  tr _ _ hs := hs
  enterTask _ _ _ _ _ hs _ := hs
  lmsw _ _ hs := hs
  clts _ hs := hs

/-- LMSW can set PE and cannot clear it (10_state.md R53). -/
theorem getLsbD_zero_lmsw (w v : Word) (h : w.getLsbD 0 = true) :
    ((w &&& 0xFFF1) ||| (v &&& 0x000F)).getLsbD 0 = true := by
  simp [h]

/-- Protected Mode: every update keeps it (10_state.md R53). -/
theorem closedMachine_pe : ClosedMachine fun s => s.pe = true where
  book _ _ _ _ _ _ _ _ _ _ _ _ _ _ _ _ hs := hs
  noPrefix _ hs := hs
  noRepeat _ hs := hs
  repeats _ _ hs := hs
  read8 _ _ hs := hs
  reads _ _ hs := hs
  port _ _ hs := hs
  mem8 _ _ _ hs := hs
  mem16 _ _ _ hs := hs
  flag _ _ _ hs := hs
  popFlags _ _ _ hs := hs
  realSeg s r _ hs _ := (pe_setSeg s r _).trans hs
  realFar _ _ _ hs _ := hs
  protSeg s r _ hs _ := (pe_setSeg s r _).trans hs
  cpl _ _ hs _ := hs
  ldtr _ _ hs := hs
  tr _ _ hs := hs
  enterTask s k sel n ws hs _ := (pe_enterTask s k sel n ws).trans hs
  lmsw s v hs := getLsbD_zero_lmsw s.msw v hs
  clts s hs := (withBit_getLsbD s.msw 3 0 false (by decide)).trans hs
  npx _ _ hs := hs
  pfx _ _ hs := hs
  stepped _ _ hs := hs
  boundary _ _ hs := hs

end Sys2Proof.Machine

open Sys2Proof Sys2Proof.Machine

/-- Settles O10: Protected Mode is closed under every update but that of RESET. -/
theorem protectedModeStays : Obligations.ProtectedModeStays :=
  fun _ _ hr hi hp ht => closedMachine_pe.step_keeps hr hi hp ht

/-- Settles O11: what the 80287 holds is closed under every update of the CPU. -/
theorem npxChangedOnlyByEsc : Obligations.NpxChangedOnlyByEsc :=
  fun i s t he ht => (closedCpu_npx s.npx).keptBy_cpu i he (PrefixByte.keptBy fun _ _ hs => hs) s t rfl ht

end

section
/-! SUPPORT. RESET: what it leaves of any machine (10_state.md R77, R78), at the start of a step and inside one
(70_reset_and_hazards.md R820). -/

namespace Sys2Proof.Machine

/-- After RESET only the condition code of the status word is free (10_state.md R78). -/
theorem undefCond_word_and (cc : Word) : (StatusWord.undefCond cc).word &&& 0xB8FF = 0 := by
  have known : ∀ c3 c2 c1 c0 : Bool,
      { StatusWord.clear with c3 := c3, c2 := c2, c1 := c1, c0 := c0 }.word &&& 0xB8FF = 0 := by decide
  exact known _ _ _ _

/-- RESET of the machine `t`, whose platform and 80287 are those of `s`, and whose memory and devices those of `u`. -/
theorem hardReset_resetFrom {t s u : State} (hmap : t.memMap = s.memMap) (hpresent : t.npxPresent = s.npxPresent)
    (hnpx : t.npx = s.npx) (hmem : t.mem = u.mem) (hio : t.io = u.io) : (M.state hardReset t).resetFrom s u where
  cpu := ⟨(by decide : FlagsReg.clear.word = 0x0002), rfl, rfl, rfl, rfl, rfl, rfl, rfl, rfl, rfl, rfl, rfl⟩
  latches := ⟨rfl, rfl, rfl, rfl, rfl, rfl, rfl, rfl, rfl⟩
  platform := ⟨hmap, hpresent, hmem, hio⟩
  npx := ⟨rfl, rfl, undefCond_word_and _, rfl, fun k => congrArg (·.reg k) hnpx,
    (congrArg Npx.ip hnpx : t.npx.ip = _), (congrArg Npx.op hnpx : t.npx.op = _), (congrArg Npx.opcode hnpx : t.npx.opcode = _)⟩

theorem hardReset_lines (t : State) : (M.state hardReset t).lines = t.lines := rfl

/-- A step that runs to its end answers a next state. -/
theorem unbroken_next (s : State) : ∃ t, s.unbroken = .next t := by
  unfold State.unbroken
  rcases s.prepare with t | ⟨i, t⟩
  · exact ⟨t, rfl⟩
  · exact exec_next i t

/-- A step that finds RESET active is the RESET, whatever the machine was doing. -/
theorem step_reset {s : State} (hr : s.lines.reset = true) (hi : s.lines.rising = none) :
    step s = .next (M.state hardReset { s with clock := s.clock + 1, bus := [] }) := by
  unfold step State.unbroken State.prepare
  simp only [hi, hr, if_true]

/-- A step inside which RESET rises is abandoned. -/
theorem step_rising {s u : State} {k : Nat} (hi : s.lines.rising = some k)
    (hu : { s with bus := [] }.unbroken = .next u) : step s = .next ({ s with bus := [] }.abandoned u k) := by
  unfold step
  simp only [hi, hu]

/-- Cycles of the bus touch neither the platform's fields nor the 80287. -/
theorem replay_frame (s : State) (cs : List BusCycle) :
    (s.replay cs).memMap = s.memMap ∧ (s.replay cs).npxPresent = s.npxPresent ∧ (s.replay cs).npx = s.npx := by
  induction cs with
  | nil => exact ⟨rfl, rfl, rfl⟩
  | cons c cs ih => exact ih

/-- The machine that a RESET inside a step leaves: the cycles done before it stay. -/
theorem abandoned_resetFrom (s u : State) (k : Nat) :
    ({ s with bus := [] }.abandoned u k).resetFrom s (s.replay (u.bus.drop (u.bus.length - k))) := by
  obtain ⟨hmap, hpresent, hnpx⟩ := replay_frame { s with bus := [] } (u.bus.drop (u.bus.length - k))
  obtain ⟨hmem, hio⟩ := replay_congr (s := { s with bus := [] }) (t := s) rfl rfl (u.bus.drop (u.bus.length - k))
  exact hardReset_resetFrom hmap hpresent hnpx hmem hio

/-- RESET leaves four usable segments of 64K bytes. -/
theorem reset_seg (r : SegReg) : (State.reset.seg r).valid = true ∧ (State.reset.seg r).readable = true ∧
    (State.reset.seg r).writable = true ∧ (State.reset.seg r).rm = true ∧ (State.reset.seg r).limit = 0xFFFF := by
  cases r <;> decide

end Sys2Proof.Machine

open Sys2Proof Sys2Proof.Machine

/-- Settles O8, field by field of State.reset. -/
theorem resetInvariant : Obligations.ResetInvariant where
  mem := reset_mem_wf
  msw := by decide
  npx := by decide
  prefixes := by decide
  repeats := fun _ h => nomatch h
  realLevel := fun _ => rfl
  realSegs := fun _ r => by
    obtain ⟨hvalid, -, -, hrm, hlimit⟩ := reset_seg r
    exact ⟨hvalid, hrm, hlimit⟩

/-- Settles O7: State.reset item by item, and the RESET of a machine at the start of a step and inside one. -/
theorem resetState : Obligations.ResetState := by
  refine ⟨?_, fun s hr hi => ?_, fun s k hi => ?_⟩
  · refine ⟨by decide, rfl, rfl, rfl, rfl, rfl, by decide, fun r => ?_, rfl, rfl, rfl, rfl, rfl, rfl, rfl, rfl, rfl,
      rfl, by decide, rfl, rfl, rfl, rfl, by decide, rfl⟩
    obtain ⟨hvalid, hreadable, hwritable, -, -⟩ := reset_seg r
    exact ⟨hvalid, hreadable, hwritable⟩
  · exact ⟨_, step_reset hr hi, hardReset_resetFrom rfl rfl rfl rfl rfl⟩
  · obtain ⟨u, hu⟩ := unbroken_next { s with bus := [] }
    exact ⟨u, _, hu, step_rising hi hu, abandoned_resetFrom s u k, hardReset_lines _⟩

end

section
/-! SUPPORT. What a step does before anything executes, and that every step answers (20_memory.md R169;
70_reset_and_hazards.md R820, R862). -/

namespace Sys2Proof.Machine

/-- A step in which RESET does not rise is over when nothing executes. -/
theorem step_over {s t : State} (hi : s.lines.rising = none) (hp : s.prepare = .over t) : step s = .next t := by
  unfold step State.unbroken
  simp only [hi, hp]

/-- Every step answers a next state, one inside which RESET rises too. -/
theorem step_next (s : State) : ∃ t, step s = .next t := by
  cases hi : s.lines.rising with
  | none =>
    obtain ⟨t, ht⟩ := unbroken_next s
    refine ⟨t, ?_⟩
    unfold step
    simp only [hi, ht]
  | some k =>
    obtain ⟨u, hu⟩ := unbroken_next { s with bus := [] }
    exact ⟨_, step_rising hi hu⟩

/-- A CPU that needs the bus waits for READY (20_memory.md R169). -/
theorem prepare_waiting {s : State} (hr : s.lines.reset = false) (hy : s.lines.ready = false)
    (hb : s.needsBus = true) : s.prepare = .over s := by
  unfold State.prepare
  simp [hr, hy, hb]

/-- A CPU that does not execute and needs no bus comes to a boundary, READY or not (70_reset_and_hazards.md R862). -/
theorem prepare_idle {s : State} (hr : s.lines.reset = false) (hrun : s.run ≠ .running) (hb : s.needsBus = false) :
    s.prepare = { s with clock := s.clock + 1, bus := [] }.boundary := by
  unfold State.prepare
  simp [hr, hb, hrun]

theorem boundary_halted {s : State} (hrun : s.run = .halted) (hd : s.boundaryDue = false) :
    s.boundary = .over s.atBoundary := by
  unfold State.boundary
  simp [hrun, hd]

theorem boundary_shutdown {s : State} (hrun : s.run = .shutdown) (hd : s.shutdownDue = false) :
    s.boundary = .over s.atBoundary := by
  unfold State.boundary
  simp [hrun, hd]

/-- A halted CPU with no event due goes on waiting. -/
theorem step_halted {s : State} (hr : s.lines.reset = false) (hi : s.lines.rising = none) (hrun : s.run = .halted)
    (he : s.eventDue s.inhibit s.stiShadow = false) : step s = .next s.atEvent := by
  have notDue : s.boundaryDue = false := by
    unfold State.boundaryDue
    rw [he, Bool.and_false]
  have noBus : s.needsBus = false := by
    unfold State.needsBus
    rw [hrun, notDue]
  exact step_over hi ((prepare_idle hr (by simp [hrun]) noBus).trans (boundary_halted hrun notDue))

/-- A shut down CPU with no NMI that it can take goes on waiting. -/
theorem step_shutdown {s : State} (hr : s.lines.reset = false) (hi : s.lines.rising = none) (hrun : s.run = .shutdown)
    (hn : s.nmiPending = false ∨ s.nmiMask = true) : step s = .next s.atEvent := by
  have notDue : s.shutdownDue = false := by
    unfold State.shutdownDue
    rcases hn with h | h <;> simp [h]
  have noBus : s.needsBus = false := by
    unfold State.needsBus
    rw [hrun, notDue]
  exact step_over hi ((prepare_idle hr (by simp [hrun]) noBus).trans (boundary_shutdown hrun notDue))

end Sys2Proof.Machine

open Sys2Proof Sys2Proof.Machine

/-- Settles O5: what is executed answers, and what waits is over before anything executes. -/
theorem everyStepAnswers : Obligations.EveryStepAnswers := by
  intro s
  refine ⟨step_next s, fun hr hi => ⟨fun hy hrun => ?_, fun hrun he => step_halted hr hi hrun he,
    fun hrun hn => step_shutdown hr hi hrun hn⟩⟩
  have needs : s.needsBus = true := by
    unfold State.needsBus
    rw [hrun]
  exact step_over hi (prepare_waiting hr hy needs)

end

section
/-! SUPPORT. A state that meets the invariant and whose step does not keep it. -/

namespace Sys2Proof.Machine

/-- A machine that has just been reset, but for one field: it is to go on with a repeated instruction that is the byte
26H, which goes before another instruction, when that has all the bytes it may have (30_encoding.md R181, R182). -/
def State.repeatsPrefix : State :=
  { State.reset with repeating := some ⟨.pfxEs, { Prefixes.none with count := maxLength }, 0xFFF0, false⟩ }

theorem repeatsPrefix_inv : State.repeatsPrefix.Inv :=
  { resetInvariant with
    repeats := fun r h => by
      obtain rfl : _ = r := Option.some.inj h
      exact Nat.le_refl _ }

/-- 26H counts as one byte more than an instruction may have. -/
theorem step_repeatsPrefix : ∃ t, step State.repeatsPrefix = .next t ∧ t.pfx.count = maxLength + 1 :=
  ⟨_, rfl, rfl⟩

end Sys2Proof.Machine

open Sys2Proof Sys2Proof.Machine

/-- Refutes O9: the invariant bounds the bytes read before a repeated instruction, and does not say that this is a
string instruction. If it is itself a byte that goes before another, the step counts it, and the bound is passed. -/
theorem not_stepKeepsInvariant : ¬ Obligations.StepKeepsInvariant := by
  intro h
  obtain ⟨t, ht, hcount⟩ := step_repeatsPrefix
  have kept : t.pfx.count ≤ maxLength := (h _ t repeatsPrefix_inv ht).prefixes
  omega

end

section
/-! SUPPORT. What a store leaves for the reads after it, and the cycles it is (20_memory.md R81 to R85, R88). -/

namespace Sys2Proof.Machine

/-! ### Bytes of a word, and what stands where they go -/

@[simp] theorem Word.of_hi_lo (v : Word) : Word.of v.hi v.lo = v := BitVec.extractLsb'_append_extractLsb' (w := 8)
@[simp] theorem Word.lo_of (hi lo : Byte) : (Word.of hi lo).lo = lo := BitVec.extractLsb'_append_eq_right
@[simp] theorem Word.hi_of (hi lo : Byte) : (Word.of hi lo).hi = hi := BitVec.extractLsb'_append_eq_left

/-- Bit 0 of an address says whether it is odd. -/
theorem getLsbD_zero_eq_decide_odd {n : Nat} (a : BitVec n) : a.getLsbD 0 = decide (¬a.toNat % 2 = 0) := by
  rw [BitVec.getLsbD, Nat.testBit_zero]
  simp

theorem addr_succ_ne (a : PhysAddr) : a + 1 ≠ a := by
  intro h
  bv_omega

/-! ### Stores to memory, and to where none stands -/

theorem byteCycle_inside {s : State} {a : PhysAddr} (v : Byte) (h : s.outside a = false) : s.byteCycle a v = [] := by
  simp [State.byteCycle, h]

theorem byteCycle_outside {s : State} {a : PhysAddr} (v : Byte) (h : s.outside a = true) :
    s.byteCycle a v = [.memWrite a false (v.setWidth 16)] := by
  simp [State.byteCycle, h]

theorem wordCycles_inside {s : State} {a : PhysAddr} (v : Word) (h : s.outside a = false)
    (h1 : s.outside (a + 1) = false) : s.wordCycles a v = [] := by
  unfold State.wordCycles
  rw [byteCycle_inside _ h, byteCycle_inside _ h1, h, h1]
  split <;> rfl

theorem wordCycles_outside {s : State} {a : PhysAddr} (v : Word) (h : s.outside a = true)
    (h1 : s.outside (a + 1) = true) :
    s.wordCycles a v = if a.toNat % 2 = 0 then [.memWrite a true v]
      else [.memWrite (a + 1) false (v.hi.setWidth 16), .memWrite a false (v.lo.setWidth 16)] := by
  unfold State.wordCycles
  rw [byteCycle_outside _ h, byteCycle_outside _ h1, h, getLsbD_zero_eq_decide_odd]
  by_cases even : a.toNat % 2 = 0 <;> simp [even]

theorem storeCycle8_eq (s : State) (a : PhysAddr) (v : Byte) :
    s.storeCycle8 a v = ⟨if s.kindAt a = .ram then [(a, v)] else [],
      if s.outside a then some (.memWrite a false (v.setWidth 16)) else none⟩ := by
  unfold State.storeCycle8 State.ramStore State.byteCycle
  by_cases h : s.outside a = true <;> simp [h]

theorem storeCycles16_ram {s : State} {a : PhysAddr} (v : Word) (h : s.kindAt a = .ram) (h1 : s.kindAt (a + 1) = .ram) :
    s.storeCycles16 a v = if a.toNat % 2 = 0 then [⟨[(a + 1, v.hi), (a, v.lo)], none⟩]
      else [⟨[(a + 1, v.hi)], none⟩, ⟨[(a, v.lo)], none⟩] := by
  unfold State.storeCycles16 State.ramStore
  rw [storeCycle8_eq, storeCycle8_eq, wordCycles_inside v (outside_ram h) (outside_ram h1), outside_ram h, outside_ram h1,
    getLsbD_zero_eq_decide_odd, if_pos h, if_pos h1]
  by_cases even : a.toNat % 2 = 0 <;> simp [even]

/-! ### Reads after a store -/

/-- A read after a run of the bus that leaves no trace answers as memory does. -/
theorem mem8_eq_byteOr {s t : State} (x : PhysAddr) (hio : t.io = s.io) (hclock : t.clock = s.clock) :
    t.mem8 x = t.byteOr x (Config.memRead s.clock s.io x false).lo := by
  unfold State.mem8
  rw [hio, hclock]

/-- A byte store changes no other byte, where memory stands at either. -/
theorem setMem8_mem8_ne {s : State} {a x : PhysAddr} (v : Byte) (h : Memory.wf s.mem = true) (hx : x ≠ a)
    (hs : s.outside x = false ∨ s.outside a = false) : (s.setMem8 a v).mem8 x = s.mem8 x := by
  rcases hs with hin | hin
  · rw [setMem8_mem8 a x v h hin, if_neg fun e => hx e.1]
  · have quiet : (s.setMem8 a v).io = s.io := by rw [setMem8_io, byteCycle_inside v hin, List.nil_append]
    rw [mem8_eq_byteOr x quiet rfl, setMem8_byteOr a x v _ h, if_neg fun e => hx e.1]
    rfl

theorem setMem16_byteOr {s : State} {a x : PhysAddr} (v : Word) (w : Byte) (h : Memory.wf s.mem = true) (hx : x ≠ a)
    (hx1 : x ≠ a + 1) : (s.setMem16 a v).byteOr x w = s.byteOr x w := by
  show ((s.setMem8 a v.lo).setMem8 (a + 1) v.hi).byteOr x w = s.byteOr x w
  rw [setMem8_byteOr _ _ _ _ (setMem8_wf a v.lo h), if_neg fun e => hx1 e.1, setMem8_byteOr _ _ _ _ h,
    if_neg fun e => hx e.1]

/-- A word store changes no byte but its two, where memory stands at that byte or at both. -/
theorem setMem16_mem8_ne {s : State} {a x : PhysAddr} (v : Word) (h : Memory.wf s.mem = true) (hx : x ≠ a)
    (hx1 : x ≠ a + 1) (hs : s.outside x = false ∨ (s.outside a = false ∧ s.outside (a + 1) = false)) :
    (s.setMem16 a v).mem8 x = s.mem8 x := by
  rcases hs with hin | ⟨hin, hin1⟩
  · rw [setMem16_mem8 a x v h hin, if_neg fun e => hx1 e.1, if_neg fun e => hx e.1]
  · have quiet : (s.setMem16 a v).io = s.io := by rw [setMem16_io, wordCycles_inside v hin hin1, List.nil_append]
    rw [mem8_eq_byteOr x quiet rfl, setMem16_byteOr v _ h hx hx1]
    rfl

/-- A word stored to RAM reads as the value. -/
theorem setMem16_mem16 {s : State} {a : PhysAddr} (v : Word) (h : Memory.wf s.mem = true) (hr : s.kindAt a = .ram)
    (hr1 : s.kindAt (a + 1) = .ram) : (s.setMem16 a v).mem16 a = v := by
  have hin := outside_ram hr
  have hin1 := outside_ram hr1
  rw [mem16_inside (s := s.setMem16 a v) hin hin1, setMem16_mem8 a a v h hin, setMem16_mem8 a (a + 1) v h hin1,
    if_pos ⟨rfl, hr1⟩, if_neg fun e => addr_succ_ne a e.1.symm, if_pos ⟨rfl, hr⟩, Word.of_hi_lo]

theorem setMem16_mem_of_not_ram {s : State} {a : PhysAddr} (v : Word) (h : s.kindAt a ≠ .ram)
    (h1 : s.kindAt (a + 1) ≠ .ram) : (s.setMem16 a v).mem = s.mem := by
  have h1' : (s.setMem8 a v.lo).kindAt (a + 1) ≠ .ram := h1
  show ((s.setMem8 a v.lo).setMem8 (a + 1) v.hi).mem = s.mem
  rw [setMem8_mem, if_neg h1', setMem8_mem, if_neg h]

/-- The cycles of the read of a word where none of it is memory. -/
theorem after16_io_outside {s : State} {a : PhysAddr} (h : s.outside a = true) (h1 : s.outside (a + 1) = true) :
    (s.after16 a).io = (if a.toNat % 2 = 0 then [.memRead a true]
      else [.memRead (a + 1) false, .memRead a false]) ++ s.io := by
  rw [after16_io]
  unfold State.wordRead State.byteRead
  rw [h, h1, getLsbD_zero_eq_decide_odd]
  by_cases even : a.toNat % 2 = 0 <;> simp [even]

end Sys2Proof.Machine
end

section
/-! SUPPORT. The cycles of an instruction that reads, or reads and writes, its operand in memory (20_memory.md R88,
R121), and of one that reads two operands (44_string.md R423). -/

namespace Sys2Proof.Machine

/-! ### Operations that touch neither memory nor devices -/

/-- The operation completes from every state, and devices see nothing of it. -/
def Silent {α : Type} (m : M α) : Prop := ∀ s, ∃ a t, m.run s = .ok a t ∧ t.io = s.io ∧ t.memMap = s.memMap

namespace Silent

variable {α β : Type}

theorem pure (a : α) : Silent (Pure.pure a : M α) := fun s => ⟨a, s, rfl, rfl, rfl⟩

theorem bind {m : M α} {f : α → M β} (hm : Silent m) (hf : ∀ a, Silent (f a)) : Silent (m >>= f) := by
  intro s
  obtain ⟨a, t, ha, hio, hmap⟩ := hm s
  obtain ⟨b, u, hb, hio', hmap'⟩ := hf a t
  exact ⟨b, u, (run_bind_ok ha).trans hb, hio'.trans hio, hmap'.trans hmap⟩

theorem get_bind {f : State → M β} (hf : ∀ s, Silent (f s)) : Silent (get >>= f) := fun s => hf s s

theorem mod {f : State → State} (hio : ∀ s, (f s).io = s.io) (hmap : ∀ s, (f s).memMap = s.memMap) :
    Silent (modify f : M PUnit) :=
  fun s => ⟨⟨⟩, f s, rfl, hio s, hmap s⟩

theorem ite {c : Prop} [Decidable c] {m k : M α} (hm : Silent m) (hk : Silent k) : Silent (if c then m else k) := by
  split <;> assumption

theorem undefFlag (f : Flag) : Silent (Machine.undefFlag f) := fun s => ⟨(), _, undefFlag_run f s, rfl, rfl⟩

theorem opAdd {n : Nat} (a b : BitVec n) : Silent (Machine.opAdd a b) :=
  bind (mod (fun _ => rfl) fun _ => rfl) fun _ => pure _

theorem opInc {n : Nat} (a : BitVec n) : Silent (Machine.opInc a) :=
  bind (mod (fun _ => rfl) fun _ => rfl) fun _ => pure _

theorem opXor {n : Nat} (a b : BitVec n) : Silent (Machine.opXor a b) :=
  bind (bind (mod (fun _ => rfl) fun _ => rfl) fun _ => undefFlag _) fun _ => pure _

theorem opNot {n : Nat} (a : BitVec n) : Silent (Machine.opNot a) := pure _

/-- A shift by 1. -/
theorem opShift_one {n : Nat} (k : Shift) (v : BitVec n) : Silent (Machine.opShift k 1 v) := by
  refine get_bind fun s => ?_
  have last : ∀ (f : State → State) (r : BitVec n), (∀ s, (f s).io = s.io) → (∀ s, (f s).memMap = s.memMap) →
      Silent (do modify f; Pure.pure r) := fun f r hio hmap => bind (mod hio hmap) fun _ => pure r
  refine bind (mod (fun _ => rfl) fun _ => rfl) fun _ => ?_
  refine ite (bind (mod (fun _ => rfl) fun _ => rfl) fun _ => bind (undefFlag _) fun _ => ?_) ?_
  · exact last _ _ (fun _ => rfl) fun _ => rfl
  · exact last _ _ (fun _ => rfl) fun _ => rfl

end Silent

/-! ### One read of a byte or word, then one write of it -/

/-- What devices see of a byte operand in memory that is read, replaced and stored. -/
theorem modify8_io {lost : M Unit} {ea : Ea} {f : Byte → M Byte} {s : State}
    (h : s.writeOk (s.eaSeg ea) (s.eaOff ea) 1 = true) (hf : ∀ a, Silent (f a)) :
    let a := (s.seg (s.eaSeg ea)).lin (s.eaOff ea)
    ∃ t v, (modify8 lost (.mem ea) f).run s = .ok () t ∧
      t.io = (if s.outside a then [.memWrite a false v, .memRead a false] else []) ++ s.io := by
  intro a
  obtain ⟨v, u, hu, hio, hmap⟩ := hf (s.val8 (.mem ea)) (s.read8 (.mem ea))
  refine ⟨_, v.setWidth 16, modify8_run lost (.mem ea) f s u v h hu, ?_⟩
  have same : u.outside a = s.outside a := outside_congr hmap a
  have read : u.io = s.byteRead a ++ s.io := hio
  show (u.setMem8 a v).io = _
  rw [setMem8_io, read, State.byteCycle, State.byteRead, same]
  split <;> rfl

/-- What devices see of a word operand in memory that is read, replaced and stored. -/
theorem modify16_io {lost : M Unit} {ea : Ea} {f : Word → M Word} {s : State}
    (h : s.writeOk (s.eaSeg ea) (s.eaOff ea) 2 = true) (hf : ∀ a, Silent (f a)) :
    let a := (s.seg (s.eaSeg ea)).lin (s.eaOff ea)
    ∃ t v w, (modify16 lost (.mem ea) f).run s = .ok () t ∧
      (s.outside a = false → s.outside (a + 1) = false → t.io = s.io) ∧
      (s.outside a = true → s.outside (a + 1) = true →
        t.io = (if a.toNat % 2 = 0 then [IoEvent.memWrite a true v, .memRead a true]
          else [.memWrite (a + 1) false v, .memWrite a false w, .memRead (a + 1) false, .memRead a false]) ++ s.io) := by
  intro a
  obtain ⟨x, u, hu, hio, hmap⟩ := hf (s.val16 (.mem ea)) (s.read16 (.mem ea))
  have same : ∀ b, u.outside b = s.outside b := outside_congr hmap
  have read : u.io = (s.after16 a).io := hio
  have stored : (s.put16 u (.mem ea) x).io = u.wordCycles a x ++ (s.after16 a).io := by
    rw [← read]
    rfl
  refine ⟨_, if a.toNat % 2 = 0 then x else x.hi.setWidth 16, x.lo.setWidth 16,
    modify16_run lost (.mem ea) f s u x h hu, fun h0 h1 => ?_, fun h0 h1 => ?_⟩
  · rw [stored, wordCycles_inside x ((same a).trans h0) ((same _).trans h1), after16_inside h0 h1, List.nil_append]
  · rw [stored, wordCycles_outside x ((same a).trans h0) ((same _).trans h1), after16_io_outside h0 h1]
    split <;> rfl

/-- An exchange with a register is such an operand, the operation putting its old value into the register. -/
theorem exchange8_silent (r : Reg8) (old v : Byte) :
    Silent (do modify fun t : State => t.setReg8 r v; return old : M Byte) :=
  Silent.bind (Silent.mod (fun _ => rfl) fun _ => rfl) fun _ => Silent.pure _

theorem exchange16_silent (r : Reg16) (old v : Word) :
    Silent (do modify fun t : State => t.setReg16 r v; return old : M Word) :=
  Silent.bind (Silent.mod (fun _ => rfl) fun _ => rfl) fun _ => Silent.pure _

/-- Each of six instructions runs the replacement of a byte operand in memory. -/
theorem exec_runs_modify8 (s : State) (ea : Ea) (r : Reg8) :
    ∀ i ∈ [Instr.addEbRb (.mem ea) r, .xorEbRb (.mem ea) r, .incEb (.mem ea), .notEb (.mem ea), .shrEb1 (.mem ea),
      .xchgEbRb (.mem ea) r], ∃ lost f, (∀ a, Silent (f a)) ∧
        ∃ body, exec i s = runInstr body s ∧ body.run s = (modify8 lost (.mem ea) f).run s := by
  simp only [List.forall_mem_cons, List.not_mem_nil, false_implies, implies_true, and_true]
  exact ⟨
    ⟨nothingLost, fun a => opAdd a (s.reg8 r), fun _ => Silent.opAdd _ _, ebRb nothingLost opAdd (.mem ea) r, rfl,
      run_get_bind _ s⟩,
    ⟨nothingLost, fun a => opXor a (s.reg8 r), fun _ => Silent.opXor _ _, ebRb nothingLost opXor (.mem ea) r, rfl,
      run_get_bind _ s⟩,
    ⟨nothingLost, opInc, fun _ => Silent.opInc _, modify8 nothingLost (.mem ea) opInc, rfl, rfl⟩,
    ⟨nothingLost, opNot, fun _ => Silent.opNot _, modify8 nothingLost (.mem ea) opNot, rfl, rfl⟩,
    ⟨nothingLost, opShift .shr 1, fun _ => Silent.opShift_one _ _, shift8 .shr (.mem ea) 1, rfl, rfl⟩,
    ⟨_, _, exchange8_silent r (s.reg8 r), exchange8 (.mem ea) r, rfl, run_get_bind _ s⟩⟩

/-- The same six of a word operand. -/
theorem exec_runs_modify16 (s : State) (ea : Ea) (r : Reg16) :
    ∀ i ∈ [Instr.addEwRw (.mem ea) r, .xorEwRw (.mem ea) r, .incEw (.mem ea), .notEw (.mem ea), .shrEw1 (.mem ea),
      .xchgEwRw (.mem ea) r], ∃ lost f, (∀ a, Silent (f a)) ∧
        ∃ body, exec i s = runInstr body s ∧ body.run s = (modify16 lost (.mem ea) f).run s := by
  simp only [List.forall_mem_cons, List.not_mem_nil, false_implies, implies_true, and_true]
  exact ⟨
    ⟨nothingLost, fun a => opAdd a (s.reg16 r), fun _ => Silent.opAdd _ _, ewRw nothingLost opAdd (.mem ea) r, rfl,
      run_get_bind _ s⟩,
    ⟨nothingLost, fun a => opXor a (s.reg16 r), fun _ => Silent.opXor _ _, ewRw nothingLost opXor (.mem ea) r, rfl,
      run_get_bind _ s⟩,
    ⟨nothingLost, opInc, fun _ => Silent.opInc _, modify16 nothingLost (.mem ea) opInc, rfl, rfl⟩,
    ⟨nothingLost, opNot, fun _ => Silent.opNot _, modify16 nothingLost (.mem ea) opNot, rfl, rfl⟩,
    ⟨nothingLost, opShift .shr 1, fun _ => Silent.opShift_one _ _, shift16 .shr (.mem ea) 1, rfl, rfl⟩,
    ⟨_, _, exchange16_silent r (s.reg16 r), exchange16 (.mem ea) r, rfl, run_get_bind _ s⟩⟩

/-! ### Reads -/

@[simp] theorem setReg8_reg8 (s : State) (r : Reg8) (v : Byte) : (s.setReg8 r v).reg8 r = v := by
  unfold State.reg8 State.setReg8
  rw [setReg16_reg16, if_pos rfl]
  split <;> simp

theorem exec_movRbEb {s : State} (hl : s.lockOk = true) (r : Reg8) {ea : Ea}
    (h : s.readOk (s.eaSeg ea) (s.eaOff ea) 1 = true) :
    exec (.movRbEb r (.mem ea)) s = .next ((s.read8 (.mem ea)).setReg8 r (s.val8 (.mem ea))).done := by
  refine exec_completes rfl hl (body := movFromRm8 r (.mem ea)) ?_
  unfold movFromRm8
  rw [run_bind_ok (rd8_run (.mem ea) s h), run_modify]

theorem exec_movRwEw {s : State} (hl : s.lockOk = true) (r : Reg16) {ea : Ea}
    (h : s.readOk (s.eaSeg ea) (s.eaOff ea) 2 = true) :
    exec (.movRwEw r (.mem ea)) s = .next ((s.read16 (.mem ea)).setReg16 r (s.val16 (.mem ea))).done := by
  refine exec_completes rfl hl (body := movFromRm16 r (.mem ea)) ?_
  unfold movFromRm16
  rw [run_bind_ok (rd16_run (.mem ea) s h), run_modify]

/-- CMPSB that is not repeated: the source is read, then the destination, from the state that the first read leaves. -/
theorem exec_cmpsb {s : State} (hl : s.lockOk = true) (hrep : s.pfx.rep = none)
    (hsrc : s.readOk s.dataSeg s.gpr.si 1 = true) (hdst : s.readOk .es s.gpr.di 1 = true) :
    let a := (s.seg s.dataSeg).lin s.gpr.si
    let b := s.es.lin s.gpr.di
    exec .cmpsb s = .next ((((((s.after8 a).after8 b).setStatus
      (subFlags (s.mem8 a) ((s.after8 a).mem8 b) false).2).advance .si 1).advance .di 1).done) := by
  intro a b
  refine exec_completes rfl hl (body := repeated .cmpsb true cmps8) ?_
  have hdst' : (s.after8 a).readOk .es s.gpr.di 1 = true := hdst
  unfold repeated cmps8
  rw [run_get_bind, hrep]
  dsimp only
  rw [run_get_bind, run_bind_ok ((readSeg8_run s.dataSeg s.gpr.si s).trans (if_pos hsrc)),
    run_bind_ok ((readSeg8_run .es s.gpr.di (s.after8 a)).trans (if_pos hdst')), run_modify]
  rfl

/-- ZF after a comparison of bytes. -/
theorem zf_subFlags (a b : Byte) : (subFlags a b false).2.zf = true ↔ a = b := by
  show (BitVec.ofInt 8 ((a.toNat : Int) - b.toNat - (0 : Nat)) == 0) = true ↔ a = b
  rw [beq_iff_eq]
  bv_omega

end Sys2Proof.Machine
end

section
/-! SUPPORT. The statement on memory accesses, part by part. -/

namespace Sys2Proof.Machine

/-- A store of a byte of an operand in memory. -/
theorem put8_mem_store {s : State} (hm : Memory.wf s.mem = true) (ea : Ea) (v : Byte) :
    let a := (s.seg (s.eaSeg ea)).lin (s.eaOff ea)
    let t := s.put8 s (.mem ea) v
    (s.kindAt a = .ram → t.mem8 a = v) ∧ (s.kindAt a ≠ .ram → t.mem = s.mem) ∧
    t.io = (if s.outside a then [.memWrite a false (v.setWidth 16)] else []) ++ s.io ∧
    t.bus = ⟨if s.kindAt a = .ram then [(a, v)] else [],
      if s.outside a then some (.memWrite a false (v.setWidth 16)) else none⟩ :: s.bus ∧
    ∀ x, x ≠ a → s.outside x = false ∨ s.outside a = false → t.mem8 x = s.mem8 x := by
  intro a t
  refine ⟨fun hr => ?_, fun hr => if_neg hr, rfl, congrArg (· :: s.bus) (storeCycle8_eq s a v),
    fun x hx hs => setMem8_mem8_ne v hm hx hs⟩
  exact (setMem8_mem8 a a v hm (outside_ram hr)).trans (if_pos ⟨rfl, hr⟩)

/-- A store of a word of an operand in memory. -/
theorem put16_mem_store {s : State} (hm : Memory.wf s.mem = true) (ea : Ea) (v : Word) :
    let a := (s.seg (s.eaSeg ea)).lin (s.eaOff ea)
    let t := s.put16 s (.mem ea) v
    (s.kindAt a = .ram → s.kindAt (a + 1) = .ram → t.mem16 a = v) ∧
    (s.kindAt a ≠ .ram → s.kindAt (a + 1) ≠ .ram → t.mem = s.mem) ∧
    (s.outside a = false → s.outside (a + 1) = false → t.io = s.io) ∧
    (s.kindAt a = .ram → s.kindAt (a + 1) = .ram →
      t.bus = (if a.toNat % 2 = 0 then [⟨[(a + 1, v.hi), (a, v.lo)], none⟩]
        else [⟨[(a + 1, v.hi)], none⟩, ⟨[(a, v.lo)], none⟩]) ++ s.bus) ∧
    (s.outside a = true → s.outside (a + 1) = true →
      t.io = (if a.toNat % 2 = 0 then [IoEvent.memWrite a true v]
        else [.memWrite (a + 1) false (v.hi.setWidth 16), .memWrite a false (v.lo.setWidth 16)]) ++ s.io) ∧
    ∀ x, x ≠ a → x ≠ a + 1 → s.outside x = false ∨ (s.outside a = false ∧ s.outside (a + 1) = false) →
      t.mem8 x = s.mem8 x := by
  intro a t
  exact ⟨fun hr hr1 => setMem16_mem16 v hm hr hr1, fun hr hr1 => setMem16_mem_of_not_ram v hr hr1,
    fun hin hin1 => congrArg (· ++ s.io) (wordCycles_inside v hin hin1),
    fun hr hr1 => congrArg (· ++ s.bus) (storeCycles16_ram v hr hr1),
    fun ho ho1 => congrArg (· ++ s.io) (wordCycles_outside v ho ho1),
    fun x hx hx1 hs => setMem16_mem8_ne v hm hx hx1 hs⟩

/-- A register is of no matter to a read of memory. -/
@[simp] theorem setReg16_mem8 (s : State) (r : Reg16) (v : Word) (a : PhysAddr) :
    (s.setReg16 r v).mem8 a = s.mem8 a := rfl
@[simp] theorem setReg16_mem16 (s : State) (r : Reg16) (v : Word) (a : PhysAddr) :
    (s.setReg16 r v).mem16 a = s.mem16 a := rfl

/-- The word on top of the stack after a push, and the rest of memory. -/
theorem pushed_store {s : State} (hm : Memory.wf s.mem = true) (v : Word) :
    let a := s.ss.lin (s.gpr.sp - 2)
    (s.kindAt a = .ram → s.kindAt (a + 1) = .ram → (s.pushed v).stackTop = v) ∧
    ∀ x, x ≠ a → x ≠ a + 1 → s.outside x = false ∨ (s.outside a = false ∧ s.outside (a + 1) = false) →
      (s.pushed v).mem8 x = s.mem8 x := by
  intro a
  have top : (s.pushed v).stackTop = (s.setMem16 a v).mem16 a := setReg16_mem16 (s.setMem16 a v) .sp (s.gpr.sp - 2) a
  have byte : ∀ x, (s.pushed v).mem8 x = (s.setMem16 a v).mem8 x := setReg16_mem8 (s.setMem16 a v) .sp (s.gpr.sp - 2)
  exact ⟨fun hr hr1 => top.trans (setMem16_mem16 v hm hr hr1),
    fun x hx hx1 hs => (byte x).trans (setMem16_mem8_ne v hm hx hx1 hs)⟩

/-- CMPSB whose operands are one address where no memory stands: two reads of it, compared. -/
theorem exec_cmpsb_outside {s : State} (hl : s.lockOk = true) (hrep : s.pfx.rep = none)
    (hsrc : s.readOk s.dataSeg s.gpr.si 1 = true) (hdst : s.readOk .es s.gpr.di 1 = true) :
    let a := (s.seg s.dataSeg).lin s.gpr.si
    s.es.lin s.gpr.di = a → s.outside a = true →
    ∃ t, exec .cmpsb s = .next t ∧ t.io = [.memRead a false, .memRead a false] ++ s.io ∧
      (t.flag .zf = true ↔
        (Config.memRead s.clock s.io a false).lo = (Config.memRead s.clock (.memRead a false :: s.io) a false).lo) := by
  intro a hab ho
  have read : s.byteRead a = [.memRead a false] := if_pos ho
  have first : s.mem8 a = (Config.memRead s.clock s.io a false).lo := if_pos ho
  have history : (s.after8 a).io = .memRead a false :: s.io := by rw [after8_io, read]; rfl
  have second : (s.after8 a).mem8 a = (Config.memRead s.clock (.memRead a false :: s.io) a false).lo := by
    rw [← history]
    exact if_pos ho
  refine ⟨_, exec_cmpsb hl hrep hsrc hdst, ?_, ?_⟩
  · show ((s.after8 a).after8 (s.es.lin s.gpr.di)).io = _
    rw [hab, after8_io, history]
    exact congrArg (· ++ _) read
  · show (subFlags (s.mem8 a) ((s.after8 a).mem8 (s.es.lin s.gpr.di)) false).2.zf = true ↔ _
    rw [hab, zf_subFlags, first, second]

end Sys2Proof.Machine

open Sys2Proof Sys2Proof.Machine

/-- Settles O30: the stores by what a read finds after them, the instructions by the reads and stores they make. -/
theorem memoryAccesses : Obligations.MemoryAccesses := by
  intro s
  refine ⟨fun hm => ⟨put8_mem_store hm, put16_mem_store hm, pushed_store hm⟩, fun hl ea r r8 => ?_,
    fun hl hrep hsrc hdst => exec_cmpsb_outside hl hrep hsrc hdst⟩
  intro a
  refine ⟨fun h => ⟨_, exec_movRbEb hl r8 h, rfl, setReg8_reg8 _ r8 _⟩, fun h => ⟨_, exec_movRwEw hl r h,
    fun hin hin1 => ?_, fun ho ho1 => after16_io_outside ho ho1⟩, fun h i hi => ?_, fun h i hi => ?_⟩
  · show (s.after16 a).io = s.io
    rw [after16_inside hin hin1]
  · obtain ⟨lost, f, silent, body, runs, hbody⟩ := exec_runs_modify8 s ea r8 i hi
    obtain ⟨t, v, ht, hio⟩ := modify8_io (lost := lost) h silent
    exact ⟨t.done, v, exec_completes runs hl (hbody.trans ht), hio⟩
  · obtain ⟨lost, f, silent, body, runs, hbody⟩ := exec_runs_modify16 s ea r i hi
    obtain ⟨t, v, w, ht, hin, hout⟩ := modify16_io (lost := lost) h silent
    exact ⟨t.done, v, w, exec_completes runs hl (hbody.trans ht), hin, hout⟩

end

section
/-! SUPPORT. The decoder as a reader of bytes: what each of its parts reads (30_encoding.md R180 to R203;
49_npx_instructions.md R621). -/

namespace Sys2Proof

/-! ### Readers -/

/-- The reader `p` takes the bytes `bs` off the front of any bytes, and gives `a`. -/
def Reads {α : Type} (p : Parse α) (bs : List Byte) (a : α) : Prop :=
  ∀ rest, p (bs ++ rest) = .ok a rest

theorem bind_of_ok {α β : Type} {p : Parse α} {f : α → Parse β} {bs rest : List Byte} {a : α}
    (h : p bs = .ok a rest) : (p >>= f) bs = f a rest := by
  simp only [bind, EStateM.bind, h]

theorem Reads.bind {α β : Type} {p : Parse α} {f : α → Parse β} {bs cs : List Byte} {a : α} {b : β}
    (hp : Reads p bs a) (hf : Reads (f a) cs b) : Reads (p >>= f) (bs ++ cs) b := fun rest => by
  rw [List.append_assoc, bind_of_ok (hp _), hf]

theorem Reads.map {α β : Type} {p : Parse α} {bs : List Byte} {a : α} (hp : Reads p bs a) (k : α → β) {b : β}
    (hb : k a = b := by rfl) : Reads (p >>= fun x => pure (k x)) bs b := fun rest => hb ▸ bind_of_ok (hp rest)

theorem reads_nextByte (b : Byte) : Reads nextByte [b] b := fun _ => rfl

theorem reads_cons {α : Type} {f : Byte → Parse α} {b : Byte} {bs : List Byte} {a : α} (h : Reads (f b) bs a) :
    Reads (nextByte >>= f) (b :: bs) a :=
  (reads_nextByte b).bind h

theorem reads_nextWord (w : Word) : Reads nextWord (wordBytes w) w := fun rest =>
  congrArg (EStateM.Result.ok · rest) (Machine.Word.of_hi_lo w)

/-! ### Register numbers -/

theorem Reg16.ofCode_code (r : Reg16) : Reg16.ofCode r.code = r := by cases r <;> rfl
theorem Reg8.ofCode_code (r : Reg8) : Reg8.ofCode r.code = r := by cases r <;> rfl
theorem EaBase.ofCode_code (b : EaBase) : EaBase.ofCode b.code = b := by cases b <;> rfl

/-- Only `[BP]` has the number that stands for the direct address with mod = 00. -/
theorem EaBase.eq_bp_of_code {b : EaBase} (h : b.code = 6) : b = .bp := by
  rw [← EaBase.ofCode_code b, h]
  rfl

/-! ### The ModRM byte and the operand it begins (30_encoding.md R189, R190) -/

def ModRm.byte (m : ModRm) : Byte := m.mod ++ m.reg ++ m.rm

theorem ModRm.ofByte_byte (m : ModRm) : ModRm.ofByte m.byte = m := by
  have hmod : m.byte.extractLsb' 6 2 = m.mod := by
    refine (BitVec.extractLsb'_append_eq_of_le (by decide)).trans ?_
    exact BitVec.extractLsb'_append_eq_left
  have hreg : m.byte.extractLsb' 3 3 = m.reg := by
    refine (BitVec.extractLsb'_append_eq_of_le (by decide)).trans ?_
    exact BitVec.extractLsb'_append_eq_right
  have hrm : m.byte.extractLsb' 0 3 = m.rm := BitVec.extractLsb'_append_eq_right
  rw [ModRm.ofByte, hmod, hreg, hrm]

theorem reads_nextModRm (m : ModRm) : Reads nextModRm [m.byte] m := fun rest =>
  congrArg (EStateM.Result.ok · rest) m.ofByte_byte

/-- The ModRM fields of a memory operand, `g` in the reg field. -/
def Ea.modRm (g : BitVec 3) (ea : Ea) : ModRm where
  mod := match ea with
    | .noDisp _ | .direct _ => 0
    | .disp8 _ _ => 1
    | .disp16 _ _ => 2
  reg := g
  rm := match ea with
    | .direct _ => 6
    | .noDisp b | .disp8 b _ | .disp16 b _ => b.code

/-- The displacement of a memory operand. -/
def Ea.dispBytes : Ea → List Byte
  | .noDisp _ => []
  | .direct d | .disp16 _ d => wordBytes d
  | .disp8 _ d => [d]

theorem encodeEa_eq (g : BitVec 3) (ea : Ea) : encodeEa g ea = (ea.modRm g).byte :: ea.dispBytes := by
  cases ea <;> rfl

theorem Ea.modRm_mod_ne (g : BitVec 3) (ea : Ea) : (ea.modRm g).mod ≠ 3 := by
  cases ea <;> simp [Ea.modRm]

theorem reads_nextEa {ea : Ea} (h : ea.wf = true) (g : BitVec 3) :
    Reads (nextEa (ea.modRm g)) ea.dispBytes ea := by
  cases ea with
  | noDisp b =>
    have hb : b.code ≠ 6 := fun hc => bne_iff_ne.mp h (EaBase.eq_bp_of_code hc)
    intro rest
    show (if b.code = 6 then _ else pure (Ea.noDisp (EaBase.ofCode b.code)) : Parse Ea) rest = _
    rw [if_neg hb, EaBase.ofCode_code]
    rfl
  | direct d => exact (reads_nextWord d).map _
  | disp8 b d => exact (reads_nextByte d).map _ (congrArg (Ea.disp8 · d) b.ofCode_code)
  | disp16 b d => exact (reads_nextWord d).map _ (congrArg (Ea.disp16 · d) b.ofCode_code)

/-- The ModRM fields of a register-or-memory operand, `g` in the reg field. -/
def Rm.modRm {R : Type} (code : R → BitVec 3) (g : BitVec 3) (d : Rm R) : ModRm where
  mod := match d with
    | .reg _ => 3
    | .mem ea => (ea.modRm g).mod
  reg := g
  rm := match d with
    | .reg r => code r
    | .mem ea => (ea.modRm g).rm

/-- The displacement of a register-or-memory operand. -/
def Rm.dispBytes {R : Type} : Rm R → List Byte
  | .reg _ => []
  | .mem ea => ea.dispBytes

theorem encodeRm_eq {R : Type} (code : R → BitVec 3) (g : BitVec 3) (d : Rm R) :
    encodeRm code g d = (d.modRm code g).byte :: d.dispBytes := by
  cases d with
  | reg r => rfl
  | mem ea => exact encodeEa_eq g ea

theorem reads_nextRm {R : Type} {code : R → BitVec 3} {ofCode : BitVec 3 → R} (hc : ∀ r, ofCode (code r) = r)
    {d : Rm R} (h : d.wf = true) (g : BitVec 3) : Reads (nextRm ofCode (d.modRm code g)) d.dispBytes d := by
  cases d with
  | reg r => exact fun rest => congrArg (fun q => EStateM.Result.ok (Rm.reg q) rest) (hc r)
  | mem ea =>
    have hm : nextRm ofCode (ea.modRm g) = _ := if_neg (ea.modRm_mod_ne g)
    show Reads (nextRm ofCode (ea.modRm g)) ea.dispBytes (.mem ea)
    rw [hm]
    exact (reads_nextEa h g).map Rm.mem

/-! ### Operand shapes -/

section Shapes

variable {d8 : Rm Reg8} {d16 : Rm Reg16} {ea : Ea} (h8 : d8.wf = true) (h16 : d16.wf = true) (hea : ea.wf = true)
  (g : BitVec 3) (v : Byte) (w : Word)

include h8 in
theorem reads_rm8 (k : Rm Reg8 → Instr) : Reads (rm8 (d8.modRm Reg8.code g) k) d8.dispBytes (k d8) :=
  (reads_nextRm Reg8.ofCode_code h8 g).map k

include h8 in
theorem reads_rm8Imm8 (k : Rm Reg8 → Byte → Instr) :
    Reads (rm8Imm8 (d8.modRm Reg8.code g) k) (d8.dispBytes ++ [v]) (k d8 v) :=
  (reads_nextRm Reg8.ofCode_code h8 g).bind ((reads_nextByte v).map _)

include h16 in
theorem reads_rm16 (k : Rm Reg16 → Instr) : Reads (rm16 (d16.modRm Reg16.code g) k) d16.dispBytes (k d16) :=
  (reads_nextRm Reg16.ofCode_code h16 g).map k

include h16 in
theorem reads_rm16Imm8 (k : Rm Reg16 → Byte → Instr) :
    Reads (rm16Imm8 (d16.modRm Reg16.code g) k) (d16.dispBytes ++ [v]) (k d16 v) :=
  (reads_nextRm Reg16.ofCode_code h16 g).bind ((reads_nextByte v).map _)

include h16 in
theorem reads_rm16Imm16 (k : Rm Reg16 → Word → Instr) :
    Reads (rm16Imm16 (d16.modRm Reg16.code g) k) (d16.dispBytes ++ wordBytes w) (k d16 w) :=
  (reads_nextRm Reg16.ofCode_code h16 g).bind ((reads_nextWord w).map _)

include hea in
theorem reads_memOnly (k : Ea → Instr) : Reads (memOnly (ea.modRm g) k) ea.dispBytes (k ea) :=
  (reads_nextEa hea g).map k

theorem reads_imm8 (k : Byte → Instr) : Reads (imm8 k) [v] (k v) := (reads_nextByte v).map k

theorem reads_imm16 (k : Word → Instr) : Reads (imm16 k) (wordBytes w) (k w) := (reads_nextWord w).map k

theorem reads_farPtr (sel : Word) (k : Word → Word → Instr) :
    Reads (farPtr k) (wordBytes w ++ wordBytes sel) (k w sel) :=
  (reads_nextWord w).bind ((reads_nextWord sel).map _)

/-! What goes on from a ModRM byte goes on with the fields it was made of. -/

variable {f : ModRm → Parse Instr} {g} {tail : List Byte} {i : Instr}

theorem reads_ea (h : Reads (f (ea.modRm g)) ea.dispBytes i) : Reads (nextModRm >>= f) (encodeEa g ea) i := by
  rw [encodeEa_eq]
  exact (reads_nextModRm _).bind h

theorem reads_rm {R : Type} {code : R → BitVec 3} {d : Rm R} (h : Reads (f (d.modRm code g)) d.dispBytes i) :
    Reads (nextModRm >>= f) (encodeRm code g d) i := by
  rw [encodeRm_eq]
  exact (reads_nextModRm _).bind h

theorem reads_rm_append {R : Type} {code : R → BitVec 3} {d : Rm R}
    (h : Reads (f (d.modRm code g)) (d.dispBytes ++ tail) i) :
    Reads (nextModRm >>= f) (encodeRm code g d ++ tail) i := by
  rw [encodeRm_eq]
  exact (reads_nextModRm _).bind h

/-! `/r` forms. -/

include h8 in
theorem reads_rm8Reg (r : Reg8) (k : Rm Reg8 → Reg8 → Instr) :
    Reads (rm8Reg k) (encodeRm Reg8.code r.code d8) (k d8 r) :=
  reads_rm ((reads_nextRm Reg8.ofCode_code h8 r.code).map _ (congrArg (k d8) r.ofCode_code))

include h8 in
theorem reads_reg8Rm (r : Reg8) (k : Reg8 → Rm Reg8 → Instr) :
    Reads (rm8Reg fun d r => k r d) (encodeRm Reg8.code r.code d8) (k r d8) :=
  reads_rm8Reg h8 r fun d r => k r d

include h16 in
theorem reads_rm16Reg (r : Reg16) (k : Rm Reg16 → Reg16 → Instr) :
    Reads (rm16Reg k) (encodeRm Reg16.code r.code d16) (k d16 r) :=
  reads_rm ((reads_nextRm Reg16.ofCode_code h16 r.code).map _ (congrArg (k d16) r.ofCode_code))

include h16 in
theorem reads_reg16Rm (r : Reg16) (k : Reg16 → Rm Reg16 → Instr) :
    Reads (rm16Reg fun d r => k r d) (encodeRm Reg16.code r.code d16) (k r d16) :=
  reads_rm16Reg h16 r fun d r => k r d

include hea in
theorem reads_regMem (r : Reg16) (k : Reg16 → Ea → Instr) :
    Reads (regMem k) (encodeEa r.code ea) (k r ea) :=
  reads_ea ((reads_nextEa hea r.code).map _ (congrArg (k · ea) r.ofCode_code))

end Shapes

/-! ### ESC (49_npx_instructions.md R621) -/

/-- The instruction of an ESC opcode: TTT, the reg field, and the operand. -/
noncomputable def escInstr (x g : Nat) : Rm (BitVec 3) → Instr
  | .mem ea => escMem x g ea
  | .reg i => escReg x g i

theorem reads_decodeEsc (x : Nat) (g : BitVec 3) {d : Rm (BitVec 3)} (h : d.wf = true) :
    Reads (decodeEsc x) (encodeRm id g d) (escInstr x g.toNat d) := by
  refine reads_rm fun rest => ?_
  rw [bind_of_ok (reads_nextRm (fun _ => rfl) h g rest)]
  cases d <;> rfl

theorem reads_escMem (x : Nat) (g : BitVec 3) {ea : Ea} (h : ea.wf = true) :
    Reads (decodeEsc x) (encodeEa g ea) (escMem x g.toNat ea) :=
  reads_decodeEsc x g (d := .mem ea) h

theorem reads_escReg (x : Nat) (g i : BitVec 3) : Reads (decodeEsc x) (encodeSti g i) (escReg x g.toNat i) :=
  reads_decodeEsc x g (d := .reg i) rfl

theorem escMem_reserved (ea : Ea) :
    ∀ p ∈ escReservedMem, escMem p.1 p.2 ea = .escReserved (.ofNat 3 p.1) (.ofNat 3 p.2) (.mem ea) := by
  unfold escReservedMem
  intro p hp
  fin_cases hp <;> rfl

theorem escReg_reservedGroup (i : BitVec 3) :
    ∀ p ∈ escReservedGroup, escReg p.1 p.2 i = .escReserved (.ofNat 3 p.1) (.ofNat 3 p.2) (.reg i) := by
  unfold escReservedGroup
  intro p hp
  fin_cases hp <;> rfl

theorem escReg_reservedReg : ∀ p ∈ escReservedReg,
    escReg p.1 p.2.1 (.ofNat 3 p.2.2) = .escReserved (.ofNat 3 p.1) (.ofNat 3 p.2.1) (.reg (.ofNat 3 p.2.2)) := by
  unfold escReservedReg
  intro p hp
  fin_cases hp <;> rfl

/-- The reserved encodings are those for which the table has no row of their own. -/
theorem escInstr_of_reserved {x g : BitVec 3} {d : Rm (BitVec 3)} (h : escIsReserved x g d = true) :
    escInstr x.toNat g.toNat d = .escReserved x g d := by
  cases d with
  | mem ea => simpa [escInstr] using escMem_reserved ea _ (List.contains_iff_mem.mp h)
  | reg i =>
    rcases Bool.or_eq_true _ _ ▸ h with hg | hi
    · simpa [escInstr] using escReg_reservedGroup i _ (List.contains_iff_mem.mp hg)
    · simpa [escInstr] using escReg_reservedReg _ (List.contains_iff_mem.mp hi)

theorem bitVec3_cases : ∀ x : BitVec 3, x = 0 ∨ x = 1 ∨ x = 2 ∨ x = 3 ∨ x = 4 ∨ x = 5 ∨ x = 6 ∨ x = 7 := by decide

/-- The ESC opcodes, D8H and up. -/
theorem reads_esc (x g : BitVec 3) {d : Rm (BitVec 3)} (h : d.wf = true) :
    Reads decodeFirst (((27 : BitVec 5) ++ x) :: encodeRm id g d) (escInstr x.toNat g.toNat d) := by
  rcases bitVec3_cases x with rfl | rfl | rfl | rfl | rfl | rfl | rfl | rfl <;>
    exact reads_cons (reads_decodeEsc _ g h)

/-- What the encoder writes of a well-formed instruction, the decoder reads; one case for each shape of operands. -/
theorem reads_encode {i : Instr} (h : i.wf = true) : Reads decodeFirst (encode i) i := by
  cases i with
  | pushEs | popEs | pushCs | clts | pushSs | popSs | pushDs | popDs | pfxEs | daa | pfxCs | das | pfxSs | aaa
  | pfxDs | aas | pusha | popa | insb | insw | outsb | outsw | nop | cbw | cwd | wait | pushf | popf | sahf | lahf
  | movsb | movsw | cmpsb | cmpsw | stosb | stosw | lodsb | lodsw | scasb | scasw | retNear | leave | retFar | int3
  | into | iret | aam | aad | xlat | inAlDx | inAxDx | outDxAl | outDxAx | pfxLock | pfxRepne | pfxRep | hlt | cmc
  | clc | stc | cli | sti | cld | std | fnop | fchs | fabs | ftst | fxam | fld1 | fldl2t | fldl2e | fldpi | fldlg2
  | fldln2 | fldz | f2xm1 | fyl2x | fptan | fpatan | fxtract | fdecstp | fincstp | fprem | fyl2xp1 | fsqrt | frndint
  | fscale | fneni | fndisi | fnclex | fninit | fsetpm | fcompp | fnstswAx =>
    exact fun _ => rfl
  | incRw r | decRw r | pushRw r | popRw r =>
    cases r <;> exact fun _ => rfl
  | xchgAxRw r =>
    cases r with
    | ax => cases h
    | _ => exact fun _ => rfl
  | addAlDb v | orAlDb v | adcAlDb v | sbbAlDb v | andAlDb v | subAlDb v | xorAlDb v | cmpAlDb v | pushDb v | joCb v
  | jnoCb v | jbCb v | jnbCb v | jeCb v | jneCb v | jbeCb v | jnbeCb v | jsCb v | jnsCb v | jpCb v | jnpCb v
  | jlCb v | jnlCb v | jleCb v | jnleCb v | testAlDb v | intDb v | loopneCb v | loopeCb v | loopCb v | jcxzCb v
  | inAlDb v | inAxDb v | outDbAl v | outDbAx v | jmpCb v =>
    exact reads_cons (reads_imm8 v _)
  | addAxDw w | orAxDw w | adcAxDw w | sbbAxDw w | andAxDw w | subAxDw w | xorAxDw w | cmpAxDw w | pushDw w
  | movAlXb w | movAxXw w | movXbAl w | movXwAx w | testAxDw w | retNearDw w | retFarDw w | callCw w | jmpCw w =>
    exact reads_cons (reads_imm16 w _)
  | movRbDb r v =>
    cases r <;> exact reads_cons (reads_imm8 v _)
  | movRwDw r w =>
    cases r <;> exact reads_cons (reads_imm16 w _)
  | callCd off sel | jmpCd off sel =>
    exact reads_cons (reads_farPtr off sel _)
  | enterDwDb size level =>
    exact reads_cons ((reads_nextWord size).bind ((reads_nextByte level).map _))
  | addEbRb d r | orEbRb d r | adcEbRb d r | sbbEbRb d r | andEbRb d r | subEbRb d r | xorEbRb d r | cmpEbRb d r
  | testEbRb d r | xchgEbRb d r | movEbRb d r =>
    exact reads_cons (reads_rm8Reg h r _)
  | addEwRw d r | orEwRw d r | adcEwRw d r | sbbEwRw d r | andEwRw d r | subEwRw d r | xorEwRw d r | cmpEwRw d r
  | arplEwRw d r | testEwRw d r | xchgEwRw d r | movEwRw d r =>
    exact reads_cons (reads_rm16Reg h r _)
  | addRbEb r d | orRbEb r d | adcRbEb r d | sbbRbEb r d | andRbEb r d | subRbEb r d | xorRbEb r d | cmpRbEb r d
  | movRbEb r d =>
    exact reads_cons (reads_reg8Rm h r _)
  | addRwEw r d | orRwEw r d | adcRwEw r d | sbbRwEw r d | andRwEw r d | subRwEw r d | xorRwEw r d | cmpRwEw r d
  | movRwEw r d =>
    exact reads_cons (reads_reg16Rm h r _)
  | boundRwMd r ea | leaRwM r ea | lesRwEd r ea | ldsRwEd r ea =>
    exact reads_cons (reads_regMem h r _)
  | imulRwEwDw r d w =>
    cases r <;> exact reads_cons (reads_rm_append (reads_rm16Imm16 h _ w _))
  | imulRwEwDb r d v =>
    cases r <;> exact reads_cons (reads_rm_append (reads_rm16Imm8 h _ v _))
  | movEwSreg d sr =>
    cases sr <;> exact reads_cons (reads_rm (reads_rm16 h _ _))
  | rolEb1 d | rorEb1 d | rclEb1 d | rcrEb1 d | salEb1 d | shrEb1 d | sarEb1 d | rolEbCl d | rorEbCl d | rclEbCl d
  | rcrEbCl d | salEbCl d | shrEbCl d | sarEbCl d | notEb d | negEb d | mulEb d | imulEb d | divEb d | idivEb d
  | incEb d | decEb d =>
    exact reads_cons (reads_rm (reads_rm8 h _ _))
  | movEsEw d | movSsEw d | movDsEw d | popMw d | rolEw1 d | rorEw1 d | rclEw1 d | rcrEw1 d | salEw1 d | shrEw1 d
  | sarEw1 d | rolEwCl d | rorEwCl d | rclEwCl d | rcrEwCl d | salEwCl d | shrEwCl d | sarEwCl d | notEw d | negEw d
  | mulEw d | imulEw d | divEw d | idivEw d | incEw d | decEw d | callEw d | jmpEw d | pushMw d =>
    exact reads_cons (reads_rm (reads_rm16 h _ _))
  | callEd ea | jmpEd ea =>
    exact reads_cons (reads_ea (reads_memOnly h _ _))
  | addEbDb d v | orEbDb d v | adcEbDb d v | sbbEbDb d v | andEbDb d v | subEbDb d v | xorEbDb d v | cmpEbDb d v
  | rolEbDb d v | rorEbDb d v | rclEbDb d v | rcrEbDb d v | salEbDb d v | shrEbDb d v | sarEbDb d v | movEbDb d v
  | testEbDb d v =>
    exact reads_cons (reads_rm_append (reads_rm8Imm8 h _ v _))
  | addEwDw d w | orEwDw d w | adcEwDw d w | sbbEwDw d w | andEwDw d w | subEwDw d w | xorEwDw d w | cmpEwDw d w
  | movEwDw d w | testEwDw d w =>
    exact reads_cons (reads_rm_append (reads_rm16Imm16 h _ w _))
  | addEwDb d v | adcEwDb d v | sbbEwDb d v | subEwDb d v | cmpEwDb d v | rolEwDb d v | rorEwDb d v | rclEwDb d v
  | rcrEwDb d v | salEwDb d v | shrEwDb d v | sarEwDb d v =>
    exact reads_cons (reads_rm_append (reads_rm16Imm8 h _ v _))
  | sldtEw d | strEw d | lldtEw d | ltrEw d | verrEw d | verwEw d | smswEw d | lmswEw d =>
    exact reads_cons (reads_cons (reads_rm (reads_rm16 h _ _)))
  | sgdtM ea | sidtM ea | lgdtM ea | lidtM ea =>
    exact reads_cons (reads_cons (reads_ea (reads_memOnly h _ _)))
  | larRwEw r d | lslRwEw r d =>
    exact reads_cons (reads_cons (reads_reg16Rm h r _))
  | faddM32real ea | fmulM32real ea | fcomM32real ea | fcompM32real ea | fsubM32real ea | fsubrM32real ea
  | fdivM32real ea | fdivrM32real ea | fldM32real ea | fstM32real ea | fstpM32real ea | fldenvM14byte ea
  | fldcwM2byte ea | fnstenvM14byte ea | fnstcwM2byte ea | fiaddM32int ea | fimulM32int ea | ficomM32int ea
  | ficompM32int ea | fisubM32int ea | fisubrM32int ea | fidivM32int ea | fidivrM32int ea | fildM32int ea
  | fistM32int ea | fistpM32int ea | fldM80real ea | fstpM80real ea | faddM64real ea | fmulM64real ea
  | fcomM64real ea | fcompM64real ea | fsubM64real ea | fsubrM64real ea | fdivM64real ea | fdivrM64real ea
  | fldM64real ea | fstM64real ea | fstpM64real ea | frstorM94byte ea | fnsaveM94byte ea | fnstswM2byte ea
  | fiaddM16int ea | fimulM16int ea | ficomM16int ea | ficompM16int ea | fisubM16int ea | fisubrM16int ea
  | fidivM16int ea | fidivrM16int ea | fildM16int ea | fistM16int ea | fistpM16int ea | fbldM80dec ea
  | fildM64int ea | fbstpM80dec ea | fistpM64int ea =>
    exact reads_cons (reads_escMem _ _ h)
  | faddStSti i | fmulStSti i | fcomSti i | fcompSti i | fsubStSti i | fsubrStSti i | fdivStSti i | fdivrStSti i
  | fldSti i | fxchSti i | fstpStiD9 i | faddStiSt i | fmulStiSt i | fcomStiDC i | fcompStiDC i | fsubrStiSt i
  | fsubStiSt i | fdivrStiSt i | fdivStiSt i | ffreeSti i | fxchStiDD i | fstSti i | fstpSti i | faddpStiSt i
  | fmulpStiSt i | fcompStiDE i | fsubrpStiSt i | fsubpStiSt i | fdivrpStiSt i | fdivpStiSt i | ffreeStiDF i
  | fxchStiDF i | fstpStiDFD0 i | fstpStiDFD8 i =>
    exact reads_cons (reads_escReg _ _ i)
  | escReserved x g d =>
    obtain ⟨hd, hr⟩ := Bool.and_eq_true _ _ ▸ h
    have hesc := reads_esc x g hd
    rwa [escInstr_of_reserved hr] at hesc

/-- A reader of the encoding reads no byte too many. -/
theorem decode_of_reads {bs : List Byte} {i : Instr} (h : Reads decodeFirst bs i) (rest : List Byte) :
    decode (bs ++ rest) = .ok i bs.length := by
  rw [decode, h rest]
  simp

end Sys2Proof

open Sys2Proof

/-- Settles O1: the decoder reads the encoding of each instruction, part by part. -/
theorem decodeEncodeAgree : Obligations.DecodeEncodeAgree :=
  fun _ h rest => decode_of_reads (reads_encode h) rest

/-- Settles O2: every row is the encoding of its instruction, and one has bytes after it. -/
theorem decodeSpecWords : Obligations.DecodeSpecWords :=
  ⟨decodeEncodeAgree (.movDsEw (.reg .ax)) rfl [],
    decodeEncodeAgree (.movSsEw (.reg .ax)) rfl [],
    decodeEncodeAgree (.movRwEw .cx (.mem (.direct 0x0002))) rfl [],
    decodeEncodeAgree (.imulEw (.reg .cx)) rfl [],
    decodeEncodeAgree (.movRwEw .si (.reg .ax)) rfl [],
    decodeEncodeAgree (.subEwDb (.reg .si) 0x04) rfl [],
    decodeEncodeAgree (.decEw (.mem (.direct 0x0002))) rfl [],
    decodeEncodeAgree (.loopCb 0xEB) rfl [],
    decodeEncodeAgree .wait rfl [],
    decodeEncodeAgree (.fldcwM2byte (.direct 0x0000)) rfl [],
    decodeEncodeAgree (.fldM32real (.disp16 .si 0x0004)) rfl [],
    decodeEncodeAgree .fldz rfl [],
    decodeEncodeAgree (.movRwEw .ax (.mem (.disp8 .bp 0x06))) rfl [],
    decodeEncodeAgree (.addEwRw (.mem (.disp8 .bx 0x10)) .cx) rfl [],
    decodeEncodeAgree (.movRwEw .dx (.mem (.noDisp .bpDi))) rfl [],
    decodeEncodeAgree (.andEwDw (.mem (.noDisp .bxSi)) 0x03FF) rfl [],
    decodeEncodeAgree (.addEwDw (.mem (.disp16 .si 0x1000)) 0x1234) rfl [],
    decodeEncodeAgree .pfxEs rfl [0x8B, 0x07],
    decodeEncodeAgree (.movRwEw .ax (.mem (.noDisp .bx))) rfl [],
    decodeEncodeAgree (.enterDwDb 0x0010 0x02) rfl [],
    decodeEncodeAgree (.jmpCd 0x1000 0xF000) rfl []⟩

end

section
/-! SUPPORT. What the decoder refuses (30_encoding.md R200). -/

namespace Sys2Proof

/-! ### Refusals -/

theorem bind_of_error {α β : Type} {p : Parse α} {f : α → Parse β} {bs rest : List Byte} {e : DecodeError}
    (h : p bs = .error e rest) : (p >>= f) bs = .error e rest := by
  simp only [bind, EStateM.bind, h]

/-- The reader `p` refuses the bytes `bs` with the error `e`. -/
def Refuses (p : Parse Instr) (bs : List Byte) (e : DecodeError) : Prop :=
  ∃ rest, p bs = .error e rest

theorem decode_of_refuses {bs : List Byte} {e : DecodeError} (h : Refuses decodeFirst bs e) :
    decode bs = .error e := by
  obtain ⟨rest, h⟩ := h
  rw [decode, h]

theorem refuses_undefinedOp (bs : List Byte) : Refuses undefinedOp bs .undefinedOpcode := ⟨bs, rfl⟩

theorem refuses_undefinedOp_of_not {c : Prop} [Decidable c] {p : Parse Instr} (h : ¬c) (bs : List Byte) :
    Refuses (if c then p else undefinedOp) bs .undefinedOpcode := by
  rw [if_neg h]
  exact refuses_undefinedOp bs

theorem refuses_cons {f : Byte → Parse Instr} {b : Byte} {bs : List Byte} {e : DecodeError} (h : Refuses (f b) bs e) :
    Refuses (nextByte >>= f) (b :: bs) e := h

/-- Where bits 5-3 of the ModRm byte select, what they select decides. -/
theorem refuses_ext {f : ModRm → Parse Instr} {m : Byte} {g : BitVec 3} {bs : List Byte} {e : DecodeError}
    (hg : m.extractLsb' 3 3 = g) (h : Refuses (f { ModRm.ofByte m with reg := g }) bs e) :
    Refuses (nextModRm >>= f) (m :: bs) e := by
  subst hg
  exact h

/-! ### Operands -/

/-- A form that needs memory refuses mod = 11 (R200 case 5). -/
theorem refuses_memOnly {m : ModRm} (h : m.mod = 3) (k : Ea → Instr) (bs : List Byte) :
    Refuses (memOnly m k) bs .undefinedOpcode := by
  refine ⟨bs, bind_of_error ?_⟩
  rw [nextEa, h]
  rfl

/-- A displacement is two bytes at most. -/
theorem nextEa_ok {m : ModRm} (hm : m.mod ≠ 3) (b c : Byte) (bs : List Byte) :
    ∃ ea rest, nextEa m (b :: c :: bs) = .ok ea rest := by
  obtain ⟨mod, reg, rm⟩ := m
  have mods : ∀ x : BitVec 2, x = 0 ∨ x = 1 ∨ x = 2 ∨ x = 3 := by decide
  rcases mods mod with rfl | rfl | rfl | rfl
  · by_cases h6 : rm = 6
    · subst h6
      exact ⟨_, _, rfl⟩
    · exact ⟨.noDisp (EaBase.ofCode rm), b :: c :: bs, congrFun (if_neg h6) _⟩
  · exact ⟨_, _, rfl⟩
  · exact ⟨_, _, rfl⟩
  · exact absurd rfl hm

/-- A register operand takes no more bytes, and a memory operand two at most. -/
theorem nextRm_ok {R : Type} (ofCode : BitVec 3 → R) {m : ModRm} {bs : List Byte} (h : m.mod = 3 ∨ 2 ≤ bs.length) :
    ∃ d rest, nextRm ofCode m bs = .ok d rest := by
  by_cases hm : m.mod = 3
  · exact ⟨.reg (ofCode m.rm), bs, congrFun (if_pos hm) bs⟩
  · obtain ⟨b, c, tail, rfl⟩ : ∃ b c tail, bs = b :: c :: tail := by
      match bs, h.resolve_left hm with
      | b :: c :: tail, _ => exact ⟨b, c, tail, rfl⟩
    obtain ⟨ea, rest, hea⟩ := nextEa_ok hm b c tail
    exact ⟨.mem ea, rest, (congrFun (if_neg hm) _).trans (bind_of_ok hea)⟩

/-- 8FH /1 to /7 and FFH /7: the operand is read before the fault. -/
theorem refuses_generalFault {m : ModRm} {bs : List Byte} (h : m.mod = 3 ∨ 2 ≤ bs.length) :
    Refuses (generalFault m) bs .general := by
  obtain ⟨d, rest, hd⟩ := nextRm_ok Reg16.ofCode h
  exact ⟨rest, bind_of_ok hd⟩

/-! ### The rows of R200 -/

/-- Opcode bytes that no instruction begins with, whatever follows. -/
theorem refuses_opcode {b : Byte} (h : b ∈ ([0x64, 0x65, 0x66, 0x67, 0xD6, 0xF1, 0x82] : List Byte))
    (bs : List Byte) : Refuses decodeFirst (b :: bs) .undefinedOpcode := by
  simp only [List.mem_cons, List.not_mem_nil, or_false] at h
  rcases h with rfl | rfl | rfl | rfl | rfl | rfl | rfl <;> exact refuses_cons (refuses_undefinedOp _)

/-- The second opcode bytes after 0FH that no row has. -/
theorem refuses_twoByte {b : Byte} (h : b ∉ ([0x00, 0x01, 0x02, 0x03, 0x06] : List Byte)) (bs : List Byte) :
    Refuses decodeTwoByte (b :: bs) .undefinedOpcode := by
  simp only [List.mem_cons, List.not_mem_nil, or_false, not_or] at h
  obtain ⟨h0, h1, h2, h3, h6⟩ := h
  refine refuses_cons ?_
  split
  next hb => exact absurd (BitVec.eq_of_toNat_eq hb) h0
  next hb => exact absurd (BitVec.eq_of_toNat_eq hb) h1
  next hb => exact absurd (BitVec.eq_of_toNat_eq hb) h2
  next hb => exact absurd (BitVec.eq_of_toNat_eq hb) h3
  next hb => exact absurd (BitVec.eq_of_toNat_eq hb) h6
  next => exact refuses_undefinedOp bs

/-- LGDT, LIDT, SGDT and SIDT need memory. -/
theorem refuses_table_register {m : Byte} (hx : (m.extractLsb' 3 3).toNat ≤ 3) (hmod : m.extractLsb' 6 2 = 3#2)
    (bs : List Byte) : Refuses decodeFirst (0x0F :: 0x01 :: m :: bs) .undefinedOpcode := by
  have low : ∀ g : BitVec 3, g.toNat ≤ 3 → g = 0 ∨ g = 1 ∨ g = 2 ∨ g = 3 := by decide
  rcases low _ hx with hg | hg | hg | hg <;>
    exact refuses_cons (refuses_cons (refuses_ext hg (refuses_memOnly hmod _ _)))

end Sys2Proof

open Sys2Proof

/-- Settles O3: what the opcode maps select for each row of R200 refuses. -/
theorem undefinedEncodingsRefused : Obligations.UndefinedEncodingsRefused := by
  intro rest b m mod ext
  have exts : ext = 0 ∨ ext = 1 ∨ ext = 2 ∨ ext = 3 ∨ ext = 4 ∨ ext = 5 ∨ ext = 6 ∨ ext = 7 := bitVec3_cases ext
  refine ⟨fun h => decode_of_refuses (refuses_opcode h rest), fun h => decode_of_refuses ?_,
    fun h => decode_of_refuses (refuses_cons (refuses_twoByte h rest)), fun h => decode_of_refuses ?_,
    fun h hlen => decode_of_refuses ?_⟩
  · simp only [List.mem_cons, List.not_mem_nil, or_false] at h
    rcases h with ⟨rfl, hx⟩ | ⟨hb, hx⟩ | ⟨rfl, hx⟩ | ⟨hb, hx⟩ | ⟨hb, hx⟩ | ⟨hb, hm⟩ | ⟨hb, hx⟩ | ⟨rfl, h0, h1⟩ |
      ⟨rfl, hx, hmod⟩ | ⟨hb, hmod⟩
    · rcases hx with hx | hx | hx <;> exact refuses_cons (refuses_ext hx (refuses_undefinedOp _))
    · rcases hb with rfl | rfl <;> rcases hx with hx | hx | hx | hx <;>
        exact refuses_cons (refuses_ext hx (refuses_undefinedOp _))
    · exact refuses_cons (refuses_ext hx (refuses_undefinedOp _))
    · rcases hb with rfl | rfl | rfl | rfl | rfl | rfl <;>
        exact refuses_cons (refuses_ext hx (refuses_undefinedOp _))
    · rcases hb with rfl | rfl <;> rcases exts.resolve_left hx with hx | hx | hx | hx | hx | hx | hx <;>
        exact refuses_cons (refuses_ext hx (refuses_undefinedOp _))
    · rcases hb with rfl | rfl <;> exact refuses_cons (refuses_cons (refuses_undefinedOp_of_not hm _))
    · rcases hb with rfl | rfl <;> exact refuses_cons (refuses_ext hx (refuses_undefinedOp _))
    · rcases (exts.resolve_left h0).resolve_left h1 with hx | hx | hx | hx | hx | hx <;>
        exact refuses_cons (refuses_ext hx (refuses_undefinedOp _))
    · rcases hx with hx | hx <;> exact refuses_cons (refuses_ext hx (refuses_memOnly hmod _ _))
    · rcases hb with rfl | rfl | rfl | rfl <;> exact refuses_cons (refuses_ext rfl (refuses_memOnly hmod _ _))
  · rcases h with ⟨rfl, hx⟩ | ⟨rfl, hx | hx | ⟨hx, hmod⟩⟩
    · rcases hx with hx | hx <;> exact refuses_cons (refuses_cons (refuses_ext hx (refuses_undefinedOp _)))
    · exact refuses_cons (refuses_cons (refuses_ext hx (refuses_undefinedOp _)))
    · exact refuses_cons (refuses_cons (refuses_ext hx (refuses_undefinedOp _)))
    · exact refuses_table_register hx hmod rest
  · rcases h with ⟨rfl, hx⟩ | ⟨rfl, hx⟩
    · rcases exts.resolve_left hx with hx | hx | hx | hx | hx | hx | hx <;>
        exact refuses_cons (refuses_ext hx (refuses_generalFault hlen))
    · exact refuses_cons (refuses_ext hx (refuses_generalFault hlen))

end

section
/-! SUPPORT. How the moves, the exchanges and SAHF run (40_data_movement.md R231 to R237, R250, R254). -/

namespace Sys2Proof.Machine

/-! ### Moves -/

theorem movToRm8_run {s : State} {d : Rm Reg8} (r : Reg8) (h : s.canWrite 1 d = true) :
    (movToRm8 d r).run s = .ok () (s.put8 s d (s.reg8 r)) :=
  (run_get_bind _ s).trans (wr8_run d _ s h)

theorem movToRm16_run {s : State} {d : Rm Reg16} (r : Reg16) (h : s.canWrite 2 d = true) :
    (movToRm16 d r).run s = .ok () (s.put16 s d (s.reg16 r)) :=
  (run_get_bind _ s).trans (wr16_run d _ s h)

theorem movFromRm8_run {s : State} {d : Rm Reg8} (r : Reg8) (h : s.canRead 1 d = true) :
    (movFromRm8 r d).run s = .ok () ((s.read8 d).setReg8 r (s.val8 d)) := run_bind_ok (rd8_run d s h)

theorem movFromRm16_run {s : State} {d : Rm Reg16} (r : Reg16) (h : s.canRead 2 d = true) :
    (movFromRm16 r d).run s = .ok () ((s.read16 d).setReg16 r (s.val16 d)) := run_bind_ok (rd16_run d s h)

theorem storeSeg_run {s : State} {d : Rm Reg16} (r : SegReg) (h : s.canWrite 2 d = true) :
    (storeSeg d r).run s = .ok () (s.put16 s d (s.seg r).sel) :=
  (run_get_bind _ s).trans (wr16_run d _ s h)

/-- AL gets the byte that a checked reference reads: MOV AL from a direct offset, XLAT. -/
theorem readSeg8_al_run {s : State} {q : SegReg} {off : Word} (h : s.readOk q off 1 = true) :
    (readSeg8 q off >>= fun v => modify fun t => t.setReg8 .al v).run s =
      .ok () ((s.after8 ((s.seg q).lin off)).setReg8 .al (s.mem8 ((s.seg q).lin off))) :=
  run_bind_ok ((readSeg8_run q off s).trans (if_pos h))

theorem loadDirect8_run {s : State} {off : Word} (h : s.readOk s.dataSeg off 1 = true) :
    (loadDirect8 off).run s = .ok () ((s.after8 ((s.seg s.dataSeg).lin off)).setReg8 .al
      (s.mem8 ((s.seg s.dataSeg).lin off))) :=
  (run_get_bind _ s).trans (readSeg8_al_run h)

theorem loadDirect16_run {s : State} {off : Word} (h : s.readOk s.dataSeg off 2 = true) :
    (loadDirect16 off).run s = .ok () ((s.after16 ((s.seg s.dataSeg).lin off)).setReg16 .ax
      (s.mem16 ((s.seg s.dataSeg).lin off))) :=
  (run_get_bind _ s).trans (run_bind_ok ((readSeg16_run s.dataSeg off s).trans (if_pos h)))

theorem storeDirect8_run {s : State} {off : Word} (h : s.writeOk s.dataSeg off 1 = true) :
    (storeDirect8 off).run s = .ok () (s.setMem8 ((s.seg s.dataSeg).lin off) (s.reg8 .al)) :=
  (run_get_bind _ s).trans ((writeSeg8_run s.dataSeg off _ s).trans (if_pos h))

theorem storeDirect16_run {s : State} {off : Word} (h : s.writeOk s.dataSeg off 2 = true) :
    (storeDirect16 off).run s = .ok () (s.setMem16 ((s.seg s.dataSeg).lin off) s.gpr.ax) :=
  (run_get_bind _ s).trans ((writeSeg16_run s.dataSeg off _ s).trans (if_pos h))

theorem translate_run {s : State} (h : s.readOk s.dataSeg (s.gpr.bx + (s.reg8 .al).setWidth 16) 1 = true) :
    translate.run s =
      .ok () ((s.after8 ((s.seg s.dataSeg).lin (s.gpr.bx + (s.reg8 .al).setWidth 16))).setReg8 .al
        (s.mem8 ((s.seg s.dataSeg).lin (s.gpr.bx + (s.reg8 .al).setWidth 16)))) :=
  (run_get_bind _ s).trans (readSeg8_al_run h)

/-! ### Exchanges -/

/-- XCHG of bytes: the register gets the operand as it was read, and the operand the register as it was before. -/
theorem exchange8_run {s : State} {d : Rm Reg8} (r : Reg8) (h : s.canWrite 1 d = true) :
    (exchange8 d r).run s = .ok () (s.put8 ((s.read8 d).setReg8 r (s.val8 d)) d (s.reg8 r)) := by
  unfold exchange8
  rw [run_get_bind]
  exact modify8_run _ d _ s _ _ h (run_modify_bind _ _ _)

theorem exchange16_run {s : State} {d : Rm Reg16} (r : Reg16) (h : s.canWrite 2 d = true) :
    (exchange16 d r).run s = .ok () (s.put16 ((s.read16 d).setReg16 r (s.val16 d)) d (s.reg16 r)) := by
  unfold exchange16
  rw [run_get_bind]
  exact modify16_run _ d _ s _ _ h (run_modify_bind _ _ _)

/-! ### The low byte of FLAGS -/

/-- The image of FLAGS but for the five flags of its low byte depends on the other fields alone. -/
theorem FlagsReg.word_upper (r : FlagsReg) :
    r.word &&& 0xFF2A = { r with cf := false, pf := false, af := false, zf := false, sf := false }.word &&& 0xFF2A := by
  apply BitVec.eq_of_getLsbD_eq
  intro i hi
  unfold FlagsReg.word
  simp only [BitVec.getLsbD_and, BitVec.getLsbD_append]
  interval_cases i <;> simp

/-- FLAGS after SAHF. -/
def State.ahFlags (s : State) : FlagsReg :=
  { s.flags with
    sf := (s.reg8 .ah).getLsbD 7, zf := (s.reg8 .ah).getLsbD 6, af := (s.reg8 .ah).getLsbD 4
    pf := (s.reg8 .ah).getLsbD 2, cf := (s.reg8 .ah).getLsbD 0 }

theorem storeAh_run (s : State) : storeAh.run s = .ok () { s with flags := s.ahFlags } := rfl

theorem ahFlags_word_upper (s : State) : s.ahFlags.word &&& 0xFF2A = s.flags.word &&& 0xFF2A := by
  rw [FlagsReg.word_upper s.ahFlags, FlagsReg.word_upper s.flags]
  rfl

end Sys2Proof.Machine

open Sys2Proof Sys2Proof.Machine

/-- Settles O25: each form is a write of what its source holds before it. -/
theorem moves : Obligations.Moves := by
  intro s hl
  exact ⟨fun d r hd => exec_completes rfl hl (movToRm8_run r hd),
    fun d r hd => exec_completes rfl hl (movToRm16_run r hd),
    fun r d hd => exec_completes rfl hl (movFromRm8_run r hd),
    fun r d hd => exec_completes rfl hl (movFromRm16_run r hd),
    fun d r hd => exec_completes rfl hl (storeSeg_run r hd), fun d imm hd => exec_completes rfl hl (wr8_run d imm s hd),
    fun d imm hd => exec_completes rfl hl (wr16_run d imm s hd),
    fun r imm => exec_completes rfl hl (run_modify _ s), fun r imm => exec_completes rfl hl (run_modify _ s),
    fun off h => exec_completes rfl hl (loadDirect8_run h), fun off h => exec_completes rfl hl (loadDirect16_run h),
    fun off h => exec_completes rfl hl (storeDirect8_run h), fun off h => exec_completes rfl hl (storeDirect16_run h)⟩

/-- Settles O26. SAHF replaces five flags, so that the rest of the image is as it was. -/
theorem exchangeAndTranslate : Obligations.ExchangeAndTranslate := by
  intro s hl
  exact ⟨fun d r hd => exec_completes rfl hl (exchange8_run r hd),
    fun d r hd => exec_completes rfl hl (exchange16_run r hd), fun r => exec_completes rfl hl (run_modify _ s),
    fun r ea => exec_completes rfl hl (run_modify _ s), fun h => exec_completes rfl hl (translate_run h),
    exec_completes rfl hl (run_modify _ s), { s with flags := s.ahFlags }, exec_completes rfl hl (storeAh_run s), rfl,
    rfl, rfl, rfl, rfl, rfl, ahFlags_word_upper s⟩

end

section
/-! SUPPORT. How the pops run: one word, and the eight of POPA (20_memory.md R125; 40_data_movement.md R242 to R248). -/

namespace Sys2Proof.Machine

/-! ### One pop -/

/-- The state after Pop16() (20_memory.md R125). -/
def State.popped (s : State) : State := s.topRead.setReg16 .sp (s.gpr.sp + 2)

theorem pop16_ok {s : State} (h : s.stackOk s.gpr.sp 2 = true) : pop16.run s = .ok s.stackTop s.popped :=
  (pop16_run s).trans (if_pos h)

theorem popReg_run {s : State} (r : Reg16) (h : s.stackOk s.gpr.sp 2 = true) :
    (popReg r).run s = .ok () (s.popped.setReg16 r s.stackTop) := run_bind_ok (pop16_ok h)

/-- What a read leaves does not matter to the test of a store. -/
theorem writeOk_after16 (s : State) (a : PhysAddr) (r : SegReg) (off : Word) (n : Nat) :
    (s.after16 a).writeOk r off n = s.writeOk r off n := by
  unfold State.writeOk
  rw [after16_seg]

/-- POP to memory: SP moves after the store (40_data_movement.md R243). -/
theorem popRm_mem_run {s : State} {ea : Ea} (h : s.stackOk s.gpr.sp 2 = true)
    (hw : s.writeOk (s.eaSeg ea) (s.eaOff ea) 2 = true) :
    (popRm (.mem ea)).run s = .ok () ((s.topRead.setMem16 ((s.seg (s.eaSeg ea)).lin (s.eaOff ea)) s.stackTop).setReg16
      .sp (s.gpr.sp + 2)) := by
  unfold popRm
  rw [run_get_bind, require_bind, if_pos h, run_bind_ok (load16_run _ s), run_bind, writeSeg16_run, writeOk_after16,
    if_pos hw, after16_seg]
  rfl

/-- POPF replaces FLAGS by what the mode and the privilege before it allow of the image: SP does not matter. -/
theorem popFlagsWord_run {s : State} (h : s.stackOk s.gpr.sp 2 = true) :
    popFlagsWord.run s = .ok () { s.popped with flags := s.popFlags s.stackTop } := run_bind_ok (pop16_ok h)

/-- The image that POPF loads, by mode and privilege (40_data_movement.md R248). -/
theorem popFlags_eq (s : State) (w : Word) :
    s.popFlags w =
      if s.pe = false then { FlagsReg.ofWord w with iopl := s.iopl, nt := s.flag .nt }
      else if s.cpl = 0 then FlagsReg.ofWord w
      else if s.cpl.ule s.iopl then { FlagsReg.ofWord w with iopl := s.iopl }
      else { FlagsReg.ofWord w with iopl := s.iopl, if_ := s.flag .if_ } := by
  unfold State.popFlags State.ioAllowed
  cases s.pe with
  | false => rfl
  | true =>
    by_cases h0 : s.cpl = 0
    · have trusted : s.cpl.ule s.iopl = true := by simp [h0, BitVec.ule]
      simp only [if_pos h0, trusted]
      rfl
    · cases s.cpl.ule s.iopl <;> simp only [if_neg h0] <;> rfl

/-! ### A run of pops -/

/-- A block that is inside the stack segment has its parts inside. -/
theorem stackOk_part {s : State} {off : Word} {n k m : Nat} (h : s.stackOk off n = true) (hk : k < n)
    (hm : k + m ≤ n) : s.stackOk (off + BitVec.ofNat 16 k) m = true := by
  simp only [State.stackOk, Bool.and_eq_true] at *
  obtain ⟨valid, inside⟩ := h
  exact ⟨valid, by rw [inLimit_offset inside hk]; exact inLimit_part inside hm⟩

/-- The state after words have been read and SP has moved up by `k`. -/
def State.poppedTo (s : State) (as : List PhysAddr) (k : Nat) : State :=
  (s.afterWords as).setReg16 .sp (s.gpr.sp + BitVec.ofNat 16 k)

theorem poppedTo_nil (s : State) : s.poppedTo [] 0 = s := by
  unfold State.poppedTo
  rw [BitVec.add_zero]
  rfl

/-- The next of a run of pops from a block of `n` bytes: the word `k` bytes above the SP that the run began with. -/
theorem pop16_bind {α : Type} {s : State} {n : Nat} (h : s.stackOk s.gpr.sp n = true) {as : List PhysAddr} {k : Nat}
    (hk : k + 2 ≤ n) (f : Word → M α) :
    (pop16 >>= f).run (s.poppedTo as k) =
      (f ((s.afterWords as).mem16 (s.stkAddr (BitVec.ofNat 16 k)))).run
        (s.poppedTo (as ++ [s.stkAddr (BitVec.ofNat 16 k)]) (k + 2)) := by
  have ok : (s.poppedTo as k).stackOk (s.poppedTo as k).gpr.sp 2 = true := stackOk_part h (by omega) hk
  have next : (s.poppedTo as k).popped = s.poppedTo (as ++ [s.stkAddr (BitVec.ofNat 16 k)]) (k + 2) := by
    unfold State.poppedTo
    rw [BitVec.ofNat_add, ← BitVec.add_assoc]
    unfold State.afterWords
    rw [List.foldl_append, List.foldl_append]
    rfl
  rw [run_bind_ok (pop16_ok ok), next]
  rfl

/-! ### POPA -/

/-- The words of POPA, the lowest first. -/
def State.popaAddrs (s : State) : List PhysAddr := [0, 2, 4, 6, 8, 10, 12, 14].map s.stkAddr

/-- A word of a list reads as it does after the words before it. -/
theorem wordAt_words (s : State) {as : List PhysAddr} {k : Nat} (hk : k < as.length) :
    wordAt (s.words as) k = (s.afterWords (as.take k)).mem16 as[k] := by
  induction as generalizing s k with
  | nil => exact absurd hk (Nat.not_lt_zero k)
  | cons a as ih =>
    cases k with
    | zero => rfl
    | succ k => exact ih (s.after16 a) (Nat.lt_of_succ_lt_succ hk)

/-- POPA when its block is inside the stack segment (40_data_movement.md R246). -/
theorem popAll_run {s : State} (h : s.stackOk s.gpr.sp 16 = true) :
    let w := wordAt (s.words s.popaAddrs)
    popAll.run s = .ok () { s.afterWords s.popaAddrs with
      gpr := { di := w 0, si := w 1, bp := w 2, bx := w 4, dx := w 5, cx := w 6, ax := w 7
               sp := s.gpr.sp + 16 } } := by
  intro w
  unfold popAll
  rw [run_get_bind, require_bind, if_pos h]
  conv_lhs => rw [← poppedTo_nil s]
  simp (disch := omega) only [pop16_bind h, run_modify, List.nil_append, List.cons_append, Nat.reduceAdd]
  have word : ∀ k, (hk : k < 8) → w k = (s.afterWords (s.popaAddrs.take k)).mem16 s.popaAddrs[k] :=
    fun k hk => wordAt_words s hk
  simp (disch := omega) only [word]
  rfl

end Sys2Proof.Machine

open Sys2Proof Sys2Proof.Machine

/-- Settles O28: each form stores the word that Pop16() reads; POPA reads eight, one above the other. -/
theorem pops : Obligations.Pops := by
  intro s hl h
  exact ⟨fun r => exec_completes rfl hl (popReg_run r h), fun r => exec_completes rfl hl (popReg_run r h),
    fun ea hw => exec_completes rfl hl (popRm_mem_run h hw), exec_completes rfl hl (popFlagsWord_run h), popFlags_eq s,
    fun h16 => exec_completes rfl hl (popAll_run h16)⟩

end

section
/-! SUPPORT. How a load of a segment register runs, and the instructions that make one (20_memory.md R150 to R152;
40_data_movement.md R236, R244, R252, R253). -/

namespace Sys2Proof.Machine

/-! ### The load -/

/-- DescLookup that finds a descriptor. -/
theorem lookup_bind {α : Type} {s : State} {sel : Word} {a : Abort} {d : Desc} (f : Desc → M α)
    (h : s.descLookup sel = some d) : (lookup sel a >>= f).run s = (f d).run (s.afterLookup sel) := by
  refine run_bind_ok ?_
  unfold lookup
  rw [run_get_bind, run_set_bind, h]
  rfl

/-- What a load of a data segment register accepts in Protected Mode, the null selector aside (20_memory.md R151). -/
theorem segLoadOk_data {s : State} {r : SegReg} {sel : Word} (hpe : s.pe = true) (hr : r ≠ .ss)
    (hnull : selNull sel = false) (h : s.segLoadOk r sel = true) :
    ∃ d, s.descLookup sel = some d ∧ (d.isData || (d.isCode && d.readable)) = true ∧
      d.dataAccess s.cpl (selRpl sel) = true ∧ d.present = true := by
  simp only [State.segLoadOk, hpe, hr, hnull, Bool.not_true, Bool.false_eq_true, if_false, Bool.false_or] at h
  cases hd : s.descLookup sel with
  | none => rw [hd] at h; exact absurd h Bool.false_ne_true
  | some d =>
    simp only [hd, Bool.and_eq_true] at h
    obtain ⟨⟨kind, access⟩, present⟩ := h
    exact ⟨d, rfl, kind, access, present⟩

/-- What a load of SS accepts in Protected Mode (20_memory.md R152). -/
theorem segLoadOk_ss {s : State} {sel : Word} (hpe : s.pe = true) (h : s.segLoadOk .ss sel = true) :
    selNull sel = false ∧ ∃ d, s.descLookup sel = some d ∧ (selRpl sel == s.cpl) = true ∧
      (d.isData && d.writable) = true ∧ (d.dpl == s.cpl) = true ∧ d.present = true := by
  simp only [State.segLoadOk, hpe, Bool.not_true, Bool.false_eq_true, if_false, if_true, Bool.and_eq_true,
    Bool.not_eq_true'] at h
  obtain ⟨notNull, h⟩ := h
  refine ⟨notNull, ?_⟩
  cases hd : s.descLookup sel with
  | none => rw [hd] at h; exact absurd h Bool.false_ne_true
  | some d =>
    simp only [hd, Bool.and_eq_true] at h
    obtain ⟨⟨⟨rpl, kind⟩, dpl⟩, present⟩ := h
    exact ⟨d, rfl, rpl, Bool.and_eq_true _ _ ▸ kind, dpl, present⟩

/-- The state after a load in Protected Mode of a selector that is not null. -/
theorem segLoaded_desc {s : State} {r : SegReg} {sel : Word} {d : Desc} (hpe : s.pe = true)
    (hnull : selNull sel = false) (hd : s.descLookup sel = some d) :
    s.segLoaded r sel = ((s.afterLookup sel).accessed d).setSeg r (d.cache sel) := by
  simp [State.segLoaded, hpe, hnull, hd]

theorem afterLookup_cpl (s : State) (sel : Word) : (s.afterLookup sel).cpl = s.cpl := rfl

/-- LoadData of a descriptor that may be used here: the last test is that it is present (20_memory.md R151). -/
theorem loadData_desc {s : State} {r : SegReg} {sel : Word} {d : Desc} (hnull : selNull sel = false)
    (hd : s.descLookup sel = some d) (kind : (d.isData || (d.isCode && d.readable)) = true)
    (access : d.dataAccess s.cpl (selRpl sel) = true) :
    (loadData r sel).run s =
      if d.present = true then .ok () (((s.afterLookup sel).accessed d).setSeg r (d.cache sel))
      else .error (.np (selError sel)) (s.afterLookup sel) := by
  unfold loadData
  rw [hnull, if_neg Bool.false_ne_true, lookup_bind _ hd, run_get_bind, require_bind, if_pos kind, require_bind,
    afterLookup_cpl, if_pos access, require_bind]
  rfl

/-- LoadSS of a descriptor that may be used here: the last test is that it is present (20_memory.md R152). -/
theorem loadSS_desc {s : State} {sel : Word} {d : Desc} (hnull : selNull sel = false)
    (hd : s.descLookup sel = some d) (rpl : (selRpl sel == s.cpl) = true) (kind : (d.isData && d.writable) = true)
    (dpl : (d.dpl == s.cpl) = true) :
    (loadSS sel).run s =
      if d.present = true then .ok () (((s.afterLookup sel).accessed d).setSeg .ss (d.cache sel))
      else .error (.ss (selError sel)) (s.afterLookup sel) := by
  unfold loadSS
  rw [hnull, require_bind, if_pos Bool.not_false, lookup_bind _ hd, run_get_bind, require_bind, afterLookup_cpl,
    if_pos rpl, require_bind, if_pos kind, require_bind, if_pos dpl, require_bind]
  rfl

/-- LoadSeg in Protected Mode (20_memory.md R150). -/
theorem loadSeg_data {s : State} {r : SegReg} (sel : Word) (hpe : s.pe = true) (hr : r ≠ .ss) :
    (loadSeg r sel).run s = (loadData r sel).run s := by
  unfold loadSeg
  rw [run_get_bind, if_pos hpe, if_neg hr]

theorem loadSeg_ss {s : State} (sel : Word) (hpe : s.pe = true) : (loadSeg .ss sel).run s = (loadSS sel).run s := by
  unfold loadSeg
  rw [run_get_bind, if_pos hpe, if_pos rfl]

theorem loadData_run {s : State} {r : SegReg} {sel : Word} (hpe : s.pe = true) (hr : r ≠ .ss)
    (h : s.segLoadOk r sel = true) : (loadData r sel).run s = .ok () (s.segLoaded r sel) := by
  cases hnull : selNull sel with
  | true =>
    unfold loadData
    simp only [State.segLoaded, hpe, hnull]
    rfl
  | false =>
    obtain ⟨d, hd, kind, access, present⟩ := segLoadOk_data hpe hr hnull h
    rw [loadData_desc hnull hd kind access, if_pos present, segLoaded_desc hpe hnull hd]

theorem loadSS_run {s : State} {sel : Word} (hpe : s.pe = true) (h : s.segLoadOk .ss sel = true) :
    (loadSS sel).run s = .ok () (s.segLoaded .ss sel) := by
  obtain ⟨notNull, d, hd, rpl, kind, dpl, present⟩ := segLoadOk_ss hpe h
  rw [loadSS_desc notNull hd rpl kind dpl, if_pos present, segLoaded_desc hpe notNull hd]

/-- LoadSeg of a selector that the tests accept, in either mode (20_memory.md R150). -/
theorem loadSeg_run {s : State} {r : SegReg} {sel : Word} (h : s.segLoadOk r sel = true) :
    (loadSeg r sel).run s = .ok () (s.segLoaded r sel) := by
  cases hpe : s.pe with
  | false =>
    unfold loadSeg
    rw [run_get_bind]
    simp only [State.segLoaded, hpe]
    rfl
  | true =>
    by_cases hr : r = .ss
    · subst hr
      exact (loadSeg_ss sel hpe).trans (loadSS_run hpe h)
    · exact (loadSeg_data sel hpe hr).trans (loadData_run hpe hr h)

/-! ### The instructions -/

theorem movSeg_run {s : State} {r : SegReg} {d : Rm Reg16} (hd : s.canRead 2 d = true)
    (h : (s.read16 d).segLoadOk r (s.val16 d) = true) :
    (movSeg r d).run s = .ok () ((s.read16 d).segLoaded r (s.val16 d)) :=
  (run_bind_ok (rd16_run d s hd)).trans (loadSeg_run h)

/-- POP of a segment register: SP moves after the load (40_data_movement.md R244). -/
theorem popSeg_run {s : State} {r : SegReg} (hs : s.stackOk s.gpr.sp 2 = true)
    (h : s.topRead.segLoadOk r s.stackTop = true) :
    (popSeg r).run s = .ok () ((s.topRead.segLoaded r s.stackTop).setReg16 .sp (s.gpr.sp + 2)) := by
  unfold popSeg
  rw [run_get_bind, require_bind, if_pos hs, run_bind_ok (load16_run _ s)]
  exact run_bind_ok (loadSeg_run h)

/-- A load of SS inhibits interrupts for one instruction (10_state.md R71). -/
theorem inhibitNext_after {m : M Unit} {s t : State} (h : m.run s = .ok () t) :
    (m >>= fun _ => inhibitNext).run s = .ok () { t with inhibit := true } := run_bind_ok h

/-- The far pointer of LDS and LES: two words, the offset first. -/
theorem rdPair_run {s : State} {ea : Ea} (h : s.farReadOk ea = true) :
    (rdPair ea).run s = .ok (s.farPointer ea) (s.operandRead 2 ea) := by
  have addrs : s.operandAddrs 2 ea =
      [(s.seg (s.eaSeg ea)).lin (s.eaOff ea), (s.seg (s.eaSeg ea)).lin (s.eaOff ea + 2)] := by
    simp [State.operandAddrs, List.range_succ]
  unfold rdPair State.farPointer State.operandWords State.operandRead
  rw [run_get_bind, addrs, readPair_run]
  exact if_pos h

theorem loadPointer_run {s : State} {q : SegReg} {ea : Ea} (r : Reg16) (hea : s.farReadOk ea = true)
    (h : (s.operandRead 2 ea).segLoadOk q (s.farPointer ea).2 = true) :
    (loadPointer q r ea).run s =
      .ok () (((s.operandRead 2 ea).segLoaded q (s.farPointer ea).2).setReg16 r (s.farPointer ea).1) := by
  unfold loadPointer
  rw [run_bind_ok (rdPair_run hea)]
  exact run_bind_ok (loadSeg_run h)

/-! ### Instructions that end in an exception -/

/-- Where DPL, RPL and CPL are one level, access to data is allowed (20_memory.md R112). -/
theorem dataAccess_own {d : Desc} {cpl rpl : BitVec 2} (hdpl : d.dpl = cpl) (hrpl : rpl = cpl) :
    d.dataAccess cpl rpl = true := by
  simp [Desc.dataAccess, hdpl, hrpl, BitVec.ule]

/-- An instruction ends in an exception. -/
theorem exec_raises {i : Instr} {body : M Unit} {s t : State} {a : Abort} (hi : exec i s = runInstr body s)
    (hl : s.lockOk = true) (h : body.run s = .error a t) : exec i s = t.raises a :=
  hi.trans (runInstr_error hl h)

/-- What a read leaves does not matter to mode and privilege. -/
theorem read16_pe (s : State) (d : Rm Reg16) : (s.read16 d).pe = s.pe := by cases d <;> rfl
theorem read16_cpl (s : State) (d : Rm Reg16) : (s.read16 d).cpl = s.cpl := by cases d <;> rfl

end Sys2Proof.Machine

open Sys2Proof Sys2Proof.Machine

/-- Settles O29: each form is one load of a segment register, from the state after its operand has been read. -/
theorem segmentLoads : Obligations.SegmentLoads := by
  intro s hl
  refine ⟨fun d hd => ⟨fun h => exec_completes rfl hl (movSeg_run hd h),
      fun h => exec_completes rfl hl (movSeg_run hd h),
      fun h => exec_completes rfl hl (inhibitNext_after (movSeg_run hd h))⟩,
    fun hs => ⟨fun h => exec_completes rfl hl (popSeg_run hs h), fun h => exec_completes rfl hl (popSeg_run hs h),
      fun h => exec_completes rfl hl (inhibitNext_after (popSeg_run hs h))⟩,
    fun r ea hea => ⟨fun h => exec_completes rfl hl (loadPointer_run r hea h),
      fun h => exec_completes rfl hl (loadPointer_run r hea h)⟩, ?_⟩
  intro d x hd hpe u sel hnull hx hdata hwr hdpl hrpl hpres
  have upe : u.pe = true := (read16_pe s d).trans hpe
  have udpl : x.dpl = u.cpl := hdpl.trans (read16_cpl s d).symm
  have urpl : selRpl sel = u.cpl := hrpl.trans (read16_cpl s d).symm
  have absent : ¬x.present = true := Bool.eq_false_iff.mp hpres
  have operand : ∀ r, (movSeg r d).run s = (loadSeg r sel).run u := fun r => run_bind_ok (rd16_run d s hd)
  have loadDs : (movSeg .ds d).run s = .error (.np (selError sel)) (u.afterLookup sel) := by
    rw [operand, loadSeg_data sel upe (by decide), loadData_desc hnull hx (by rw [hdata, Bool.true_or])
      (dataAccess_own udpl urpl), if_neg absent]
  have loadSs : (movSeg .ss d).run s = .error (.ss (selError sel)) (u.afterLookup sel) := by
    rw [operand, loadSeg_ss sel upe, loadSS_desc hnull hx (beq_iff_eq.mpr urpl) (by rw [hdata, hwr, Bool.true_and])
      (beq_iff_eq.mpr udpl), if_neg absent]
  exact ⟨exec_raises rfl hl loadDs, exec_raises rfl hl (run_bind_error loadSs)⟩

end

section
/-! SUPPORT. How the operand forms of arithmetic run (41_arithmetic.md R270), what its operations compute, and the flags
that an instruction leaves undefined. -/

namespace Sys2Proof.Machine

/-! ### What the read of an operand leaves -/

@[simp] theorem read8_reg8 (s : State) (d : Rm Reg8) (r : Reg8) : (s.read8 d).reg8 r = s.reg8 r := by cases d <;> rfl
@[simp] theorem read16_reg16 (s : State) (d : Rm Reg16) (r : Reg16) : (s.read16 d).reg16 r = s.reg16 r := by
  cases d <;> cases r <;> rfl
@[simp] theorem read8_gpr (s : State) (d : Rm Reg8) : (s.read8 d).gpr = s.gpr := by cases d <;> rfl
@[simp] theorem read16_gpr (s : State) (d : Rm Reg16) : (s.read16 d).gpr = s.gpr := by cases d <;> rfl
@[simp] theorem read8_flag (s : State) (d : Rm Reg8) (f : Flag) : (s.read8 d).flag f = s.flag f := by cases d <;> rfl
@[simp] theorem read16_flag (s : State) (d : Rm Reg16) (f : Flag) : (s.read16 d).flag f = s.flag f := by
  cases d <;> rfl

/-- The state that has read an operand addresses it as before. -/
@[simp] theorem read8_put8 (s t : State) (d : Rm Reg8) (v : Byte) : (s.read8 d).put8 t d v = s.put8 t d v := by
  cases d with
  | reg r => rfl
  | mem ea => exact congrArg (fun c : SegCache => t.setMem8 (c.lin (s.eaOff ea)) v) (after8_seg s _ _)
@[simp] theorem read16_put16 (s t : State) (d : Rm Reg16) (v : Word) : (s.read16 d).put16 t d v = s.put16 t d v := by
  cases d with
  | reg r => rfl
  | mem ea => exact congrArg (fun c : SegCache => t.setMem16 (c.lin (s.eaOff ea)) v) (after16_seg s _ _)

/-! ### The two-operand forms -/

section Forms

variable {lost : M Unit} {s t : State} {d8 : Rm Reg8} {d16 : Rm Reg16} {r8 : Reg8} {r16 : Reg16} {v8 : Byte} {v16 : Word}

theorem ebRb_run {f : Byte → Byte → M Byte} (h : s.canWrite 1 d8 = true)
    (hf : (f (s.val8 d8) (s.reg8 r8)).run (s.read8 d8) = .ok v8 t) :
    (ebRb lost f d8 r8).run s = .ok () (s.put8 t d8 v8) :=
  (run_get_bind _ s).trans (modify8_run lost d8 _ s t v8 h hf)

theorem ewRw_run {f : Word → Word → M Word} (h : s.canWrite 2 d16 = true)
    (hf : (f (s.val16 d16) (s.reg16 r16)).run (s.read16 d16) = .ok v16 t) :
    (ewRw lost f d16 r16).run s = .ok () (s.put16 t d16 v16) :=
  (run_get_bind _ s).trans (modify16_run lost d16 _ s t v16 h hf)

theorem rbEb_run {f : Byte → Byte → M Byte} (h : s.canRead 1 d8 = true)
    (hf : (f (s.reg8 r8) (s.val8 d8)).run (s.read8 d8) = .ok v8 t) :
    (rbEb f r8 d8).run s = .ok () (t.setReg8 r8 v8) := by
  unfold rbEb
  rw [run_bind_ok (rd8_run d8 s h), run_get_bind, read8_reg8, run_bind_ok hf, run_modify]

theorem rwEw_run {f : Word → Word → M Word} (h : s.canRead 2 d16 = true)
    (hf : (f (s.reg16 r16) (s.val16 d16)).run (s.read16 d16) = .ok v16 t) :
    (rwEw f r16 d16).run s = .ok () (t.setReg16 r16 v16) := by
  unfold rwEw
  rw [run_bind_ok (rd16_run d16 s h), run_get_bind, read16_reg16, run_bind_ok hf, run_modify]

theorem cmpEbRb_run (f : Byte → Byte → M Unit) (h : s.canRead 1 d8 = true) :
    (cmpEbRb f d8 r8).run s = (f (s.val8 d8) (s.reg8 r8)).run (s.read8 d8) := by
  unfold cmpEbRb
  rw [run_bind_ok (rd8_run d8 s h), run_get_bind, read8_reg8]

theorem cmpEwRw_run (f : Word → Word → M Unit) (h : s.canRead 2 d16 = true) :
    (cmpEwRw f d16 r16).run s = (f (s.val16 d16) (s.reg16 r16)).run (s.read16 d16) := by
  unfold cmpEwRw
  rw [run_bind_ok (rd16_run d16 s h), run_get_bind, read16_reg16]

theorem cmpRbEb_run (f : Byte → Byte → M Unit) (h : s.canRead 1 d8 = true) :
    (cmpRbEb f r8 d8).run s = (f (s.reg8 r8) (s.val8 d8)).run (s.read8 d8) := by
  unfold cmpRbEb
  rw [run_bind_ok (rd8_run d8 s h), run_get_bind, read8_reg8]

theorem cmpRwEw_run (f : Word → Word → M Unit) (h : s.canRead 2 d16 = true) :
    (cmpRwEw f r16 d16).run s = (f (s.reg16 r16) (s.val16 d16)).run (s.read16 d16) := by
  unfold cmpRwEw
  rw [run_bind_ok (rd16_run d16 s h), run_get_bind, read16_reg16]

theorem cmpEbDb_run (f : Byte → Byte → M Unit) (imm : Byte) (h : s.canRead 1 d8 = true) :
    (cmpEbDb f d8 imm).run s = (f (s.val8 d8) imm).run (s.read8 d8) := run_bind_ok (rd8_run d8 s h)

theorem cmpEwDw_run (f : Word → Word → M Unit) (imm : Word) (h : s.canRead 2 d16 = true) :
    (cmpEwDw f d16 imm).run s = (f (s.val16 d16) imm).run (s.read16 d16) := run_bind_ok (rd16_run d16 s h)

end Forms

/-! ### Operations that compute a result and the six status flags -/

/-- The operation `f` gives the result and the flags that `g` says, from the operands and CF before it. -/
def Computes {n : Nat} (f : BitVec n → BitVec n → M (BitVec n))
    (g : BitVec n → BitVec n → Bool → BitVec n × StatusFlags) : Prop :=
  ∀ a b s, (f a b).run s = .ok (g a b (s.flag .cf)).1 (s.setStatus (g a b (s.flag .cf)).2)

section Ops

variable {n : Nat}

theorem opAdd_computes : Computes (n := n) opAdd fun a b _ => addFlags a b false := fun _ _ _ => rfl
theorem opAdc_computes : Computes (n := n) opAdc addFlags := fun _ _ _ => rfl
theorem opSub_computes : Computes (n := n) opSub fun a b _ => subFlags a b false := fun _ _ _ => rfl
theorem opSbb_computes : Computes (n := n) opSbb subFlags := fun _ _ _ => rfl

theorem opCmp_run (a b : BitVec n) (s : State) : (opCmp a b).run s = .ok () (s.setStatus (subFlags a b false).2) := rfl
theorem opInc_run (a : BitVec n) (s : State) :
    (opInc a).run s = .ok (addFlags a 1 false).1 (s.setStatusButCarry (addFlags a 1 false).2) := rfl
theorem opDec_run (a : BitVec n) (s : State) :
    (opDec a).run s = .ok (subFlags a 1 false).1 (s.setStatusButCarry (subFlags a 1 false).2) := rfl
theorem opNeg_run (a : BitVec n) (s : State) :
    (opNeg a).run s = .ok (subFlags 0 a false).1 (s.setStatus (subFlags 0 a false).2) := rfl
theorem opNot_run (a : BitVec n) (s : State) : (opNot a).run s = .ok (~~~a) s := rfl

/-- The flags of a Boolean operation, AF being the next draw (42_logical_shift_rotate.md R310). -/
theorem logicFlags_run (r : BitVec n) (s : State) :
    (logicFlags r).run s = .ok () (s.logical r (Config.undefBit s.undef)) := rfl

end Ops

/-! The destination gets the result, the flags are set: the forms of ADD, ADC, SUB and SBB. -/

section Alu

variable {lost : M Unit} {s : State} {f8 : Byte → Byte → M Byte} {g8 : Byte → Byte → Bool → Byte × StatusFlags}
  {f16 : Word → Word → M Word} {g16 : Word → Word → Bool → Word × StatusFlags} {d8 : Rm Reg8} {d16 : Rm Reg16}

/-- What the operation does once the operand `d` has been read. -/
theorem Computes.read8 (hf : Computes f8 g8) (a b : Byte) (d : Rm Reg8) :
    (f8 a b).run (s.read8 d) = .ok (g8 a b (s.flag .cf)).1 ((s.read8 d).setStatus (g8 a b (s.flag .cf)).2) := by
  rw [hf, read8_flag]

theorem Computes.read16 (hf : Computes f16 g16) (a b : Word) (d : Rm Reg16) :
    (f16 a b).run (s.read16 d) = .ok (g16 a b (s.flag .cf)).1 ((s.read16 d).setStatus (g16 a b (s.flag .cf)).2) := by
  rw [hf, read16_flag]

theorem read8_alu8 (s : State) (d : Rm Reg8) (r : Byte × StatusFlags) :
    (s.read8 d).alu8 d r = s.put8 ((s.read8 d).setStatus r.2) d r.1 := read8_put8 _ _ _ _
theorem read16_alu16 (s : State) (d : Rm Reg16) (r : Word × StatusFlags) :
    (s.read16 d).alu16 d r = s.put16 ((s.read16 d).setStatus r.2) d r.1 := read16_put16 _ _ _ _

theorem Computes.ebRb (hf : Computes f8 g8) (r : Reg8) (h : s.canWrite 1 d8 = true) :
    (ebRb lost f8 d8 r).run s = .ok () ((s.read8 d8).alu8 d8 (g8 (s.val8 d8) (s.reg8 r) (s.flag .cf))) := by
  rw [read8_alu8]
  exact ebRb_run h (hf.read8 _ _ d8)

theorem Computes.ewRw (hf : Computes f16 g16) (r : Reg16) (h : s.canWrite 2 d16 = true) :
    (ewRw lost f16 d16 r).run s = .ok () ((s.read16 d16).alu16 d16 (g16 (s.val16 d16) (s.reg16 r) (s.flag .cf))) := by
  rw [read16_alu16]
  exact ewRw_run h (hf.read16 _ _ d16)

theorem Computes.ebDb (hf : Computes f8 g8) (imm : Byte) (h : s.canWrite 1 d8 = true) :
    (ebDb lost f8 d8 imm).run s = .ok () ((s.read8 d8).alu8 d8 (g8 (s.val8 d8) imm (s.flag .cf))) := by
  rw [read8_alu8]
  exact modify8_run lost d8 (f8 · imm) s _ _ h (hf.read8 _ _ d8)

theorem Computes.ewDw (hf : Computes f16 g16) (imm : Word) (h : s.canWrite 2 d16 = true) :
    (ewDw lost f16 d16 imm).run s = .ok () ((s.read16 d16).alu16 d16 (g16 (s.val16 d16) imm (s.flag .cf))) := by
  rw [read16_alu16]
  exact modify16_run lost d16 (f16 · imm) s _ _ h (hf.read16 _ _ d16)

theorem Computes.rbEb (hf : Computes f8 g8) (r : Reg8) (h : s.canRead 1 d8 = true) :
    (rbEb f8 r d8).run s = .ok () ((s.read8 d8).alu8 (.reg r) (g8 (s.reg8 r) (s.val8 d8) (s.flag .cf))) :=
  rbEb_run h (hf.read8 _ _ d8)

theorem Computes.rwEw (hf : Computes f16 g16) (r : Reg16) (h : s.canRead 2 d16 = true) :
    (rwEw f16 r d16).run s = .ok () ((s.read16 d16).alu16 (.reg r) (g16 (s.reg16 r) (s.val16 d16) (s.flag .cf))) :=
  rwEw_run h (hf.read16 _ _ d16)

end Alu

/-! ### Flags that become undefined -/

/-- The values that flags get which become undefined one after the other, the first being draw `n`. -/
def drawn : Nat → List Flag → List (Flag × Bool)
  | _, [] => []
  | n, f :: rest => (f, Config.undefBit n) :: drawn (n + 1) rest

theorem undefFlags_run (l : List Flag) (s : State) : (undefFlags l).run s = .ok () (s.undefine (drawn s.undef l)) := by
  induction l generalizing s with
  | nil => rfl
  | cons f rest ih =>
    unfold undefFlags
    rw [run_bind_ok (undefFlag_run f s), ih]
    rfl

theorem undefFlags_three (f g h : Flag) (s : State) :
    ∃ a b c, (undefFlags [f, g, h]).run s = .ok () (s.undefine [(f, a), (g, b), (h, c)]) :=
  ⟨_, _, _, undefFlags_run [f, g, h] s⟩

theorem undefFlags_four (f g h k : Flag) (s : State) :
    ∃ a b c d, (undefFlags [f, g, h, k]).run s = .ok () (s.undefine [(f, a), (g, b), (h, c), (k, d)]) :=
  ⟨_, _, _, _, undefFlags_run [f, g, h, k] s⟩

end Sys2Proof.Machine

open Sys2Proof Sys2Proof.Machine

/-- Settles O15: four operations, each in nine forms. An accumulator form is the form of a register destination. -/
theorem addSubtractResults : Obligations.AddSubtractResults := by
  intro s hl
  exact ⟨
    fun d r h => exec_completes rfl hl (opAdd_computes.ebRb r h),
    fun d r h => exec_completes rfl hl (opAdd_computes.ewRw r h),
    fun r d h => exec_completes rfl hl (opAdd_computes.rbEb r h),
    fun r d h => exec_completes rfl hl (opAdd_computes.rwEw r h),
    fun imm => exec_completes rfl hl (opAdd_computes.ebDb (d8 := .reg .al) imm rfl),
    fun imm => exec_completes rfl hl (opAdd_computes.ewDw (d16 := .reg .ax) imm rfl),
    fun d imm h => exec_completes rfl hl (opAdd_computes.ebDb imm h),
    fun d imm h => exec_completes rfl hl (opAdd_computes.ewDw imm h),
    fun d imm h => exec_completes rfl hl (opAdd_computes.ewDw (imm.signExtend 16) h),
    fun d r h => exec_completes rfl hl (opAdc_computes.ebRb r h),
    fun d r h => exec_completes rfl hl (opAdc_computes.ewRw r h),
    fun r d h => exec_completes rfl hl (opAdc_computes.rbEb r h),
    fun r d h => exec_completes rfl hl (opAdc_computes.rwEw r h),
    fun imm => exec_completes rfl hl (opAdc_computes.ebDb (d8 := .reg .al) imm rfl),
    fun imm => exec_completes rfl hl (opAdc_computes.ewDw (d16 := .reg .ax) imm rfl),
    fun d imm h => exec_completes rfl hl (opAdc_computes.ebDb imm h),
    fun d imm h => exec_completes rfl hl (opAdc_computes.ewDw imm h),
    fun d imm h => exec_completes rfl hl (opAdc_computes.ewDw (imm.signExtend 16) h),
    fun d r h => exec_completes rfl hl (opSub_computes.ebRb r h),
    fun d r h => exec_completes rfl hl (opSub_computes.ewRw r h),
    fun r d h => exec_completes rfl hl (opSub_computes.rbEb r h),
    fun r d h => exec_completes rfl hl (opSub_computes.rwEw r h),
    fun imm => exec_completes rfl hl (opSub_computes.ebDb (d8 := .reg .al) imm rfl),
    fun imm => exec_completes rfl hl (opSub_computes.ewDw (d16 := .reg .ax) imm rfl),
    fun d imm h => exec_completes rfl hl (opSub_computes.ebDb imm h),
    fun d imm h => exec_completes rfl hl (opSub_computes.ewDw imm h),
    fun d imm h => exec_completes rfl hl (opSub_computes.ewDw (imm.signExtend 16) h),
    fun d r h => exec_completes rfl hl (opSbb_computes.ebRb r h),
    fun d r h => exec_completes rfl hl (opSbb_computes.ewRw r h),
    fun r d h => exec_completes rfl hl (opSbb_computes.rbEb r h),
    fun r d h => exec_completes rfl hl (opSbb_computes.rwEw r h),
    fun imm => exec_completes rfl hl (opSbb_computes.ebDb (d8 := .reg .al) imm rfl),
    fun imm => exec_completes rfl hl (opSbb_computes.ewDw (d16 := .reg .ax) imm rfl),
    fun d imm h => exec_completes rfl hl (opSbb_computes.ebDb imm h),
    fun d imm h => exec_completes rfl hl (opSbb_computes.ewDw imm h),
    fun d imm h => exec_completes rfl hl (opSbb_computes.ewDw (imm.signExtend 16) h)⟩

/-- Settles O16: nothing is written after the operation of CMP or TEST. -/
theorem compareAndTest : Obligations.CompareAndTest := by
  intro s hl
  exact ⟨
    fun d r h => exec_completes rfl hl (cmpEbRb_run opCmp h), fun d r h => exec_completes rfl hl (cmpEwRw_run opCmp h),
    fun r d h => exec_completes rfl hl (cmpRbEb_run opCmp h), fun r d h => exec_completes rfl hl (cmpRwEw_run opCmp h),
    fun imm => exec_completes rfl hl (cmpEbDb_run (d8 := .reg .al) opCmp imm rfl),
    fun imm => exec_completes rfl hl (cmpEwDw_run (d16 := .reg .ax) opCmp imm rfl),
    fun d imm h => exec_completes rfl hl (cmpEbDb_run opCmp imm h),
    fun d imm h => exec_completes rfl hl (cmpEwDw_run opCmp imm h),
    fun d imm h => exec_completes rfl hl (cmpEwDw_run opCmp (imm.signExtend 16) h),
    fun d r h => ⟨_, exec_completes rfl hl ((cmpEbRb_run opTest h).trans (logicFlags_run _ _))⟩,
    fun d r h => ⟨_, exec_completes rfl hl ((cmpEwRw_run opTest h).trans (logicFlags_run _ _))⟩,
    fun imm => ⟨_, exec_completes rfl hl ((cmpEbDb_run (d8 := .reg .al) opTest imm rfl).trans (logicFlags_run _ _))⟩,
    fun imm => ⟨_, exec_completes rfl hl ((cmpEwDw_run (d16 := .reg .ax) opTest imm rfl).trans (logicFlags_run _ _))⟩,
    fun d imm h => ⟨_, exec_completes rfl hl ((cmpEbDb_run opTest imm h).trans (logicFlags_run _ _))⟩,
    fun d imm h => ⟨_, exec_completes rfl hl ((cmpEwDw_run opTest imm h).trans (logicFlags_run _ _))⟩⟩

/-- Settles O18: each form replaces its operand by what its operation computes. -/
theorem incDecNegNot : Obligations.IncDecNegNot := by
  intro s hl
  refine ⟨
    fun r => exec_completes rfl hl (modify16_run _ (.reg r) _ s _ _ rfl (opInc_run _ _)),
    fun d h => exec_completes rfl hl (modify8_run _ d _ s _ _ h (opInc_run _ _)),
    fun d h => exec_completes rfl hl (modify16_run _ d _ s _ _ h (opInc_run _ _)),
    fun r => exec_completes rfl hl (modify16_run _ (.reg r) _ s _ _ rfl (opDec_run _ _)),
    fun d h => exec_completes rfl hl (modify8_run _ d _ s _ _ h (opDec_run _ _)),
    fun d h => exec_completes rfl hl (modify16_run _ d _ s _ _ h (opDec_run _ _)), fun d h => ?_, fun d h => ?_,
    fun d h => exec_completes rfl hl (modify8_run _ d _ s _ _ h (opNot_run _ _)),
    fun d h => exec_completes rfl hl (modify16_run _ d _ s _ _ h (opNot_run _ _))⟩
  · rw [read8_alu8]
    exact exec_completes rfl hl (modify8_run _ d _ s _ _ h (opNeg_run _ _))
  · rw [read16_alu16]
    exact exec_completes rfl hl (modify16_run _ d _ s _ _ h (opNeg_run _ _))

end

section
/-! SUPPORT. Products in twice the width, and how the multiplications run (41_arithmetic.md R279 to R281). -/

namespace Sys2Proof.Machine

/-! ### Products -/

/-- The product of unsigned numbers at any width is that of the integers. -/
theorem setWidth_mul_setWidth {n m : Nat} (a b : BitVec n) :
    a.setWidth m * b.setWidth m = BitVec.ofNat m (a.toNat * b.toNat) := by
  apply BitVec.eq_of_toNat_eq
  simp [BitVec.toNat_mul, BitVec.toNat_setWidth]

/-- The product of signed numbers. -/
theorem signExtend_mul_signExtend {n m : Nat} (a b : BitVec n) :
    a.signExtend m * b.signExtend m = BitVec.ofInt m (a.toInt * b.toInt) := (BitVec.ofInt_mul _ _).symm

/-- Twice the width holds every signed product. -/
theorem toInt_signExtend_mul {n : Nat} (hn : 0 < n) (a b : BitVec n) :
    (a.signExtend (n * 2) * b.signExtend (n * 2)).toInt = a.toInt * b.toInt := by
  have low := BitVec.le_toInt_mul_toInt (x := a) (y := b)
  have high := BitVec.toInt_mul_toInt_le (x := a) (y := b)
  have width : (2 : Int) ^ (n * 2) = 2 ^ (n * 2 - 2) * 4 := by
    rw [show (4 : Int) = 2 ^ 2 from rfl, ← pow_add]
    congr 1
    omega
  have pos : (0 : Int) < 2 ^ (n * 2 - 2) := by positivity
  rw [BitVec.toInt_mul, BitVec.toInt_signExtend_of_le (by omega), BitVec.toInt_signExtend_of_le (by omega)]
  apply Int.bmod_eq_of_le_mul_two <;> push_cast <;> omega

/-- The low part of a number, its sign extended, is the number itself unless the number does not fit the part. -/
theorem bne_signExtend_low {n m : Nat} (hn : 0 < n) (hm : n ≤ m) (p : BitVec m) :
    (p != (p.extractLsb' 0 n).signExtend m) = decide (p.toInt < -2 ^ (n - 1) ∨ 2 ^ (n - 1) ≤ p.toInt) := by
  have low : ((p.extractLsb' 0 n).signExtend m).toInt = p.toInt.bmod (2 ^ n) := by
    rw [BitVec.toInt_signExtend_of_le hm, BitVec.toInt_extractLsb', Nat.shiftRight_zero,
      ← BitVec.toInt_signExtend_eq_toNat_bmod_of_le hm, BitVec.toInt_signExtend_eq_toInt_bmod_of_le p hm]
  have width : (2 : Int) ^ n = 2 * 2 ^ (n - 1) := by rw [← pow_succ', Nat.sub_add_cancel hn]
  have fits : p.toInt.bmod (2 ^ n) = p.toInt ↔ -2 ^ (n - 1) ≤ p.toInt ∧ p.toInt < 2 ^ (n - 1) := by
    rw [Int.bmod_eq_iff (by positivity), sub_self]
    push_cast
    rw [width]
    simp only [dvd_zero, and_true]
    omega
  rw [Bool.eq_iff_iff, bne_iff_ne, decide_eq_true_eq, ne_eq, ← BitVec.toInt_inj, low, eq_comm, fits]
  omega

/-- The high half of an unsigned product that twice the width holds is 0 unless the product needs it. -/
theorem bne_high_zero {n p : Nat} (hp : p < 2 ^ (n * 2)) :
    ((BitVec.ofNat (n * 2) p).extractLsb' n n != 0) = decide (2 ^ n ≤ p) := by
  have width : 2 ^ (n * 2) = 2 ^ n * 2 ^ n := by rw [Nat.mul_two, pow_add]
  have high : p / 2 ^ n < 2 ^ n := Nat.div_lt_of_lt_mul (width ▸ hp)
  rw [Bool.eq_iff_iff, bne_iff_ne, decide_eq_true_eq, ne_eq, ← BitVec.toNat_inj, BitVec.extractLsb'_toNat,
    BitVec.toNat_ofNat, Nat.mod_eq_of_lt hp, Nat.shiftRight_eq_div_pow, Nat.mod_eq_of_lt high]
  simp

theorem toNat_mul_lt {n : Nat} (a b : BitVec n) : a.toNat * b.toNat < 2 ^ (n * 2) := by
  rw [Nat.mul_two, pow_add]
  exact Nat.mul_lt_mul'' a.isLt b.isLt

/-- The halves of a double word that an integer is put in. -/
theorem ofNat_halves (p : Nat) :
    (BitVec.ofNat 32 p).extractLsb' 0 16 = BitVec.ofNat 16 p ∧
      (BitVec.ofNat 32 p).extractLsb' 16 16 = BitVec.ofNat 16 (p / 2 ^ 16) := by
  constructor <;> apply BitVec.eq_of_toNat_eq <;>
    simp only [BitVec.extractLsb'_toNat, BitVec.toNat_ofNat, Nat.shiftRight_eq_div_pow] <;> omega

theorem ofInt_halves (p : Int) :
    (BitVec.ofInt 32 p).extractLsb' 0 16 = BitVec.ofInt 16 p ∧
      (BitVec.ofInt 32 p).extractLsb' 16 16 = BitVec.ofInt 16 (p / 2 ^ 16) := by
  constructor <;> apply BitVec.eq_of_toNat_eq <;>
    simp only [BitVec.extractLsb'_toNat, BitVec.toNat_ofInt, Nat.shiftRight_eq_div_pow] <;> omega

/-! ### The instructions -/

/-- CF and OF as told, and four draws. -/
theorem mulFlags_run (wide : Bool) (s : State) :
    ∃ sf zf af pf, (mulFlags wide).run s = .ok () (s.multiplied wide sf zf af pf) := by
  unfold mulFlags State.multiplied
  rw [run_modify_bind]
  exact undefFlags_four _ _ _ _ _

section Mul

variable {s : State} {d8 : Rm Reg8} {d16 : Rm Reg16}

theorem mul8_run (h : s.canRead 1 d8 = true) :
    let p := (s.reg8 .al).toNat * (s.val8 d8).toNat
    ∃ sf zf af pf, (mul8 d8).run s =
      .ok () (((s.read8 d8).setReg16 .ax (BitVec.ofNat 16 p)).multiplied (decide (2 ^ 8 ≤ p)) sf zf af pf) := by
  intro p
  unfold mul8
  rw [run_bind_ok (rd8_run d8 s h), run_get_bind, read8_reg8, setWidth_mul_setWidth]
  have wide : (Word.hi (BitVec.ofNat 16 p) != 0) = decide (2 ^ 8 ≤ p) := bne_high_zero (toNat_mul_lt _ _)
  rw [run_modify_bind, wide]
  exact mulFlags_run _ _

theorem mul16_run (h : s.canRead 2 d16 = true) :
    let p := s.gpr.ax.toNat * (s.val16 d16).toNat
    ∃ sf zf af pf, (mul16 d16).run s =
      .ok () ((((s.read16 d16).setReg16 .ax (BitVec.ofNat 16 p)).setReg16 .dx (BitVec.ofNat 16 (p / 2 ^ 16))).multiplied
        (decide (2 ^ 16 ≤ p)) sf zf af pf) := by
  intro p
  unfold mul16
  rw [run_bind_ok (rd16_run d16 s h), run_get_bind, read16_gpr, setWidth_mul_setWidth]
  have wide : ((BitVec.ofNat 32 p).extractLsb' 16 16 != 0) = decide (2 ^ 16 ≤ p) := bne_high_zero (toNat_mul_lt _ _)
  rw [run_modify_bind, wide, (ofNat_halves _).1, (ofNat_halves _).2]
  exact mulFlags_run _ _

theorem imul8_run (h : s.canRead 1 d8 = true) :
    let p := (s.reg8 .al).toInt * (s.val8 d8).toInt
    ∃ sf zf af pf, (imul8 d8).run s =
      .ok () (((s.read8 d8).setReg16 .ax (BitVec.ofInt 16 p)).multiplied (decide (p < -2 ^ 7 ∨ 2 ^ 7 ≤ p))
        sf zf af pf) := by
  intro p
  unfold imul8
  rw [run_bind_ok (rd8_run d8 s h), run_get_bind, read8_reg8]
  have whole := toInt_signExtend_mul (n := 8) (by decide) (s.reg8 .al) (s.val8 d8)
  have wide := bne_signExtend_low (n := 8) (m := 16) (by decide) (by decide)
    ((s.reg8 .al).signExtend 16 * (s.val8 d8).signExtend 16)
  rw [whole] at wide
  rw [run_modify_bind]
  unfold Word.lo
  rw [wide, signExtend_mul_signExtend]
  exact mulFlags_run _ _

theorem imul16_run (h : s.canRead 2 d16 = true) :
    let p := s.gpr.ax.toInt * (s.val16 d16).toInt
    ∃ sf zf af pf, (imul16 d16).run s =
      .ok () ((((s.read16 d16).setReg16 .ax (BitVec.ofInt 16 p)).setReg16 .dx (BitVec.ofInt 16 (p / 2 ^ 16))).multiplied
        (decide (p < -2 ^ 15 ∨ 2 ^ 15 ≤ p)) sf zf af pf) := by
  intro p
  unfold imul16
  rw [run_bind_ok (rd16_run d16 s h), run_get_bind, read16_gpr]
  have whole := toInt_signExtend_mul (n := 16) (by decide) s.gpr.ax (s.val16 d16)
  have wide := bne_signExtend_low (n := 16) (m := 32) (by decide) (by decide)
    (s.gpr.ax.signExtend 32 * (s.val16 d16).signExtend 32)
  rw [whole] at wide
  rw [run_modify_bind, wide, signExtend_mul_signExtend, (ofInt_halves _).1, (ofInt_halves _).2]
  exact mulFlags_run _ _

theorem imulImm_run (r : Reg16) (imm : Word) (h : s.canRead 2 d16 = true) :
    let p := (s.val16 d16).toInt * imm.toInt
    ∃ sf zf af pf, (imulImm r d16 imm).run s =
      .ok () (((s.read16 d16).setReg16 r (BitVec.ofInt 16 p)).multiplied (decide (p < -2 ^ 15 ∨ 2 ^ 15 ≤ p))
        sf zf af pf) := by
  intro p
  unfold imulImm
  have wide : (decide (p < -32768) || decide (32767 < p)) = decide (p < -2 ^ 15 ∨ 2 ^ 15 ≤ p) := by
    rw [← Bool.decide_or]
    exact decide_eq_decide.mpr (by omega)
  rw [run_bind_ok (rd16_run d16 s h), run_modify_bind, wide]
  exact mulFlags_run _ _

end Mul

end Sys2Proof.Machine

open Sys2Proof Sys2Proof.Machine

/-- Settles O19: the product in twice the width is that of the integers, and its high half or its sign extension says
whether it fits. -/
theorem multiplyResults : Obligations.MultiplyResults := by
  intro s hl
  refine ⟨fun d h => ?_, fun d h => ?_, fun d h => ?_, fun d h => ?_, fun r d imm h => ?_, fun r d imm h => ?_⟩
  · obtain ⟨sf, zf, af, pf, e⟩ := mul8_run h
    exact ⟨sf, zf, af, pf, exec_completes rfl hl e⟩
  · obtain ⟨sf, zf, af, pf, e⟩ := mul16_run h
    exact ⟨sf, zf, af, pf, exec_completes rfl hl e⟩
  · obtain ⟨sf, zf, af, pf, e⟩ := imul8_run h
    exact ⟨sf, zf, af, pf, exec_completes rfl hl e⟩
  · obtain ⟨sf, zf, af, pf, e⟩ := imul16_run h
    exact ⟨sf, zf, af, pf, exec_completes rfl hl e⟩
  · obtain ⟨sf, zf, af, pf, e⟩ := imulImm_run r imm h
    exact ⟨sf, zf, af, pf, exec_completes rfl hl e⟩
  · obtain ⟨sf, zf, af, pf, e⟩ := imulImm_run r (imm.signExtend 16) h
    rw [BitVec.toInt_signExtend_of_le (by decide)] at e
    exact ⟨sf, zf, af, pf, exec_completes rfl hl e⟩

end

section
/-! SUPPORT. How the divisions run (41_arithmetic.md R282, R283). -/

namespace Sys2Proof.Machine

/-- Six draws. -/
theorem divFlags_run (s : State) : ∃ o si z a p c, divFlags.run s = .ok () (s.divided o si z a p c) :=
  ⟨_, _, _, _, _, _, undefFlags_run [.of, .sf, .zf, .af, .pf, .cf] s⟩

/-- A test that decides how the rule ends. -/
theorem require_bind_iff {β : Type} {ok : Bool} {c : Prop} [Decidable c] (h : ok = true ↔ c) (a : Abort)
    (f : Unit → M β) (s : State) : (require ok a >>= f).run s = if c then (f ()).run s else .error a s := by
  rw [require_bind]
  simp only [h]

/-- A divisor is not 0. -/
theorem bne_zero_iff_toNat {n : Nat} (b : BitVec n) : (b != 0) = true ↔ b.toNat ≠ 0 := by
  rw [bne_iff_ne, ne_eq, ← BitVec.toNat_inj]
  simp

theorem bne_zero_iff_toInt {n : Nat} (b : BitVec n) : (b != 0) = true ↔ b.toInt ≠ 0 := by
  rw [bne_iff_ne, ne_eq, ← BitVec.toInt_inj]
  simp

section Div

variable {s : State} {d8 : Rm Reg8} {d16 : Rm Reg16}

theorem div8_run (h : s.canRead 1 d8 = true) :
    let n := s.gpr.ax.toNat
    let v := (s.val8 d8).toNat
    (div8 d8).run s = if v ≠ 0 ∧ n / v < 2 ^ 8 then
        divFlags.run ((s.read8 d8).setReg16 .ax (Word.of (BitVec.ofNat 8 (n % v)) (BitVec.ofNat 8 (n / v))))
      else .error .de (s.read8 d8) := by
  intro n v
  have fits : (s.val8 d8 != 0 && decide (n / v ≤ 0xFF)) = true ↔ v ≠ 0 ∧ n / v < 2 ^ 8 := by
    rw [Bool.and_eq_true, bne_zero_iff_toNat, decide_eq_true_eq]
    exact and_congr_right fun _ => by omega
  unfold div8
  rw [run_bind_ok (rd8_run d8 s h), run_get_bind, read8_gpr, require_bind_iff fits, run_modify_bind]

theorem div16_run (h : s.canRead 2 d16 = true) :
    let n := s.gpr.dx.toNat * 2 ^ 16 + s.gpr.ax.toNat
    let v := (s.val16 d16).toNat
    (div16 d16).run s = if v ≠ 0 ∧ n / v < 2 ^ 16 then
        divFlags.run (((s.read16 d16).setReg16 .ax (BitVec.ofNat 16 (n / v))).setReg16 .dx (BitVec.ofNat 16 (n % v)))
      else .error .de (s.read16 d16) := by
  intro n v
  have fits : (s.val16 d16 != 0 && decide (n / v ≤ 0xFFFF)) = true ↔ v ≠ 0 ∧ n / v < 2 ^ 16 := by
    rw [Bool.and_eq_true, bne_zero_iff_toNat, decide_eq_true_eq]
    exact and_congr_right fun _ => by omega
  unfold div16
  rw [run_bind_ok (rd16_run d16 s h), run_get_bind, read16_gpr, toNat_append_eq_add, require_bind_iff fits,
    run_modify_bind]

/-- A divisor that is not 0 and a signed quotient in its range. -/
theorem signed_fits_iff {n : Nat} (b : BitVec n) (lo hi q : Int) :
    (b != 0 && decide (lo ≤ q) && decide (q ≤ hi)) = true ↔ b.toInt ≠ 0 ∧ lo ≤ q ∧ q ≤ hi := by
  rw [Bool.and_eq_true, Bool.and_eq_true, bne_zero_iff_toInt, decide_eq_true_eq, decide_eq_true_eq, and_assoc]

theorem idiv8_run (h : s.canRead 1 d8 = true) :
    let n := s.gpr.ax.toInt
    let v := (s.val8 d8).toInt
    (idiv8 d8).run s = if v ≠ 0 ∧ -2 ^ 7 ≤ n.tdiv v ∧ n.tdiv v < 2 ^ 7 then
        divFlags.run ((s.read8 d8).setReg16 .ax (Word.of (BitVec.ofInt 8 (n.tmod v)) (BitVec.ofInt 8 (n.tdiv v))))
      else .error .de (s.read8 d8) := by
  intro n v
  have fits (q : Int) : (s.val8 d8 != 0 && decide (-128 ≤ q) && decide (q ≤ 127)) = true ↔
      v ≠ 0 ∧ -2 ^ 7 ≤ q ∧ q < 2 ^ 7 := by
    rw [signed_fits_iff]
    omega
  unfold idiv8
  rw [run_bind_ok (rd8_run d8 s h), run_get_bind, read8_gpr, require_bind_iff (fits _), run_modify_bind]

theorem idiv16_run (h : s.canRead 2 d16 = true) :
    let n := s.gpr.dx.toInt * 2 ^ 16 + s.gpr.ax.toNat
    let v := (s.val16 d16).toInt
    (idiv16 d16).run s = if v ≠ 0 ∧ -2 ^ 15 ≤ n.tdiv v ∧ n.tdiv v < 2 ^ 15 then
        divFlags.run (((s.read16 d16).setReg16 .ax (BitVec.ofInt 16 (n.tdiv v))).setReg16 .dx (BitVec.ofInt 16 (n.tmod v)))
      else .error .de (s.read16 d16) := by
  intro n v
  have dividend : (s.gpr.dx ++ s.gpr.ax).toInt = n := by
    rw [BitVec.toInt_append, if_neg (by decide), Int.mul_comm]
  have fits (q : Int) : (s.val16 d16 != 0 && decide (-32768 ≤ q) && decide (q ≤ 32767)) = true ↔
      v ≠ 0 ∧ -2 ^ 15 ≤ q ∧ q < 2 ^ 15 := by
    rw [signed_fits_iff]
    omega
  unfold idiv16
  rw [run_bind_ok (rd16_run d16 s h), run_get_bind, read16_gpr, dividend, require_bind_iff (fits _), run_modify_bind]

end Div

/-- A division completes, its result in place and the flags undefined. -/
theorem exec_divides {i : Instr} {body : M Unit} {c : Prop} [Decidable c] {s t u : State}
    (hi : exec i s = runInstr body s)
    (hl : s.lockOk = true) (h : body.run s = if c then divFlags.run t else .error .de u) (hc : c) :
    ∃ o si z a p c, exec i s = .next (t.divided o si z a p c).done := by
  obtain ⟨o, si, z, a, p, c, e⟩ := divFlags_run t
  exact ⟨o, si, z, a, p, c, exec_completes hi hl ((h.trans (if_pos hc)).trans e)⟩

/-- A division ends in exception 0. -/
theorem exec_divideError {i : Instr} {body : M Unit} {c : Prop} [Decidable c] {s u : State}
    {r : EStateM.Result Abort State Unit} (hi : exec i s = runInstr body s)
    (hl : s.lockOk = true) (h : body.run s = if c then r else .error .de u)
    (hc : ¬c) : exec i s = .next (deliver 0 .fault none u) :=
  exec_raises hi hl (h.trans (if_neg hc))

end Sys2Proof.Machine

open Sys2Proof Sys2Proof.Machine

/-- Settles O20: each division tests its divisor and quotient after the operand has been read. -/
theorem divideResults : Obligations.DivideResults := by
  intro s hl
  refine ⟨fun d h => ?_, fun d h => ?_, fun d h => ?_, fun d h => ?_⟩
  · exact ⟨fun hv hq => exec_divides rfl hl (div8_run h) ⟨hv, hq⟩,
      fun hbad => exec_divideError rfl hl (div8_run h) (by omega)⟩
  · exact ⟨fun hv hq => exec_divides rfl hl (div16_run h) ⟨hv, hq⟩,
      fun hbad => exec_divideError rfl hl (div16_run h) (by omega)⟩
  · exact ⟨fun hv hlow hhigh => exec_divides rfl hl (idiv8_run h) ⟨hv, hlow, hhigh⟩,
      fun hbad => exec_divideError rfl hl (idiv8_run h) (by omega)⟩
  · exact ⟨fun hv hlow hhigh => exec_divides rfl hl (idiv16_run h) ⟨hv, hlow, hhigh⟩,
      fun hbad => exec_divideError rfl hl (idiv16_run h) (by omega)⟩

end

section
/-! SUPPORT. How the decimal adjustments run (41_arithmetic.md R284 to R289), and what DAA and DAS make of a binary sum or
difference of packed decimals. -/

namespace Sys2Proof.Machine

/-! ### How they run -/

/-- AL after the adjustment of its low digit by DAA or DAS. -/
def State.lowAdjusted (s : State) (step : Byte → Byte → Byte) : Byte :=
  if s.lowDigitOver then step (s.reg8 .al) 0x06 else s.reg8 .al

/-- The high digit then needs an adjustment: CF after DAA or DAS. -/
def State.highDigitOver (s : State) (step : Byte → Byte → Byte) : Bool :=
  decide (0x9F < (s.lowAdjusted step).toNat) || s.flag .cf

/-- AL after DAA or DAS. -/
def State.adjusted (s : State) (step : Byte → Byte → Byte) : Byte :=
  if s.highDigitOver step then step (s.lowAdjusted step) 0x60 else s.lowAdjusted step

theorem decimalAdjust_run (step : Byte → Byte → Byte) (s : State) : (decimalAdjust step).run s =
    .ok () (((((s.setReg8 .al (s.adjusted step)).setFlag .af s.lowDigitOver).setFlag .cf
      (s.highDigitOver step)).setResultFlags (s.adjusted step)).undefine [(.of, Config.undefBit s.undef)]) := rfl

theorem asciiAdjust_run (step : Byte → Byte → Byte) (s : State) :
    let low := s.lowDigitOver
    let al := if low then step (s.reg8 .al) 0x06 else s.reg8 .al
    let ah := if low then step (s.reg8 .ah) 0x01 else s.reg8 .ah
    ∃ o si z p, (asciiAdjust step).run s =
      .ok () ((((s.setReg16 .ax (Word.of ah (al &&& 0x0F))).setFlag .af low).setFlag .cf low).undefine
        [(.of, o), (.sf, si), (.zf, z), (.pf, p)]) := by
  intro low al ah
  unfold asciiAdjust
  rw [run_get_bind, run_modify_bind]
  exact undefFlags_four _ _ _ _ _

theorem setUnpacked_run (ah al : Byte) (s : State) :
    ∃ o a c, (setUnpacked ah al).run s =
      .ok () (((s.setReg16 .ax (Word.of ah al)).setResultFlags al).undefine [(.of, o), (.af, a), (.cf, c)]) := by
  unfold setUnpacked
  rw [run_modify_bind]
  exact undefFlags_three _ _ _ _

theorem asciiMul_run (s : State) : asciiMul.run s =
    (setUnpacked (BitVec.ofNat 8 ((s.reg8 .al).toNat / 10)) (BitVec.ofNat 8 ((s.reg8 .al).toNat % 10))).run s :=
  run_get_bind _ s

theorem asciiDiv_run (s : State) : asciiDiv.run s = (setUnpacked 0 (s.reg8 .al + 10 * s.reg8 .ah)).run s :=
  run_get_bind _ s

theorem exec_cwd {s : State} (hl : s.lockOk = true) :
    exec .cwd s = .next (s.setReg16 .dx (if s.gpr.ax.toInt < 0 then 0xFFFF else 0x0000)).done := by
  simp only [← msb_iff_toInt_neg]
  exact exec_completes rfl hl (run_modify _ s)

/-! ### Packed decimals -/

/-- A packed decimal is its two digits side by side. -/
theorem packed_toNat {n : Nat} (h : n < 100) : (packed n).toNat = 16 * (n / 10) + n % 10 := by
  unfold packed
  rw [BitVec.toNat_ofNat]
  omega

/-- DAA and DAS complete; AL and CF are the adjusted ones. -/
theorem decimalAdjust_completes {i : Instr} {step : Byte → Byte → Byte} {s : State}
    (hi : exec i s = runInstr (decimalAdjust step) s) (hl : s.lockOk = true) :
    ∃ t, exec i s = .next t ∧ t.reg8 .al = s.adjusted step ∧ t.flag .cf = s.highDigitOver step :=
  ⟨_, exec_completes hi hl (decimalAdjust_run step s), setReg8_reg8 s .al _, rfl⟩

/-- The binary sum of two packed decimals, adjusted. The digit sums are `a % 10 + b % 10` and, with the carry between the
digits, `(a + b) / 10`: each adjustment is made just where its digit sum is above 9. -/
theorem adjusted_add {s : State} {a b : Nat} (ha : a < 100) (hb : b < 100)
    (hlow : (addFlags (packed a) (packed b) false).1.toNat < 0xFA)
    (hal : s.reg8 .al = (addFlags (packed a) (packed b) false).1)
    (haf : s.flag .af = (addFlags (packed a) (packed b) false).2.af)
    (hcf : s.flag .cf = (addFlags (packed a) (packed b) false).2.cf) :
    s.adjusted (· + ·) = packed ((a + b) % 100) ∧ s.highDigitOver (· + ·) = decide (100 ≤ a + b) := by
  have sum : (s.reg8 .al).toNat = (16 * (a / 10) + a % 10 + (16 * (b / 10) + b % 10)) % 256 := by
    rw [hal, ← packed_toNat ha, ← packed_toNat hb]
    exact BitVec.toNat_ofNat _ _
  rw [← hal, sum] at hlow
  simp only [addFlags, packed_toNat ha, packed_toNat hb, Bool.toNat_false, Nat.add_zero] at haf hcf
  have low : s.lowDigitOver = decide (10 ≤ a % 10 + b % 10) := by
    rw [State.lowDigitOver, haf, sum, ← Bool.decide_or]
    exact decide_eq_decide.mpr (by omega)
  have first : (s.lowAdjusted (· + ·)).toNat = (16 * ((a + b) / 10) + (a + b) % 10) % 256 := by
    rw [State.lowAdjusted, low]
    by_cases h : 10 ≤ a % 10 + b % 10 <;> simp only [h, decide_true, decide_false, if_true, Bool.false_eq_true, if_false]
    · rw [BitVec.toNat_add, sum]
      simp only [BitVec.reduceToNat]
      omega
    · omega
  have high : s.highDigitOver (· + ·) = decide (100 ≤ a + b) := by
    rw [State.highDigitOver, hcf, first, ← Bool.decide_or]
    have corrected : 16 * (a / 10) + a % 10 + (16 * (b / 10) + b % 10) + 6 * ((a % 10 + b % 10) / 10) =
        16 * ((a + b) / 10) + (a + b) % 10 := by omega
    apply decide_eq_decide.mpr
    by_cases carry : 256 ≤ 16 * (a / 10) + a % 10 + (16 * (b / 10) + b % 10)
    · exact ⟨fun _ => by omega, fun _ => .inr carry⟩
    · rw [Nat.mod_eq_of_lt (by omega)] at hlow
      rw [Nat.mod_eq_of_lt (by omega)]
      omega
  refine ⟨BitVec.eq_of_toNat_eq ?_, high⟩
  rw [packed_toNat (Nat.mod_lt _ (by decide)), State.adjusted, high]
  by_cases h : 100 ≤ a + b <;> simp only [h, decide_true, decide_false, if_true, Bool.false_eq_true, if_false]
  · rw [BitVec.toNat_add, first]
    simp only [BitVec.reduceToNat]
    omega
  · omega

/-- The binary difference of two packed decimals, adjusted: each adjustment is made just where its digit borrows. -/
theorem adjusted_sub {s : State} {a b : Nat} (ha : a < 100) (hb : b < 100)
    (hal : s.reg8 .al = (subFlags (packed a) (packed b) false).1)
    (haf : s.flag .af = (subFlags (packed a) (packed b) false).2.af)
    (hcf : s.flag .cf = (subFlags (packed a) (packed b) false).2.cf) :
    s.adjusted (· - ·) = packed ((a + 100 - b) % 100) ∧ s.highDigitOver (· - ·) = decide (a < b) := by
  have difference : ((s.reg8 .al).toNat : Int) =
      ((16 * (a / 10) + a % 10 : Nat) - (16 * (b / 10) + b % 10 : Nat) : Int) % 256 := by
    rw [hal, subFlags_toNat, packed_toNat ha, packed_toNat hb]
    simp
  simp only [subFlags, packed_toNat ha, packed_toNat hb, Bool.toNat_false, Nat.add_zero] at haf hcf
  have low : s.lowDigitOver = decide (a % 10 < b % 10) := by
    rw [State.lowDigitOver, haf, ← Bool.decide_or]
    exact decide_eq_decide.mpr (by omega)
  have first : ((s.lowAdjusted (· - ·)).toNat : Int) =
      (16 * (((a : Int) - b) / 10) + ((a : Int) - b) % 10) % 256 := by
    rw [State.lowAdjusted, low]
    by_cases h : a % 10 < b % 10 <;> simp only [h, decide_true, decide_false, if_true, Bool.false_eq_true, if_false]
    · rw [BitVec.toNat_sub]
      simp only [BitVec.reduceToNat]
      omega
    · omega
  have high : s.highDigitOver (· - ·) = decide (a < b) := by
    rw [State.highDigitOver, hcf, ← Bool.decide_or]
    apply decide_eq_decide.mpr
    by_cases borrow : a < b
    · exact ⟨fun _ => borrow, fun _ => .inr (by omega)⟩
    · rw [Int.emod_eq_of_lt (by omega) (by omega)] at first
      omega
  refine ⟨BitVec.eq_of_toNat_eq ?_, high⟩
  rw [packed_toNat (Nat.mod_lt _ (by decide)), State.adjusted, high]
  by_cases h : a < b <;> simp only [h, decide_true, decide_false, if_true, Bool.false_eq_true, if_false]
  · rw [BitVec.toNat_sub]
    simp only [BitVec.reduceToNat]
    omega
  · omega

end Sys2Proof.Machine

open Sys2Proof Sys2Proof.Machine

/-- Settles O21: each rule is an update of the state it begins in, and the draws of its undefined flags. -/
theorem decimalAdjustments : Obligations.DecimalAdjustments := by
  intro s hl low adjusted unpacked
  refine ⟨⟨_, exec_completes rfl hl (decimalAdjust_run (· + ·) s)⟩,
    ⟨_, exec_completes rfl hl (decimalAdjust_run (· - ·) s)⟩, ?_, ?_, ?_, ?_, exec_completes rfl hl (run_modify _ s),
    exec_cwd hl⟩
  · obtain ⟨o, si, z, p, h⟩ := asciiAdjust_run (· + ·) s
    exact ⟨o, si, z, p, exec_completes rfl hl h⟩
  · obtain ⟨o, si, z, p, h⟩ := asciiAdjust_run (· - ·) s
    exact ⟨o, si, z, p, exec_completes rfl hl h⟩
  · obtain ⟨o, a, c, h⟩ := setUnpacked_run _ _ s
    exact ⟨o, a, c, exec_completes rfl hl ((asciiMul_run s).trans h)⟩
  · obtain ⟨o, a, c, h⟩ := setUnpacked_run _ _ s
    exact ⟨o, a, c, exec_completes rfl hl ((asciiDiv_run s).trans h)⟩

/-- Settles O22, from the digit sums and differences. -/
theorem decimalSums : Obligations.DecimalSums := by
  intro s a b hl ha hb
  constructor
  · intro r hlow hal haf hcf
    obtain ⟨t, ht, al, cf⟩ := decimalAdjust_completes (i := .daa) (step := (· + ·)) rfl hl
    obtain ⟨sum, carry⟩ := adjusted_add ha hb hlow hal haf hcf
    exact ⟨t, ht, al.trans sum, cf.trans carry⟩
  · intro r hal haf hcf
    obtain ⟨t, ht, al, cf⟩ := decimalAdjust_completes (i := .das) (step := (· - ·)) rfl hl
    obtain ⟨difference, borrow⟩ := adjusted_sub ha hb hal haf hcf
    exact ⟨t, ht, al.trans difference, cf.trans borrow⟩

end

section
/-! SUPPORT. Operations that change no more than the status flags, and what an instruction leaves unchanged that reads its
operand, runs such an operation and writes its destination. -/

namespace Sys2Proof.Machine

/-! ### The status flags -/

/-- The flags that arithmetic sets. -/
def Flag.isStatus : Flag → Bool
  | .cf | .pf | .af | .zf | .sf | .of => true
  | .tf | .if_ | .df | .nt => false

/-- The image of FLAGS but for the six status flags depends on the other fields alone. -/
theorem FlagsReg.word_others (r : FlagsReg) : r.word &&& 0xF72A =
    { r with cf := false, pf := false, af := false, zf := false, sf := false, of := false }.word &&& 0xF72A := by
  apply BitVec.eq_of_getLsbD_eq
  intro i hi
  unfold FlagsReg.word
  simp only [BitVec.getLsbD_and, BitVec.getLsbD_append]
  interval_cases i <;> simp

theorem FlagsReg.set_status_others (r : FlagsReg) {f : Flag} (hf : f.isStatus = true) (b : Bool) :
    (r.set f b).word &&& 0xF72A = r.word &&& 0xF72A := by
  rw [FlagsReg.word_others (r.set f b), FlagsReg.word_others r]
  cases f with
  | cf | pf | af | zf | sf | of => rfl
  | tf | if_ | df | nt => exact absurd hf (by decide)

/-- `t` is `s` but for status flags and the count of draws. -/
def State.StatusOnly (s t : State) : Prop :=
  ∃ f n, t = { s with flags := f, undef := n } ∧ f.word &&& 0xF72A = s.flags.word &&& 0xF72A

namespace State.StatusOnly

variable {s t u : State}

theorem refl (s : State) : s.StatusOnly s := ⟨s.flags, s.undef, rfl, rfl⟩

theorem trans (h : s.StatusOnly t) (h' : t.StatusOnly u) : s.StatusOnly u := by
  obtain ⟨f, n, rfl, hf⟩ := h
  obtain ⟨g, k, rfl, hg⟩ := h'
  exact ⟨g, k, rfl, hg.trans hf⟩

theorem setFlag (h : s.StatusOnly t) {f : Flag} (hf : f.isStatus = true) (b : Bool) : s.StatusOnly (t.setFlag f b) :=
  h.trans ⟨t.flags.set f b, t.undef, rfl, FlagsReg.set_status_others _ hf b⟩

theorem setStatus (s : State) (f : StatusFlags) : s.StatusOnly (s.setStatus f) :=
  ((((((refl s).setFlag rfl _).setFlag rfl _).setFlag rfl _).setFlag rfl _).setFlag rfl _).setFlag rfl _

theorem setStatusButCarry (s : State) (f : StatusFlags) : s.StatusOnly (s.setStatusButCarry f) :=
  (((((refl s).setFlag rfl _).setFlag rfl _).setFlag rfl _).setFlag rfl _).setFlag rfl _

theorem setResultFlags (h : s.StatusOnly t) {n : Nat} (r : BitVec n) : s.StatusOnly (t.setResultFlags r) :=
  ((h.setFlag rfl _).setFlag rfl _).setFlag rfl _

end State.StatusOnly

/-- The operation completes from every state, and changes no more than status flags. -/
def SetsStatus {α : Type} (m : M α) : Prop := ∀ s, ∃ a t, m.run s = .ok a t ∧ s.StatusOnly t

namespace SetsStatus

variable {α β : Type} {n : Nat}

theorem pure (a : α) : SetsStatus (Pure.pure a : M α) := fun s => ⟨a, s, rfl, .refl s⟩

theorem bind {m : M α} {f : α → M β} (hm : SetsStatus m) (hf : ∀ a, SetsStatus (f a)) : SetsStatus (m >>= f) := by
  intro s
  obtain ⟨a, t, ha, ht⟩ := hm s
  obtain ⟨b, u, hb, hu⟩ := hf a t
  exact ⟨b, u, (run_bind_ok ha).trans hb, ht.trans hu⟩

theorem get_bind {f : State → M β} (hf : ∀ s, SetsStatus (f s)) : SetsStatus (get >>= f) := fun s => hf s s

theorem mod {f : State → State} (hf : ∀ s : State, s.StatusOnly (f s)) : SetsStatus (modify f : M PUnit) :=
  fun s => ⟨⟨⟩, f s, rfl, hf s⟩

theorem ite {c : Prop} [Decidable c] {m k : M α} (hm : SetsStatus m) (hk : SetsStatus k) :
    SetsStatus (if c then m else k) := by split <;> assumption

theorem flag {f : Flag} (hf : f.isStatus = true) (b : State → Bool) :
    SetsStatus (modify fun s => s.setFlag f (b s) : M PUnit) := mod fun s => (State.StatusOnly.refl s).setFlag hf _

theorem undefFlag {f : Flag} (hf : f.isStatus = true) : SetsStatus (Machine.undefFlag f) := fun s =>
  ⟨(), _, undefFlag_run f s, ⟨s.flags.set f _, s.undef + 1, rfl, FlagsReg.set_status_others _ hf _⟩⟩

theorem of_computes {f : BitVec n → BitVec n → M (BitVec n)} {g} (h : Computes f g) (a b : BitVec n) :
    SetsStatus (f a b) := fun s => ⟨_, _, h a b s, .setStatus s _⟩

theorem opAdd (a b : BitVec n) : SetsStatus (Machine.opAdd a b) := of_computes opAdd_computes a b
theorem opAdc (a b : BitVec n) : SetsStatus (Machine.opAdc a b) := of_computes opAdc_computes a b
theorem opSub (a b : BitVec n) : SetsStatus (Machine.opSub a b) := of_computes opSub_computes a b
theorem opSbb (a b : BitVec n) : SetsStatus (Machine.opSbb a b) := of_computes opSbb_computes a b
theorem opCmp (a b : BitVec n) : SetsStatus (Machine.opCmp a b) := mod fun s => .setStatus s _
theorem opInc (a : BitVec n) : SetsStatus (Machine.opInc a) := fun s => ⟨_, _, opInc_run a s, .setStatusButCarry s _⟩
theorem opDec (a : BitVec n) : SetsStatus (Machine.opDec a) := fun s => ⟨_, _, opDec_run a s, .setStatusButCarry s _⟩
theorem opNeg (a : BitVec n) : SetsStatus (Machine.opNeg a) := opSub 0 a
theorem opNot (a : BitVec n) : SetsStatus (Machine.opNot a) := pure _

theorem logicFlags (r : BitVec n) : SetsStatus (Machine.logicFlags r) :=
  bind (mod fun s => (((State.StatusOnly.refl s).setFlag (f := .cf) rfl _).setFlag (f := .of) rfl _).setResultFlags r)
    fun _ => undefFlag rfl
theorem opAnd (a b : BitVec n) : SetsStatus (Machine.opAnd a b) := bind (logicFlags _) fun _ => pure _
theorem opOr (a b : BitVec n) : SetsStatus (Machine.opOr a b) := bind (logicFlags _) fun _ => pure _
theorem opXor (a b : BitVec n) : SetsStatus (Machine.opXor a b) := bind (logicFlags _) fun _ => pure _
theorem opTest (a b : BitVec n) : SetsStatus (Machine.opTest a b) := logicFlags _

/-- A shift or rotate: none, one or both of SF, ZF, PF with AF, and OF. -/
theorem opShift (k : Shift) (raw : Byte) (v : BitVec n) : SetsStatus (Machine.opShift k raw v) := by
  refine get_bind fun s => ite (bind (undefFlag rfl) fun _ => pure _) (bind (flag rfl _) fun _ => ?_)
  have overflow : ∀ (c : Prop) [Decidable c] (b : Bool) (r : BitVec n),
      SetsStatus (if c then do modify fun s : State => s.setFlag .of b; Pure.pure r
        else do Machine.undefFlag .of; Pure.pure r) := fun c _ b r =>
    ite (bind (flag rfl _) fun _ => pure _) (bind (undefFlag rfl) fun _ => pure _)
  refine ite (bind (mod fun s => (State.StatusOnly.refl s).setResultFlags _) fun _ => bind (undefFlag rfl) fun _ => ?_) ?_
  · exact overflow _ _ _
  · exact overflow _ _ _

/-! CMP and TEST of registers. -/

theorem rd16Reg (r : Reg16) : SetsStatus (rd16 (.reg r)) := get_bind fun _ => pure _
theorem rd8Reg (r : Reg8) : SetsStatus (rd8 (.reg r)) := get_bind fun _ => pure _

theorem cmpRwEw {f : Word → Word → M Unit} (hf : ∀ a b, SetsStatus (f a b)) (r p : Reg16) :
    SetsStatus (Machine.cmpRwEw f r (.reg p)) := bind (rd16Reg p) fun _ => get_bind fun _ => hf _ _
theorem cmpEwRw {f : Word → Word → M Unit} (hf : ∀ a b, SetsStatus (f a b)) (r p : Reg16) :
    SetsStatus (Machine.cmpEwRw f (.reg r) p) := bind (rd16Reg r) fun _ => get_bind fun _ => hf _ _
theorem cmpEwDw {f : Word → Word → M Unit} (hf : ∀ a b, SetsStatus (f a b)) (r : Reg16) (imm : Word) :
    SetsStatus (Machine.cmpEwDw f (.reg r) imm) := bind (rd16Reg r) fun _ => hf _ _
theorem cmpRbEb {f : Byte → Byte → M Unit} (hf : ∀ a b, SetsStatus (f a b)) (r p : Reg8) :
    SetsStatus (Machine.cmpRbEb f r (.reg p)) := bind (rd8Reg p) fun _ => get_bind fun _ => hf _ _
theorem cmpEbDb {f : Byte → Byte → M Unit} (hf : ∀ a b, SetsStatus (f a b)) (r : Reg8) (imm : Byte) :
    SetsStatus (Machine.cmpEbDb f (.reg r) imm) := bind (rd8Reg r) fun _ => hf _ _

end SetsStatus

/-! ### What an instruction does to its destination -/

/-- `t` is `s`, its operand `d` read or not, with status flags changed at most, and then `d` written or not. -/
def State.Replaced16 (s : State) (d : Rm Reg16) (t : State) : Prop :=
  ∃ u, (s.StatusOnly u ∨ (s.read16 d).StatusOnly u) ∧ (t = u ∨ ∃ v, t = s.put16 u d v)

def State.Replaced8 (s : State) (d : Rm Reg8) (t : State) : Prop :=
  ∃ u, (s.StatusOnly u ∨ (s.read8 d).StatusOnly u) ∧ (t = u ∨ ∃ v, t = s.put8 u d v)

/-- The instruction completes, and does to its destination no more than that. -/
def State.Replaces16 (s : State) (d : Rm Reg16) (i : Instr) : Prop := ∃ t, exec i s = .next t.done ∧ s.Replaced16 d t
def State.Replaces8 (s : State) (d : Rm Reg8) (i : Instr) : Prop := ∃ t, exec i s = .next t.done ∧ s.Replaced8 d t

section Rules

variable {s : State} {i : Instr} {lost : M Unit}

section Words

variable {f : Word → Word → M Word} {d : Rm Reg16}

theorem modify16_replaces {g : Word → M Word} (hl : s.lockOk = true) (hd : s.canWrite 2 d = true)
    (hg : ∀ a, SetsStatus (g a)) (hi : exec i s = runInstr (modify16 lost d g) s) : s.Replaces16 d i := by
  obtain ⟨v, u, hv, hu⟩ := hg (s.val16 d) (s.read16 d)
  exact ⟨_, exec_completes hi hl (modify16_run lost d g s u v hd hv), u, .inr hu, .inr ⟨v, rfl⟩⟩

theorem ewRw_replaces (hl : s.lockOk = true) (hd : s.canWrite 2 d = true) (hf : ∀ a b, SetsStatus (f a b)) (r : Reg16)
    (hi : exec i s = runInstr (ewRw lost f d r) s) : s.Replaces16 d i := by
  obtain ⟨v, u, hv, hu⟩ := hf (s.val16 d) (s.reg16 r) (s.read16 d)
  exact ⟨_, exec_completes hi hl (ewRw_run hd hv), u, .inr hu, .inr ⟨v, rfl⟩⟩

theorem ewDw_replaces (hl : s.lockOk = true) (hd : s.canWrite 2 d = true) (hf : ∀ a b, SetsStatus (f a b)) (imm : Word)
    (hi : exec i s = runInstr (ewDw lost f d imm) s) : s.Replaces16 d i :=
  modify16_replaces hl hd (fun a => hf a imm) hi

theorem rwEw_replaces (hl : s.lockOk = true) (hf : ∀ a b, SetsStatus (f a b)) (r p : Reg16)
    (hi : exec i s = runInstr (rwEw f r (.reg p)) s) : s.Replaces16 (.reg r) i := by
  obtain ⟨v, u, hv, hu⟩ := hf (s.reg16 r) (s.reg16 p) s
  exact ⟨_, exec_completes hi hl (rwEw_run (d16 := .reg p) rfl hv), u, .inl hu, .inr ⟨v, rfl⟩⟩

/-- CMP and TEST of a register. -/
theorem status_replaces16 {m : M Unit} {r : Reg16} (hl : s.lockOk = true) (hm : SetsStatus m)
    (hi : exec i s = runInstr m s) : s.Replaces16 (.reg r) i := by
  obtain ⟨⟨⟩, u, hv, hu⟩ := hm s
  exact ⟨_, exec_completes hi hl hv, u, .inl hu, .inl rfl⟩

theorem shiftCl16_replaces (k : Shift) (hl : s.lockOk = true) (hd : s.canWrite 2 d = true)
    (hi : exec i s = runInstr (shiftCl16 k d) s) : s.Replaces16 d i := by
  obtain ⟨v, u, hv, hu⟩ := SetsStatus.opShift k (s.reg8 .cl) (s.val16 d) (s.read16 d)
  exact ⟨_, exec_completes hi hl ((run_get_bind _ s).trans (modify16_run k.lost d _ s u v hd hv)), u, .inr hu,
    .inr ⟨v, rfl⟩⟩

theorem shift16_replaces (k : Shift) (raw : Byte) (hl : s.lockOk = true) (hd : s.canWrite 2 d = true)
    (hi : exec i s = runInstr (shift16 k d raw) s) : s.Replaces16 d i :=
  modify16_replaces hl hd (SetsStatus.opShift k raw) hi

/-- The destination is written, and not read. -/
theorem put16_replaces {body : M Unit} {v : Word} (hl : s.lockOk = true) (hi : exec i s = runInstr body s)
    (h : body.run s = .ok () (s.put16 s d v)) : s.Replaces16 d i :=
  ⟨_, exec_completes hi hl h, s, .inl (.refl s), .inr ⟨v, rfl⟩⟩

theorem storeMsw_run (hd : s.canWrite 2 d = true) :
    (storeMsw d).run s = .ok () (s.put16 s d (0xFFF0 ||| s.msw)) := (run_get_bind _ s).trans (wr16_run d _ s hd)

theorem protectedOnly_bind {β : Type} (hpe : s.pe = true) (k : Unit → M β) :
    (protectedOnly >>= k).run s = (k ()).run s := by
  apply run_bind_ok
  unfold protectedOnly
  rw [run_get_bind, hpe, require_true]

theorem storeLocalTable_run (hpe : s.pe = true) (hd : s.canWrite 2 d = true) :
    (storeLocalTable d).run s = .ok () (s.put16 s d s.ldtr.sel) :=
  (protectedOnly_bind hpe _).trans ((run_get_bind _ s).trans (wr16_run d _ s hd))

theorem storeTask_run (hpe : s.pe = true) (hd : s.canWrite 2 d = true) :
    (storeTask d).run s = .ok () (s.put16 s d s.tr.sel) :=
  (protectedOnly_bind hpe _).trans ((run_get_bind _ s).trans (wr16_run d _ s hd))

theorem read16_canWrite (s : State) (d : Rm Reg16) : (s.read16 d).canWrite 2 d = s.canWrite 2 d := by
  cases d with
  | reg r => rfl
  | mem ea => exact writeOk_after16 s _ _ _ _

/-- ARPL: the operand is tested for writing and read once, and is written only if its RPL is raised
(47_system_control.md R503). -/
theorem adjust_run (r : Reg16) (hpe : s.pe = true) (hd : s.canWrite 2 d = true) :
    let less := (selRpl (s.val16 d)).ult (selRpl (s.reg16 r))
    (adjust d r).run s = .ok () ((if less = true then s.put16 (s.read16 d) d (adjustRpl (s.val16 d) (s.reg16 r))
      else s.read16 d).setFlag .zf less) := by
  intro less
  have written : (wr16 d (adjustRpl (s.val16 d) (s.reg16 r))).run (s.read16 d) =
      .ok () (s.put16 (s.read16 d) d (adjustRpl (s.val16 d) (s.reg16 r))) := by
    rw [wr16_run d _ (s.read16 d) ((read16_canWrite s d).trans hd), read16_put16]
  have rest : ∀ b : Bool, ((if b = true then do
        wr16 d (adjustRpl (s.val16 d) (s.reg16 r)); modify fun t : State => t.setFlag .zf less
      else modify fun t => t.setFlag .zf less) : M Unit).run (s.read16 d) =
      .ok () ((if b = true then s.put16 (s.read16 d) d (adjustRpl (s.val16 d) (s.reg16 r)) else s.read16 d).setFlag
        .zf less) := by
    intro b
    cases b with
    | false => rfl
    | true => exact run_bind_ok written
  unfold adjust
  rw [protectedOnly_bind hpe, run_get_bind]
  cases d with
  | reg q => exact rest less
  | mem ea =>
    have read : (readSeg16 (s.eaSeg ea) (s.eaOff ea)).run s = .ok (s.val16 (.mem ea)) (s.read16 (.mem ea)) :=
      (readSeg16_run _ _ s).trans (if_pos (writeOk_readOk hd))
    refine Eq.trans (run_bind_ok ((checkWrite_run _ _ _ s).trans (if_pos hd))) ?_
    refine Eq.trans (run_bind_ok read) ?_
    exact rest less

/-- A flag is set before or after the operand is written. -/
theorem put16_setFlag (s t : State) (d : Rm Reg16) (v : Word) (f : Flag) (b : Bool) :
    (s.put16 t d v).setFlag f b = s.put16 (t.setFlag f b) d v := by cases d <;> rfl

theorem adjust_replaces (r : Reg16) (hl : s.lockOk = true) (hpe : s.pe = true) (hd : s.canWrite 2 d = true)
    (hi : exec i s = runInstr (adjust d r) s) : s.Replaces16 d i := by
  let less := (selRpl (s.val16 d)).ult (selRpl (s.reg16 r))
  refine ⟨_, exec_completes hi hl (adjust_run r hpe hd), (s.read16 d).setFlag .zf less,
    .inr ((State.StatusOnly.refl _).setFlag rfl less), ?_⟩
  split
  · exact .inr ⟨_, put16_setFlag s _ d _ _ _⟩
  · exact .inl rfl

end Words

section Bytes

variable {f : Byte → Byte → M Byte} {d : Rm Reg8}

theorem modify8_replaces {g : Byte → M Byte} (hl : s.lockOk = true) (hd : s.canWrite 1 d = true)
    (hg : ∀ a, SetsStatus (g a)) (hi : exec i s = runInstr (modify8 lost d g) s) : s.Replaces8 d i := by
  obtain ⟨v, u, hv, hu⟩ := hg (s.val8 d) (s.read8 d)
  exact ⟨_, exec_completes hi hl (modify8_run lost d g s u v hd hv), u, .inr hu, .inr ⟨v, rfl⟩⟩

theorem ebRb_replaces (hl : s.lockOk = true) (hd : s.canWrite 1 d = true) (hf : ∀ a b, SetsStatus (f a b)) (r : Reg8)
    (hi : exec i s = runInstr (ebRb lost f d r) s) : s.Replaces8 d i := by
  obtain ⟨v, u, hv, hu⟩ := hf (s.val8 d) (s.reg8 r) (s.read8 d)
  exact ⟨_, exec_completes hi hl (ebRb_run hd hv), u, .inr hu, .inr ⟨v, rfl⟩⟩

theorem ebDb_replaces (hl : s.lockOk = true) (hd : s.canWrite 1 d = true) (hf : ∀ a b, SetsStatus (f a b)) (imm : Byte)
    (hi : exec i s = runInstr (ebDb lost f d imm) s) : s.Replaces8 d i :=
  modify8_replaces hl hd (fun a => hf a imm) hi

theorem rbEb_replaces (hl : s.lockOk = true) (hf : ∀ a b, SetsStatus (f a b)) (r p : Reg8)
    (hi : exec i s = runInstr (rbEb f r (.reg p)) s) : s.Replaces8 (.reg r) i := by
  obtain ⟨v, u, hv, hu⟩ := hf (s.reg8 r) (s.reg8 p) s
  exact ⟨_, exec_completes hi hl (rbEb_run (d8 := .reg p) rfl hv), u, .inl hu, .inr ⟨v, rfl⟩⟩

theorem status_replaces8 {m : M Unit} {r : Reg8} (hl : s.lockOk = true) (hm : SetsStatus m)
    (hi : exec i s = runInstr m s) : s.Replaces8 (.reg r) i := by
  obtain ⟨⟨⟩, u, hv, hu⟩ := hm s
  exact ⟨_, exec_completes hi hl hv, u, .inl hu, .inl rfl⟩

theorem shiftCl8_replaces (k : Shift) (hl : s.lockOk = true) (hd : s.canWrite 1 d = true)
    (hi : exec i s = runInstr (shiftCl8 k d) s) : s.Replaces8 d i := by
  obtain ⟨v, u, hv, hu⟩ := SetsStatus.opShift k (s.reg8 .cl) (s.val8 d) (s.read8 d)
  exact ⟨_, exec_completes hi hl ((run_get_bind _ s).trans (modify8_run k.lost d _ s u v hd hv)), u, .inr hu,
    .inr ⟨v, rfl⟩⟩

theorem shift8_replaces (k : Shift) (raw : Byte) (hl : s.lockOk = true) (hd : s.canWrite 1 d = true)
    (hi : exec i s = runInstr (shift8 k d raw) s) : s.Replaces8 d i :=
  modify8_replaces hl hd (SetsStatus.opShift k raw) hi

theorem put8_replaces {body : M Unit} {v : Byte} (hl : s.lockOk = true) (hi : exec i s = runInstr body s)
    (h : body.run s = .ok () (s.put8 s d v)) : s.Replaces8 d i :=
  ⟨_, exec_completes hi hl h, s, .inl (.refl s), .inr ⟨v, rfl⟩⟩

end Bytes

end Rules

end Sys2Proof.Machine
end

section
/-! SUPPORT. The instructions with a word or a byte destination, form by form: each reads its operand at most, changes
status flags at most, and writes its destination at most. -/

namespace Sys2Proof.Machine

section Words

variable (d : Rm Reg16) (r p : Reg16) (q : SegReg) (imm : Word) (imm8 : Byte)

/-- The two-operand instructions with a word destination and a register. -/
def ewRwInstrs : List Instr :=
  [.addEwRw d r, .adcEwRw d r, .subEwRw d r, .sbbEwRw d r, .andEwRw d r, .orEwRw d r, .xorEwRw d r]

/-- The same with an immediate word. -/
def ewDwInstrs : List Instr :=
  [.addEwDw d imm, .adcEwDw d imm, .subEwDw d imm, .sbbEwDw d imm, .andEwDw d imm, .orEwDw d imm, .xorEwDw d imm]

/-- Those that take an immediate byte. -/
def ewDbInstrs : List Instr := [.addEwDb d imm8, .adcEwDb d imm8, .subEwDb d imm8, .sbbEwDb d imm8]

/-- The shifts and rotates of a word. -/
def ewShiftInstrs : List Instr :=
  [.rolEw1 d, .rorEw1 d, .rclEw1 d, .rcrEw1 d, .salEw1 d, .shrEw1 d, .sarEw1 d, .rolEwCl d, .rorEwCl d, .rclEwCl d,
    .rcrEwCl d, .salEwCl d, .shrEwCl d, .sarEwCl d, .rolEwDb d imm8, .rorEwDb d imm8, .rclEwDb d imm8, .rcrEwDb d imm8,
    .salEwDb d imm8, .shrEwDb d imm8, .sarEwDb d imm8]

/-- The two-operand instructions between word registers, by the form whose destination is always a register. -/
def rwRwInstrs : List Instr :=
  [.addRwEw r (.reg p), .adcRwEw r (.reg p), .subRwEw r (.reg p), .sbbRwEw r (.reg p), .andRwEw r (.reg p),
    .orRwEw r (.reg p), .xorRwEw r (.reg p), .cmpRwEw r (.reg p)]

variable {d r p q imm imm8} {s : State} (hl : s.lockOk = true) (hd : s.canWrite 2 d = true)
include hl

theorem rwRwInstrs_replace : ∀ i ∈ rwRwInstrs r p, s.Replaces16 (.reg r) i := by
  simp only [rwRwInstrs, List.forall_mem_cons, List.not_mem_nil, false_implies, implies_true, and_true]
  exact ⟨rwEw_replaces hl SetsStatus.opAdd r p rfl, rwEw_replaces hl SetsStatus.opAdc r p rfl,
    rwEw_replaces hl SetsStatus.opSub r p rfl, rwEw_replaces hl SetsStatus.opSbb r p rfl,
    rwEw_replaces hl SetsStatus.opAnd r p rfl, rwEw_replaces hl SetsStatus.opOr r p rfl,
    rwEw_replaces hl SetsStatus.opXor r p rfl,
    status_replaces16 hl (SetsStatus.cmpRwEw SetsStatus.opCmp r p) rfl⟩

theorem cmpTestRwRw_replace : ∀ i ∈ [Instr.cmpEwRw (.reg r) p, .testEwRw (.reg r) p], s.Replaces16 (.reg r) i := by
  simp only [List.forall_mem_cons, List.not_mem_nil, false_implies, implies_true, and_true]
  exact ⟨status_replaces16 hl (SetsStatus.cmpEwRw SetsStatus.opCmp r p) rfl,
    status_replaces16 hl (SetsStatus.cmpEwRw SetsStatus.opTest r p) rfl⟩

theorem cmpTestRwDw_replace : ∀ i ∈ [Instr.cmpEwDw (.reg r) imm, .testEwDw (.reg r) imm], s.Replaces16 (.reg r) i := by
  simp only [List.forall_mem_cons, List.not_mem_nil, false_implies, implies_true, and_true]
  exact ⟨status_replaces16 hl (SetsStatus.cmpEwDw SetsStatus.opCmp r imm) rfl,
    status_replaces16 hl (SetsStatus.cmpEwDw SetsStatus.opTest r imm) rfl⟩

theorem incDecRw_replace : ∀ i ∈ [Instr.incRw r, .decRw r], s.Replaces16 (.reg r) i := by
  simp only [List.forall_mem_cons, List.not_mem_nil, false_implies, implies_true, and_true]
  exact ⟨modify16_replaces hl rfl SetsStatus.opInc rfl, modify16_replaces hl rfl SetsStatus.opDec rfl⟩

theorem movesRw_replace : ∀ i ∈ [Instr.movRwDw r imm, .movRwEw r (.reg p)], s.Replaces16 (.reg r) i := by
  simp only [List.forall_mem_cons, List.not_mem_nil, false_implies, implies_true, and_true]
  exact ⟨put16_replaces hl rfl (run_modify _ s), put16_replaces hl rfl (movFromRm16_run (d := .reg p) r rfl)⟩

include hd

theorem ewRwInstrs_replace : ∀ i ∈ ewRwInstrs d r, s.Replaces16 d i := by
  simp only [ewRwInstrs, List.forall_mem_cons, List.not_mem_nil, false_implies, implies_true, and_true]
  exact ⟨ewRw_replaces hl hd SetsStatus.opAdd r rfl, ewRw_replaces hl hd SetsStatus.opAdc r rfl,
    ewRw_replaces hl hd SetsStatus.opSub r rfl, ewRw_replaces hl hd SetsStatus.opSbb r rfl,
    ewRw_replaces hl hd SetsStatus.opAnd r rfl, ewRw_replaces hl hd SetsStatus.opOr r rfl,
    ewRw_replaces hl hd SetsStatus.opXor r rfl⟩

theorem ewDwInstrs_replace : ∀ i ∈ ewDwInstrs d imm, s.Replaces16 d i := by
  simp only [ewDwInstrs, List.forall_mem_cons, List.not_mem_nil, false_implies, implies_true, and_true]
  exact ⟨ewDw_replaces hl hd SetsStatus.opAdd imm rfl, ewDw_replaces hl hd SetsStatus.opAdc imm rfl,
    ewDw_replaces hl hd SetsStatus.opSub imm rfl, ewDw_replaces hl hd SetsStatus.opSbb imm rfl,
    ewDw_replaces hl hd SetsStatus.opAnd imm rfl, ewDw_replaces hl hd SetsStatus.opOr imm rfl,
    ewDw_replaces hl hd SetsStatus.opXor imm rfl⟩

theorem ewDbInstrs_replace : ∀ i ∈ ewDbInstrs d imm8, s.Replaces16 d i := by
  simp only [ewDbInstrs, List.forall_mem_cons, List.not_mem_nil, false_implies, implies_true, and_true]
  exact ⟨ewDw_replaces hl hd SetsStatus.opAdd (imm8.signExtend 16) rfl,
    ewDw_replaces hl hd SetsStatus.opAdc (imm8.signExtend 16) rfl,
    ewDw_replaces hl hd SetsStatus.opSub (imm8.signExtend 16) rfl,
    ewDw_replaces hl hd SetsStatus.opSbb (imm8.signExtend 16) rfl⟩

theorem ewShiftInstrs_replace : ∀ i ∈ ewShiftInstrs d imm8, s.Replaces16 d i := by
  simp only [ewShiftInstrs, List.forall_mem_cons, List.not_mem_nil, false_implies, implies_true, and_true]
  exact ⟨shift16_replaces .rol 1 hl hd rfl, shift16_replaces .ror 1 hl hd rfl, shift16_replaces .rcl 1 hl hd rfl,
    shift16_replaces .rcr 1 hl hd rfl, shift16_replaces .sal 1 hl hd rfl, shift16_replaces .shr 1 hl hd rfl,
    shift16_replaces .sar 1 hl hd rfl, shiftCl16_replaces .rol hl hd rfl, shiftCl16_replaces .ror hl hd rfl,
    shiftCl16_replaces .rcl hl hd rfl, shiftCl16_replaces .rcr hl hd rfl, shiftCl16_replaces .sal hl hd rfl,
    shiftCl16_replaces .shr hl hd rfl, shiftCl16_replaces .sar hl hd rfl, shift16_replaces .rol imm8 hl hd rfl,
    shift16_replaces .ror imm8 hl hd rfl, shift16_replaces .rcl imm8 hl hd rfl, shift16_replaces .rcr imm8 hl hd rfl,
    shift16_replaces .sal imm8 hl hd rfl, shift16_replaces .shr imm8 hl hd rfl, shift16_replaces .sar imm8 hl hd rfl⟩

theorem incDecEw_replace : ∀ i ∈ [Instr.incEw d, .decEw d], s.Replaces16 d i := by
  simp only [List.forall_mem_cons, List.not_mem_nil, false_implies, implies_true, and_true]
  exact ⟨modify16_replaces hl hd SetsStatus.opInc rfl, modify16_replaces hl hd SetsStatus.opDec rfl⟩

theorem negNotEw_replace : ∀ i ∈ [Instr.negEw d, .notEw d], s.Replaces16 d i := by
  simp only [List.forall_mem_cons, List.not_mem_nil, false_implies, implies_true, and_true]
  exact ⟨modify16_replaces hl hd SetsStatus.opNeg rfl, modify16_replaces hl hd SetsStatus.opNot rfl⟩

theorem storesEw_replace : ∀ i ∈ [Instr.movEwSreg d q, .smswEw d], s.Replaces16 d i := by
  simp only [List.forall_mem_cons, List.not_mem_nil, false_implies, implies_true, and_true]
  exact ⟨put16_replaces hl rfl (storeSeg_run q hd), put16_replaces hl rfl (storeMsw_run hd)⟩

theorem movesEw_replace : ∀ i ∈ [Instr.movEwRw d r, .movEwDw d imm], s.Replaces16 d i := by
  simp only [List.forall_mem_cons, List.not_mem_nil, false_implies, implies_true, and_true]
  exact ⟨put16_replaces hl rfl (movToRm16_run r hd), put16_replaces hl rfl (wr16_run d imm s hd)⟩

/-- SLDT, STR and ARPL, in Protected Mode. -/
theorem protectedEw_replace (hpe : s.pe = true) :
    ∀ i ∈ [Instr.sldtEw d, .strEw d, .arplEwRw d r], s.Replaces16 d i := by
  simp only [List.forall_mem_cons, List.not_mem_nil, false_implies, implies_true, and_true]
  exact ⟨put16_replaces hl rfl (storeLocalTable_run hpe hd), put16_replaces hl rfl (storeTask_run hpe hd),
    adjust_replaces r hl hpe hd rfl⟩

/-- The instructions with a word destination. -/
noncomputable def ewInstrs (d : Rm Reg16) (r : Reg16) (q : SegReg) (imm : Word) (imm8 : Byte) : List Instr :=
  ewRwInstrs d r ++ (ewDwInstrs d imm ++ (ewDbInstrs d imm8 ++ ([Instr.incEw d, .decEw d] ++ ([Instr.negEw d, .notEw d] ++
    (ewShiftInstrs d imm8 ++ ([Instr.movEwRw d r, .movEwDw d imm] ++ [Instr.movEwSreg d q, .smswEw d]))))))

theorem ewInstrs_replace : ∀ i ∈ ewInstrs d r q imm imm8, s.Replaces16 d i := by
  simp only [ewInstrs, List.forall_mem_append]
  exact ⟨ewRwInstrs_replace hl hd, ewDwInstrs_replace hl hd, ewDbInstrs_replace hl hd, incDecEw_replace hl hd,
    negNotEw_replace hl hd, ewShiftInstrs_replace hl hd, movesEw_replace hl hd, storesEw_replace hl hd⟩

/-- The instructions with a word register as destination and no operand in memory. -/
noncomputable def rwInstrs (r p : Reg16) (q : SegReg) (imm : Word) (imm8 : Byte) : List Instr :=
  rwRwInstrs r p ++ (ewRwInstrs (.reg r) p ++ ([Instr.cmpEwRw (.reg r) p, .testEwRw (.reg r) p] ++
    (ewDwInstrs (.reg r) imm ++ ([Instr.cmpEwDw (.reg r) imm, .testEwDw (.reg r) imm] ++ ([Instr.incRw r, .decRw r] ++
    ([Instr.negEw (.reg r), .notEw (.reg r)] ++ (ewShiftInstrs (.reg r) imm8 ++
    ([Instr.movRwDw r imm, .movRwEw r (.reg p)] ++
    [Instr.movEwSreg (.reg r) q, .smswEw (.reg r)]))))))))

omit hd in
theorem rwInstrs_replace : ∀ i ∈ rwInstrs r p q imm imm8, s.Replaces16 (.reg r) i := by
  simp only [rwInstrs, List.forall_mem_append]
  exact ⟨rwRwInstrs_replace hl, ewRwInstrs_replace hl rfl, cmpTestRwRw_replace hl, ewDwInstrs_replace hl rfl,
    cmpTestRwDw_replace hl, incDecRw_replace hl, negNotEw_replace hl rfl, ewShiftInstrs_replace hl rfl,
    movesRw_replace hl, storesEw_replace hl rfl⟩

end Words

section Bytes

variable (d : Rm Reg8) (r p : Reg8) (imm : Byte)

/-- The two-operand instructions with a byte destination and a register. -/
def ebRbInstrs : List Instr :=
  [.addEbRb d r, .adcEbRb d r, .subEbRb d r, .sbbEbRb d r, .andEbRb d r, .orEbRb d r, .xorEbRb d r]

/-- The same with an immediate byte. -/
def ebDbInstrs : List Instr :=
  [.addEbDb d imm, .adcEbDb d imm, .subEbDb d imm, .sbbEbDb d imm, .andEbDb d imm, .orEbDb d imm, .xorEbDb d imm]

/-- The shifts and rotates of a byte. -/
def ebShiftInstrs : List Instr :=
  [.rolEb1 d, .rorEb1 d, .rclEb1 d, .rcrEb1 d, .salEb1 d, .shrEb1 d, .sarEb1 d, .rolEbCl d, .rorEbCl d, .rclEbCl d,
    .rcrEbCl d, .salEbCl d, .shrEbCl d, .sarEbCl d, .rolEbDb d imm, .rorEbDb d imm, .rclEbDb d imm, .rcrEbDb d imm,
    .salEbDb d imm, .shrEbDb d imm, .sarEbDb d imm]

/-- The two-operand instructions between byte registers, by the form whose destination is always a register. -/
def rbRbInstrs : List Instr :=
  [.addRbEb r (.reg p), .adcRbEb r (.reg p), .subRbEb r (.reg p), .sbbRbEb r (.reg p), .andRbEb r (.reg p),
    .orRbEb r (.reg p), .xorRbEb r (.reg p), .cmpRbEb r (.reg p)]

variable {d r p imm} {s : State} (hl : s.lockOk = true) (hd : s.canWrite 1 d = true)
include hl

theorem rbRbInstrs_replace : ∀ i ∈ rbRbInstrs r p, s.Replaces8 (.reg r) i := by
  simp only [rbRbInstrs, List.forall_mem_cons, List.not_mem_nil, false_implies, implies_true, and_true]
  exact ⟨rbEb_replaces hl SetsStatus.opAdd r p rfl, rbEb_replaces hl SetsStatus.opAdc r p rfl,
    rbEb_replaces hl SetsStatus.opSub r p rfl, rbEb_replaces hl SetsStatus.opSbb r p rfl,
    rbEb_replaces hl SetsStatus.opAnd r p rfl, rbEb_replaces hl SetsStatus.opOr r p rfl,
    rbEb_replaces hl SetsStatus.opXor r p rfl, status_replaces8 hl (SetsStatus.cmpRbEb SetsStatus.opCmp r p) rfl⟩

theorem cmpTestRbDb_replace : ∀ i ∈ [Instr.cmpEbDb (.reg r) imm, .testEbDb (.reg r) imm], s.Replaces8 (.reg r) i := by
  simp only [List.forall_mem_cons, List.not_mem_nil, false_implies, implies_true, and_true]
  exact ⟨status_replaces8 hl (SetsStatus.cmpEbDb SetsStatus.opCmp r imm) rfl,
    status_replaces8 hl (SetsStatus.cmpEbDb SetsStatus.opTest r imm) rfl⟩

theorem movesRb_replace : ∀ i ∈ [Instr.movRbDb r imm, .movRbEb r (.reg p)], s.Replaces8 (.reg r) i := by
  simp only [List.forall_mem_cons, List.not_mem_nil, false_implies, implies_true, and_true]
  exact ⟨put8_replaces hl rfl (run_modify _ s), put8_replaces hl rfl (movFromRm8_run (d := .reg p) r rfl)⟩

include hd

theorem ebRbInstrs_replace : ∀ i ∈ ebRbInstrs d r, s.Replaces8 d i := by
  simp only [ebRbInstrs, List.forall_mem_cons, List.not_mem_nil, false_implies, implies_true, and_true]
  exact ⟨ebRb_replaces hl hd SetsStatus.opAdd r rfl, ebRb_replaces hl hd SetsStatus.opAdc r rfl,
    ebRb_replaces hl hd SetsStatus.opSub r rfl, ebRb_replaces hl hd SetsStatus.opSbb r rfl,
    ebRb_replaces hl hd SetsStatus.opAnd r rfl, ebRb_replaces hl hd SetsStatus.opOr r rfl,
    ebRb_replaces hl hd SetsStatus.opXor r rfl⟩

theorem ebDbInstrs_replace : ∀ i ∈ ebDbInstrs d imm, s.Replaces8 d i := by
  simp only [ebDbInstrs, List.forall_mem_cons, List.not_mem_nil, false_implies, implies_true, and_true]
  exact ⟨ebDb_replaces hl hd SetsStatus.opAdd imm rfl, ebDb_replaces hl hd SetsStatus.opAdc imm rfl,
    ebDb_replaces hl hd SetsStatus.opSub imm rfl, ebDb_replaces hl hd SetsStatus.opSbb imm rfl,
    ebDb_replaces hl hd SetsStatus.opAnd imm rfl, ebDb_replaces hl hd SetsStatus.opOr imm rfl,
    ebDb_replaces hl hd SetsStatus.opXor imm rfl⟩

theorem ebShiftInstrs_replace : ∀ i ∈ ebShiftInstrs d imm, s.Replaces8 d i := by
  simp only [ebShiftInstrs, List.forall_mem_cons, List.not_mem_nil, false_implies, implies_true, and_true]
  exact ⟨shift8_replaces .rol 1 hl hd rfl, shift8_replaces .ror 1 hl hd rfl, shift8_replaces .rcl 1 hl hd rfl,
    shift8_replaces .rcr 1 hl hd rfl, shift8_replaces .sal 1 hl hd rfl, shift8_replaces .shr 1 hl hd rfl,
    shift8_replaces .sar 1 hl hd rfl, shiftCl8_replaces .rol hl hd rfl, shiftCl8_replaces .ror hl hd rfl,
    shiftCl8_replaces .rcl hl hd rfl, shiftCl8_replaces .rcr hl hd rfl, shiftCl8_replaces .sal hl hd rfl,
    shiftCl8_replaces .shr hl hd rfl, shiftCl8_replaces .sar hl hd rfl, shift8_replaces .rol imm hl hd rfl,
    shift8_replaces .ror imm hl hd rfl, shift8_replaces .rcl imm hl hd rfl, shift8_replaces .rcr imm hl hd rfl,
    shift8_replaces .sal imm hl hd rfl, shift8_replaces .shr imm hl hd rfl, shift8_replaces .sar imm hl hd rfl⟩

theorem unaryEb_replace : ∀ i ∈ [Instr.incEb d, .decEb d, .negEb d, .notEb d], s.Replaces8 d i := by
  simp only [List.forall_mem_cons, List.not_mem_nil, false_implies, implies_true, and_true]
  exact ⟨modify8_replaces hl hd SetsStatus.opInc rfl, modify8_replaces hl hd SetsStatus.opDec rfl,
    modify8_replaces hl hd SetsStatus.opNeg rfl, modify8_replaces hl hd SetsStatus.opNot rfl⟩

theorem movesEb_replace : ∀ i ∈ [Instr.movEbRb d r, .movEbDb d imm], s.Replaces8 d i := by
  simp only [List.forall_mem_cons, List.not_mem_nil, false_implies, implies_true, and_true]
  exact ⟨put8_replaces hl rfl (movToRm8_run r hd), put8_replaces hl rfl (wr8_run d imm s hd)⟩

/-- The instructions with a byte destination. -/
noncomputable def ebInstrs (d : Rm Reg8) (r : Reg8) (imm : Byte) : List Instr :=
  ebRbInstrs d r ++ (ebDbInstrs d imm ++ ([Instr.incEb d, .decEb d, .negEb d, .notEb d] ++ (ebShiftInstrs d imm ++
    [Instr.movEbRb d r, .movEbDb d imm])))

theorem ebInstrs_replace : ∀ i ∈ ebInstrs d r imm, s.Replaces8 d i := by
  simp only [ebInstrs, List.forall_mem_append]
  exact ⟨ebRbInstrs_replace hl hd, ebDbInstrs_replace hl hd, unaryEb_replace hl hd, ebShiftInstrs_replace hl hd,
    movesEb_replace hl hd⟩

/-- The instructions with a byte register as destination and no operand in memory. -/
noncomputable def rbInstrs (r p : Reg8) (imm : Byte) : List Instr :=
  rbRbInstrs r p ++ (ebDbInstrs (.reg r) imm ++ ([Instr.cmpEbDb (.reg r) imm, .testEbDb (.reg r) imm] ++
    ([Instr.incEb (.reg r), .decEb (.reg r), .negEb (.reg r), .notEb (.reg r)] ++ (ebShiftInstrs (.reg r) imm ++
    [Instr.movRbDb r imm, .movRbEb r (.reg p)]))))

omit hd in
theorem rbInstrs_replace : ∀ i ∈ rbInstrs r p imm, s.Replaces8 (.reg r) i := by
  simp only [rbInstrs, List.forall_mem_append]
  exact ⟨rbRbInstrs_replace hl, ebDbInstrs_replace hl rfl, cmpTestRbDb_replace hl, unaryEb_replace hl rfl,
    ebShiftInstrs_replace hl rfl, movesRb_replace hl⟩

end Bytes

end Sys2Proof.Machine
end

section
/-! SUPPORT. What is unchanged once a destination in memory or a register has been replaced. -/

namespace Sys2Proof.Machine

/-! ### Frames -/

/-- Nothing of the 80287 has changed, nor IP, MSW, a segment register or a flag but the status flags. -/
def State.RestKept (s t : State) : Prop :=
  t.npx = s.npx ∧ t.ip = s.ip ∧ t.msw = s.msw ∧ (∀ q, t.seg q = s.seg q) ∧
    t.flags.word &&& 0xF72A = s.flags.word &&& 0xF72A

/-- No byte has changed but `n` bytes from an operand's address, and devices have seen nothing if memory stands there. -/
def State.BytesKept (s t : State) (ea : Ea) (n : Nat) : Prop :=
  let dest := fun k : Nat => (s.seg (s.eaSeg ea)).lin (s.eaOff ea) + BitVec.ofNat 24 k
  let inMemory := ∀ k < n, s.outside (dest k) = false
  (∀ x : PhysAddr, (∀ k < n, x ≠ dest k) → s.outside x = false ∨ inMemory → t.mem8 x = s.mem8 x) ∧
    (inMemory → t.io = s.io)

/-- Nothing has been read from the bus or stored. -/
def State.NoByte (s t : State) : Prop := t.mem = s.mem ∧ t.io = s.io ∧ t.bus = s.bus ∧ ∀ x, t.mem8 x = s.mem8 x

theorem State.StatusOnly.restKept {s t : State} (h : s.StatusOnly t) : s.RestKept t := by
  obtain ⟨f, n, rfl, hf⟩ := h
  exact ⟨rfl, rfl, rfl, fun q => by cases q <;> rfl, hf⟩

section

variable {s t u : State}

theorem State.RestKept.trans (h : s.RestKept t) (h' : t.RestKept u) : s.RestKept u := by
  obtain ⟨hnpx, hip, hmsw, hseg, hflags⟩ := h
  obtain ⟨hnpx', hip', hmsw', hseg', hflags'⟩ := h'
  exact ⟨hnpx'.trans hnpx, hip'.trans hip, hmsw'.trans hmsw, fun q => (hseg' q).trans (hseg q), hflags'.trans hflags⟩

theorem State.RestKept.setMem8 (h : s.RestKept t) (a : PhysAddr) (v : Byte) : s.RestKept (t.setMem8 a v) := by
  obtain ⟨hnpx, hip, hmsw, hseg, hflags⟩ := h
  exact ⟨hnpx, hip, hmsw, fun q => (setMem8_seg t a v q).trans (hseg q), hflags⟩

theorem State.RestKept.setMem16 (h : s.RestKept t) (a : PhysAddr) (v : Word) : s.RestKept (t.setMem16 a v) := by
  obtain ⟨hnpx, hip, hmsw, hseg, hflags⟩ := h
  exact ⟨(setMem16_npx t a v).trans hnpx, (setMem16_ip t a v).trans hip, (setMem16_msw t a v).trans hmsw,
    fun q => (setMem16_seg t a v q).trans (hseg q), hflags⟩

theorem State.RestKept.setReg16 (h : s.RestKept t) (r : Reg16) (v : Word) : s.RestKept (t.setReg16 r v) := by
  obtain ⟨hnpx, hip, hmsw, hseg, hflags⟩ := h
  exact ⟨hnpx, hip, hmsw, fun q => (setReg16_seg t r v q).trans (hseg q), hflags⟩

theorem State.RestKept.setReg8 (h : s.RestKept t) (r : Reg8) (v : Byte) : s.RestKept (t.setReg8 r v) :=
  h.setReg16 _ _

end

theorem State.StatusOnly.noByte {s t : State} (h : s.StatusOnly t) : s.NoByte t := by
  obtain ⟨f, n, rfl, -⟩ := h
  exact ⟨rfl, rfl, rfl, fun _ => rfl⟩

theorem State.StatusOnly.gpr {s t : State} (h : s.StatusOnly t) : t.gpr = s.gpr := by
  obtain ⟨f, n, rfl, -⟩ := h
  rfl

theorem reg16_congr {s t : State} (h : t.gpr = s.gpr) (r : Reg16) : t.reg16 r = s.reg16 r := by
  unfold State.reg16
  rw [h]

theorem reg8_congr {s t : State} (h : t.gpr = s.gpr) (r : Reg8) : t.reg8 r = s.reg8 r := by
  unfold State.reg8
  rw [reg16_congr h]

/-! ### A destination in memory -/

/-- What is known of the state between the read of an operand and the write: no byte of memory differs, the bus has no more
than the read, and where `inside` holds not even that. -/
structure State.HasRead (s u : State) (inside : Prop) : Prop where
  mem : u.mem = s.mem
  map : u.memMap = s.memMap
  clock : u.clock = s.clock
  io : inside → u.io = s.io
  gpr : u.gpr = s.gpr
  rest : s.RestKept u

theorem State.HasRead.statusOnly {s t u : State} {inside : Prop} (h : s.HasRead t inside) (hu : t.StatusOnly u) :
    s.HasRead u inside := by
  have rest := h.rest.trans hu.restKept
  obtain ⟨f, n, rfl, -⟩ := hu
  exact ⟨h.mem, h.map, h.clock, h.io, h.gpr, rest⟩

theorem State.HasRead.refl (s : State) (inside : Prop) : s.HasRead s inside :=
  ⟨rfl, rfl, rfl, fun _ => rfl, rfl, (State.StatusOnly.refl s).restKept⟩

theorem hasRead_read8 (s : State) (ea : Ea) :
    s.HasRead (s.read8 (.mem ea)) (s.outside ((s.seg (s.eaSeg ea)).lin (s.eaOff ea)) = false) :=
  ⟨rfl, rfl, rfl, fun h => congrArg State.io (after8_inside h), rfl, rfl, rfl, rfl, after8_seg s _, rfl⟩

theorem hasRead_read16 (s : State) (ea : Ea) :
    s.HasRead (s.read16 (.mem ea)) (s.outside ((s.seg (s.eaSeg ea)).lin (s.eaOff ea)) = false ∧
      s.outside ((s.seg (s.eaSeg ea)).lin (s.eaOff ea) + 1) = false) :=
  ⟨rfl, rfl, rfl, fun h => congrArg State.io (after16_inside h.1 h.2), rfl, rfl, rfl, rfl, after16_seg s _, rfl⟩

/-- Every byte reads as before, where memory stands at it or nothing was seen of the read. -/
theorem State.HasRead.mem8 {s u : State} {inside : Prop} (h : s.HasRead u inside) {x : PhysAddr}
    (hx : s.outside x = false ∨ inside) : u.mem8 x = s.mem8 x := by
  have same : u.outside x = s.outside x := outside_congr h.map x
  rcases hx with hx | hx
  · rw [mem8_inside hx, mem8_inside (same.trans hx), h.mem]
  · rw [mem8_eq_byteOr x (h.io hx) h.clock]
    unfold State.mem8 State.byteOr
    rw [same, h.mem]

theorem State.Replaced16.memFrame {s t : State} {ea : Ea} (hm : Memory.wf s.mem = true) (h : s.Replaced16 (.mem ea) t) :
    s.BytesKept t ea 2 ∧ t.gpr = s.gpr ∧ s.RestKept t := by
  obtain ⟨u, hu, ht⟩ := h
  let a := (s.seg (s.eaSeg ea)).lin (s.eaOff ea)
  have read : s.HasRead u (s.outside a = false ∧ s.outside (a + 1) = false) :=
    hu.elim (State.HasRead.refl s _).statusOnly (hasRead_read16 s ea).statusOnly
  have inside : (∀ k < 2, s.outside (a + BitVec.ofNat 24 k) = false) →
      s.outside a = false ∧ s.outside (a + 1) = false := fun hin => by
    have first := hin 0 (by decide)
    rw [BitVec.add_zero] at first
    exact ⟨first, hin 1 (by decide)⟩
  rcases ht with rfl | ⟨v, rfl⟩
  · exact ⟨⟨fun x _ hx => read.mem8 (hx.imp_right inside), fun hin => read.io (inside hin)⟩, read.gpr, read.rest⟩
  · have same : ∀ x, u.outside x = s.outside x := outside_congr read.map
    refine ⟨⟨fun x hne hx => ?_, fun hin => ?_⟩, read.gpr, read.rest.setMem16 a v⟩
    · have hx0 : x ≠ a + 0#24 := hne 0 (by decide)
      rw [BitVec.add_zero] at hx0
      have stored : (u.setMem16 a v).mem8 x = u.mem8 x :=
        setMem16_mem8_ne v (read.mem ▸ hm) hx0 (hne 1 (by decide)) (by rw [same, same, same]; exact hx.imp_right inside)
      exact stored.trans (read.mem8 (hx.imp_right inside))
    · obtain ⟨h0, h1⟩ := inside hin
      have quiet : u.wordCycles a v = [] := wordCycles_inside v ((same a).trans h0) ((same _).trans h1)
      show u.wordCycles a v ++ u.io = s.io
      rw [quiet, List.nil_append, read.io ⟨h0, h1⟩]

theorem State.Replaced8.memFrame {s t : State} {ea : Ea} (hm : Memory.wf s.mem = true) (h : s.Replaced8 (.mem ea) t) :
    s.BytesKept t ea 1 ∧ t.gpr = s.gpr ∧ s.RestKept t := by
  obtain ⟨u, hu, ht⟩ := h
  let a := (s.seg (s.eaSeg ea)).lin (s.eaOff ea)
  have read : s.HasRead u (s.outside a = false) :=
    hu.elim (State.HasRead.refl s _).statusOnly (hasRead_read8 s ea).statusOnly
  have inside : (∀ k < 1, s.outside (a + BitVec.ofNat 24 k) = false) → s.outside a = false := fun hin => by
    have first := hin 0 (by decide)
    rwa [BitVec.add_zero] at first
  rcases ht with rfl | ⟨v, rfl⟩
  · exact ⟨⟨fun x _ hx => read.mem8 (hx.imp_right inside), fun hin => read.io (inside hin)⟩, read.gpr, read.rest⟩
  · have same : ∀ x, u.outside x = s.outside x := outside_congr read.map
    refine ⟨⟨fun x hne hx => ?_, fun hin => ?_⟩, read.gpr, read.rest.setMem8 a v⟩
    · have hx0 : x ≠ a + 0#24 := hne 0 (by decide)
      rw [BitVec.add_zero] at hx0
      have stored : (u.setMem8 a v).mem8 x = u.mem8 x :=
        setMem8_mem8_ne v (read.mem ▸ hm) hx0 (by rw [same, same]; exact hx.imp_right inside)
      exact stored.trans (read.mem8 (hx.imp_right inside))
    · have quiet : u.byteCycle a v = [] := byteCycle_inside v ((same a).trans (inside hin))
      show u.byteCycle a v ++ u.io = s.io
      rw [quiet, List.nil_append, read.io (inside hin)]

/-! ### A destination in a register -/

/-- A byte register is one half of its word register. -/
theorem reg8Home_inj {r x : Reg8} (h : reg8Home x = reg8Home r) : x = r := by
  revert h
  cases r <;> cases x <;> decide

theorem reg8Home_data (r : Reg8) : (reg8Home r).1 ∈ [Reg16.ax, .cx, .dx, .bx] := by cases r <;> decide

theorem setReg8_reg8_ne (s : State) {r x : Reg8} (v : Byte) (h : x ≠ r) : (s.setReg8 r v).reg8 x = s.reg8 x := by
  unfold State.reg8 State.setReg8
  rw [setReg16_reg16]
  by_cases home : (reg8Home x).1 = (reg8Home r).1
  · have half : (reg8Home x).2 ≠ (reg8Home r).2 := fun e => h (reg8Home_inj (Prod.ext home e))
    rw [home, if_pos rfl]
    cases hx : (reg8Home x).2 <;> cases hr : (reg8Home r).2 <;> simp_all
  · rw [if_neg home]

/-- SP, BP, SI and DI have no byte registers. -/
theorem setReg8_reg16_index (s : State) (r : Reg8) (v : Byte) :
    ∀ x ∈ [Reg16.sp, .bp, .si, .di], (s.setReg8 r v).reg16 x = s.reg16 x := by
  intro x hx
  have disjoint : ∀ y ∈ [Reg16.ax, .cx, .dx, .bx], ∀ x ∈ [Reg16.sp, .bp, .si, .di], x ≠ y := by decide
  unfold State.setReg8
  rw [setReg16_reg16, if_neg (disjoint _ (reg8Home_data r) x hx)]

theorem State.Replaced16.regFrame {s t : State} {r : Reg16} (h : s.Replaced16 (.reg r) t) :
    s.NoByte t ∧ (∀ x, x ≠ r → t.reg16 x = s.reg16 x) ∧ s.RestKept t := by
  obtain ⟨u, hu, ht⟩ := h
  have hu : s.StatusOnly u := hu.elim id id
  rcases ht with rfl | ⟨v, rfl⟩
  · exact ⟨hu.noByte, fun x _ => reg16_congr hu.gpr x, hu.restKept⟩
  · refine ⟨hu.noByte, fun x hx => ?_, hu.restKept.setReg16 r v⟩
    exact ((setReg16_reg16 u r x v).trans (if_neg hx)).trans (reg16_congr hu.gpr x)

theorem State.Replaced8.regFrame {s t : State} {r : Reg8} (h : s.Replaced8 (.reg r) t) :
    s.NoByte t ∧ (∀ x, x ≠ r → t.reg8 x = s.reg8 x) ∧ (∀ x ∈ [Reg16.sp, .bp, .si, .di], t.reg16 x = s.reg16 x) ∧
      s.RestKept t := by
  obtain ⟨u, hu, ht⟩ := h
  have hu : s.StatusOnly u := hu.elim id id
  rcases ht with rfl | ⟨v, rfl⟩
  · exact ⟨hu.noByte, fun x _ => reg8_congr hu.gpr x, fun x _ => reg16_congr hu.gpr x, hu.restKept⟩
  · exact ⟨hu.noByte, fun x hx => (setReg8_reg8_ne u v hx).trans (reg8_congr hu.gpr x),
      fun x hx => (setReg8_reg16_index u r v x hx).trans (reg16_congr hu.gpr x), hu.restKept.setReg8 r v⟩

/-! ### From the instruction to the frame -/

section Frames

variable {s t : State} {i : Instr}

/-- The one state that an instruction answers. -/
theorem next_unique {u : State} (he : exec i s = .next t) (hu : exec i s = .next u) : t = u :=
  Host.Outcome.next.inj (he.symm.trans hu)

theorem State.Replaces16.memFrame {ea : Ea} (h : s.Replaces16 (.mem ea) i) (hm : Memory.wf s.mem = true)
    (he : exec i s = .next t) : s.BytesKept t ea 2 ∧ t.gpr = s.gpr ∧ s.RestKept t := by
  obtain ⟨u, hu, hr⟩ := h
  have frame := hr.memFrame hm
  obtain rfl := next_unique he hu
  exact frame

theorem State.Replaces8.memFrame {ea : Ea} (h : s.Replaces8 (.mem ea) i) (hm : Memory.wf s.mem = true)
    (he : exec i s = .next t) : s.BytesKept t ea 1 ∧ t.gpr = s.gpr ∧ s.RestKept t := by
  obtain ⟨u, hu, hr⟩ := h
  have frame := hr.memFrame hm
  obtain rfl := next_unique he hu
  exact frame

theorem State.Replaces16.regFrame {r : Reg16} (h : s.Replaces16 (.reg r) i) (he : exec i s = .next t) :
    s.NoByte t ∧ (∀ x, x ≠ r → t.reg16 x = s.reg16 x) ∧ s.RestKept t := by
  obtain ⟨u, hu, hr⟩ := h
  have frame := hr.regFrame
  obtain rfl := next_unique he hu
  exact frame

theorem State.Replaces8.regFrame {r : Reg8} (h : s.Replaces8 (.reg r) i) (he : exec i s = .next t) :
    s.NoByte t ∧ (∀ x, x ≠ r → t.reg8 x = s.reg8 x) ∧ (∀ x ∈ [Reg16.sp, .bp, .si, .di], t.reg16 x = s.reg16 x) ∧
      s.RestKept t := by
  obtain ⟨u, hu, hr⟩ := h
  have frame := hr.regFrame
  obtain rfl := next_unique he hu
  exact frame

/-! XCHG writes its register too, before or after its operand in memory. -/

theorem put16_mem_setReg16 (s t : State) (ea : Ea) (v w : Word) (r : Reg16) :
    (s.put16 (t.setReg16 r w) (.mem ea) v).done = ((s.put16 t (.mem ea) v).setReg16 r w).done := rfl
theorem put8_mem_setReg8 (s t : State) (ea : Ea) (v w : Byte) (r : Reg8) :
    (s.put8 (t.setReg8 r w) (.mem ea) v).done = ((s.put8 t (.mem ea) v).setReg8 r w).done := rfl

theorem exchange16_memFrame {ea : Ea} {r : Reg16} (hl : s.lockOk = true) (hm : Memory.wf s.mem = true)
    (hd : s.writeOk (s.eaSeg ea) (s.eaOff ea) 2 = true) (he : exec (.xchgEwRw (.mem ea) r) s = .next t) :
    s.BytesKept t ea 2 ∧ (∀ x, x ≠ r → t.reg16 x = s.reg16 x) ∧ s.RestKept t := by
  obtain rfl := next_unique he (exec_completes rfl hl (exchange16_run (d := .mem ea) r hd))
  rw [put16_mem_setReg16]
  have replaced : s.Replaced16 (.mem ea) (s.put16 (s.read16 (.mem ea)) (.mem ea) (s.reg16 r)) :=
    ⟨_, .inr (.refl _), .inr ⟨_, rfl⟩⟩
  obtain ⟨bytes, gpr, rest⟩ := replaced.memFrame hm
  exact ⟨bytes, fun x hx => ((setReg16_reg16 _ r x _).trans (if_neg hx)).trans (reg16_congr gpr x),
    rest.setReg16 r (s.val16 (.mem ea))⟩

theorem exchange8_memFrame {ea : Ea} {r : Reg8} (hl : s.lockOk = true) (hm : Memory.wf s.mem = true)
    (hd : s.writeOk (s.eaSeg ea) (s.eaOff ea) 1 = true) (he : exec (.xchgEbRb (.mem ea) r) s = .next t) :
    s.BytesKept t ea 1 ∧ (∀ x, x ≠ r → t.reg8 x = s.reg8 x) ∧
      (∀ x ∈ [Reg16.sp, .bp, .si, .di], t.reg16 x = s.reg16 x) ∧ s.RestKept t := by
  obtain rfl := next_unique he (exec_completes rfl hl (exchange8_run (d := .mem ea) r hd))
  rw [put8_mem_setReg8]
  have replaced : s.Replaced8 (.mem ea) (s.put8 (s.read8 (.mem ea)) (.mem ea) (s.reg8 r)) :=
    ⟨_, .inr (.refl _), .inr ⟨_, rfl⟩⟩
  obtain ⟨bytes, gpr, rest⟩ := replaced.memFrame hm
  exact ⟨bytes, fun x hx => (setReg8_reg8_ne _ _ hx).trans (reg8_congr gpr x),
    fun x hx => (setReg8_reg16_index _ r _ x hx).trans (reg16_congr gpr x), rest.setReg8 r (s.val8 (.mem ea))⟩

/-- Two word registers written. -/
theorem setReg16_twice_frame (s : State) (r p : Reg16) (v w : Word) :
    let t := (s.setReg16 p v).setReg16 r w
    s.NoByte t ∧ (∀ x, x ≠ r → x ≠ p → t.reg16 x = s.reg16 x) ∧ s.RestKept t := by
  refine ⟨⟨rfl, rfl, rfl, fun _ => rfl⟩, fun x hr hp => ?_,
    ((State.StatusOnly.refl s).restKept.setReg16 p v).setReg16 r w⟩
  rw [setReg16_reg16, if_neg hr, setReg16_reg16, if_neg hp]

/-- Two byte registers written. -/
theorem setReg8_twice_frame (s : State) (r p : Reg8) (v w : Byte) :
    let t := (s.setReg8 p v).setReg8 r w
    s.NoByte t ∧ (∀ x, x ≠ r → x ≠ p → t.reg8 x = s.reg8 x) ∧
      (∀ x ∈ [Reg16.sp, .bp, .si, .di], t.reg16 x = s.reg16 x) ∧ s.RestKept t := by
  refine ⟨⟨rfl, rfl, rfl, fun _ => rfl⟩, fun x hr hp => ?_, fun x hx => ?_,
    ((State.StatusOnly.refl s).restKept.setReg8 p v).setReg8 r w⟩
  · rw [setReg8_reg8_ne _ _ hr, setReg8_reg8_ne _ _ hp]
  · rw [setReg8_reg16_index _ _ _ x hx, setReg8_reg16_index _ _ _ x hx]

end Frames

end Sys2Proof.Machine

open Sys2Proof Sys2Proof.Machine

/-- Settles O31. The lists are put together of the forms that the instructions have, each with the frame of a replaced
operand; XCHG alone writes a second register. -/
theorem frames : Obligations.Frames := by
  intro s t r p r8 p8 q imm imm8 hl hm rest bytesAt noByte
  refine ⟨fun ea hd => ⟨?_, ?_, exchange16_memFrame hl hm hd⟩, fun ea hd => ⟨?_, exchange8_memFrame hl hm hd⟩,
    ?_, ?_, ?_, ?_, ?_, ?_⟩
  · exact fun i hi he => (ewInstrs_replace (d := .mem ea) hl hd i hi).memFrame hm he
  · exact fun hpe i hi he => (protectedEw_replace (d := .mem ea) hl hd hpe i hi).memFrame hm he
  · exact fun i hi he => (ebInstrs_replace (d := .mem ea) hl hd i hi).memFrame hm he
  · exact fun i hi he => (rwInstrs_replace hl i hi).regFrame he
  · exact fun hpe i hi he => (protectedEw_replace hl rfl hpe i hi).regFrame he
  · intro he
    obtain rfl := next_unique he (exec_completes rfl hl (exchange16_run (d := .reg r) p rfl))
    exact setReg16_twice_frame s r p _ _
  · intro he
    obtain rfl := next_unique he (exec_completes rfl hl (run_modify _ s))
    exact setReg16_twice_frame s r .ax _ _
  · intro he
    obtain rfl := next_unique he (exec_completes rfl hl (exchange8_run (d := .reg r8) p8 rfl))
    exact setReg8_twice_frame s r8 p8 _ _
  · exact fun i hi he => (rbInstrs_replace hl i hi).regFrame he

end

section
/-! SUPPORT. What rotations of a bit vector add up to, and what a shift or rotate iterated from its single-bit step
amounts to (42_logical_shift_rotate.md R317, R320 to R326). -/

namespace Sys2Proof.Machine

/-! ### Rotations of a bit vector -/

section Rotations

variable {w : Nat} (x : BitVec w)

theorem getLsbD_rotateRight_mod (r : Nat) {i : Nat} (hi : i < w) :
    (x.rotateRight r).getLsbD i = x.getLsbD ((r + i) % w) := by
  have hr : r % w < w := Nat.mod_lt _ (by omega)
  rw [BitVec.getLsbD_rotateRight, ← Nat.mod_add_mod]
  generalize r % w = q at hr
  by_cases h : i < w - q
  · rw [decide_eq_true h, cond_true, Nat.mod_eq_of_lt (by omega)]
  · have wraps : (q + i) % w = i - (w - q) := by
      rw [Nat.mod_eq_sub_mod (by omega), Nat.mod_eq_of_lt (by omega)]
      omega
    rw [decide_eq_false h, cond_false, decide_eq_true hi, Bool.true_and, wraps]

theorem getMsbD_rotateLeft_mod (r : Nat) {i : Nat} (hi : i < w) :
    (x.rotateLeft r).getMsbD i = x.getMsbD ((r + i) % w) := by
  rw [BitVec.getMsbD_rotateLeft, decide_eq_true hi, Bool.true_and]

theorem rotateLeft_zero : x.rotateLeft 0 = x := by
  apply BitVec.eq_of_getMsbD_eq
  intro i hi
  rw [getMsbD_rotateLeft_mod x 0 hi, Nat.zero_add, Nat.mod_eq_of_lt hi]

theorem rotateRight_zero : x.rotateRight 0 = x := by
  apply BitVec.eq_of_getLsbD_eq
  intro i hi
  rw [getLsbD_rotateRight_mod x 0 hi, Nat.zero_add, Nat.mod_eq_of_lt hi]

theorem rotateLeft_rotateLeft (a b : Nat) : (x.rotateLeft a).rotateLeft b = x.rotateLeft (a + b) := by
  apply BitVec.eq_of_getMsbD_eq
  intro i hi
  have within : (b + i) % w < w := Nat.mod_lt _ (by omega)
  rw [getMsbD_rotateLeft_mod _ _ hi, getMsbD_rotateLeft_mod _ _ within, getMsbD_rotateLeft_mod _ _ hi,
    Nat.add_mod_mod, Nat.add_assoc]

theorem rotateRight_rotateRight (a b : Nat) : (x.rotateRight a).rotateRight b = x.rotateRight (a + b) := by
  apply BitVec.eq_of_getLsbD_eq
  intro i hi
  have within : (b + i) % w < w := Nat.mod_lt _ (by omega)
  rw [getLsbD_rotateRight_mod _ _ hi, getLsbD_rotateRight_mod _ _ within, getLsbD_rotateRight_mod _ _ hi,
    Nat.add_mod_mod, Nat.add_assoc]

theorem add_one_mod_self {i : Nat} (hi : i < w) : (1 + i) % w = if i + 1 = w then 0 else i + 1 := by
  split
  · next h => rw [Nat.add_comm, h, Nat.mod_self]
  · next h => rw [Nat.add_comm, Nat.mod_eq_of_lt (by omega)]

/-- Rotated left by one, every bit is the one below it, and the lowest the one that left the top. -/
theorem getMsbD_rotateLeft_one {i : Nat} (hi : i < w) :
    (x.rotateLeft 1).getMsbD i = if i + 1 = w then x.msb else x.getMsbD (i + 1) := by
  rw [getMsbD_rotateLeft_mod x 1 hi, add_one_mod_self hi, apply_ite x.getMsbD]
  rfl

/-- Rotated right by one, every bit is the one above it, and the highest the one that left the bottom. -/
theorem getLsbD_rotateRight_one {i : Nat} (hi : i < w) :
    (x.rotateRight 1).getLsbD i = if i + 1 = w then x.getLsbD 0 else x.getLsbD (i + 1) := by
  rw [getLsbD_rotateRight_mod x 1 hi, add_one_mod_self hi, apply_ite x.getLsbD]

theorem getLsbD_zero_rotateLeft_one (hw : 0 < w) : (x.rotateLeft 1).getLsbD 0 = x.msb := by
  rw [BitVec.getLsbD_eq_getMsbD, decide_eq_true hw, Bool.true_and, getMsbD_rotateLeft_one x (by omega),
    if_pos (by omega)]

theorem msb_rotateRight_one (hw : 0 < w) : (x.rotateRight 1).msb = x.getLsbD 0 := by
  rw [BitVec.msb_eq_getLsbD_last, getLsbD_rotateRight_one x (by omega), if_pos (by omega)]

end Rotations

/-! ### The single-bit steps -/

section Steps

variable {n : Nat} (v : BitVec n) (b : Bool) {i : Nat}

theorem getLsbD_bitAt (i : Nat) {j : Nat} (hj : j < n) : (bitAt i b : BitVec n).getLsbD j = (decide (i = j) && b) := by
  cases b with
  | false => simp [bitAt]
  | true =>
    have within : i = j → i < n := fun h => h ▸ hj
    simpa [bitAt, BitVec.getLsbD_twoPow] using within

theorem getMsbD_shiftLeft_or_bitAt (hi : i < n) :
    (v <<< 1 ||| bitAt 0 b).getMsbD i = if i + 1 = n then b else v.getMsbD (i + 1) := by
  have low : (bitAt 0 b : BitVec n).getMsbD i = (decide (i + 1 = n) && b) := by
    rw [BitVec.getMsbD_eq_getLsbD, decide_eq_true hi, Bool.true_and, getLsbD_bitAt b 0 (by omega)]
    congr 2
    exact propext ⟨by omega, by omega⟩
  rw [BitVec.getMsbD_or, low, BitVec.getMsbD_shiftLeft]
  split
  · next h => rw [h, BitVec.getMsbD_of_ge v n le_rfl, decide_eq_true rfl, Bool.true_and, Bool.false_or]
  · next h => rw [decide_eq_false h, Bool.false_and, Bool.or_false]

theorem getLsbD_ushiftRight_or_bitAt (hi : i < n) :
    (v >>> 1 ||| bitAt (n - 1) b).getLsbD i = if i + 1 = n then b else v.getLsbD (i + 1) := by
  rw [BitVec.getLsbD_or, getLsbD_bitAt _ _ hi, BitVec.getLsbD_ushiftRight, Nat.add_comm 1]
  split
  · next h => rw [h, BitVec.getLsbD_of_ge v n le_rfl, decide_eq_true (by omega), Bool.true_and, Bool.false_or]
  · next h => rw [decide_eq_false (by omega), Bool.false_and, Bool.or_false]

theorem shiftLeft_or_bitAt_msb : v <<< 1 ||| bitAt 0 v.msb = v.rotateLeft 1 := by
  apply BitVec.eq_of_getMsbD_eq
  intro i hi
  rw [getMsbD_shiftLeft_or_bitAt v _ hi, getMsbD_rotateLeft_one v hi]

theorem ushiftRight_or_bitAt_lsb : v >>> 1 ||| bitAt (n - 1) (v.getLsbD 0) = v.rotateRight 1 := by
  apply BitVec.eq_of_getLsbD_eq
  intro i hi
  rw [getLsbD_ushiftRight_or_bitAt v _ hi, getLsbD_rotateRight_one v hi]

/-- CF and the operand as one number, CF its top bit. -/
def joined (r : BitVec n × Bool) : BitVec (1 + n) := BitVec.ofBool r.2 ++ r.1

theorem joined_msb (r : BitVec n × Bool) : (joined r).msb = r.2 := by simp [joined, BitVec.msb_append]

theorem joined_getMsbD_succ (r : BitVec n × Bool) (i : Nat) : (joined r).getMsbD (i + 1) = r.1.getMsbD i := by
  simp [joined]

theorem joined_getLsbD (r : BitVec n × Bool) {i : Nat} (hi : i < 1 + n) :
    (joined r).getLsbD i = if i = n then r.2 else r.1.getLsbD i := by
  rw [joined, BitVec.getLsbD_append, BitVec.getLsbD_ofBool]
  split
  · next h => rw [if_neg (by omega)]
  · next h => rw [if_pos (by omega), decide_eq_true (by omega), Bool.true_and]

/-- RCL by one rotates the joined number: its top bit CF enters at the bottom, and the operand's becomes CF. -/
theorem joined_rcl_step (hn : 0 < n) : joined (Shift.rcl.step v b) = (joined (v, b)).rotateLeft 1 := by
  apply BitVec.eq_of_getMsbD_eq
  intro i hi
  rw [getMsbD_rotateLeft_one _ hi, joined_msb, joined_getMsbD_succ]
  cases i with
  | zero =>
    rw [if_neg (by omega)]
    exact joined_msb _
  | succ i =>
    rw [joined_getMsbD_succ, Nat.add_comm 1 n]
    simp only [Nat.add_right_cancel_iff]
    exact getMsbD_shiftLeft_or_bitAt v b (by omega)

/-- RCR by one rotates the joined number: its lowest bit becomes CF, and CF enters below it. -/
theorem joined_rcr_step (hn : 0 < n) : joined (Shift.rcr.step v b) = (joined (v, b)).rotateRight 1 := by
  apply BitVec.eq_of_getLsbD_eq
  intro i hi
  rw [getLsbD_rotateRight_one _ hi, joined_getLsbD _ hi, joined_getLsbD _ (by omega)]
  by_cases top : i = n
  · rw [if_pos top, if_pos (by omega), if_neg (by omega)]
    rfl
  · rw [if_neg top, if_neg (by omega), joined_getLsbD _ (by omega)]
    exact getLsbD_ushiftRight_or_bitAt v b (by omega)

end Steps

/-! ### The steps repeated -/

section Iterate

variable {n : Nat} (k : Shift) (c : Nat) (v : BitVec n) (cf : Bool)

theorem Shift.iterate_succ :
    k.iterate (c + 1) v cf = k.step (k.iterate c v cf).1 (k.iterate c v cf).2 := by
  induction c generalizing v cf with
  | zero => rfl
  | succ c ih => exact ih (k.step v cf).1 (k.step v cf).2

variable {k} in
/-- If one step moves what `view` shows by one place, `c` steps move it by `c` places. -/
theorem Shift.view_iterate {α : Type} {view : BitVec n × Bool → α} {move : α → Nat → α} (zero : ∀ a, move a 0 = a)
    (succ : ∀ a c, move (move a c) 1 = move a (c + 1)) (step : ∀ v cf, view (k.step v cf) = move (view (v, cf)) 1) :
    view (k.iterate c v cf) = move (view (v, cf)) c := by
  induction c with
  | zero => exact (zero _).symm
  | succ c ih => rw [iterate_succ, step, Prod.eta, ih, succ]

theorem Shift.iterate_sal : (Shift.sal.iterate c v cf).1 = v <<< c :=
  view_iterate c v cf (view := Prod.fst) (move := fun a c => a <<< c) (fun _ => BitVec.shiftLeft_zero _)
    (fun a c => (BitVec.shiftLeft_add a c 1).symm) fun _ _ => rfl

theorem Shift.iterate_shr : (Shift.shr.iterate c v cf).1 = v >>> c :=
  view_iterate c v cf (view := Prod.fst) (move := fun a c => a >>> c) (fun _ => BitVec.ushiftRight_zero _)
    (fun a c => (BitVec.shiftRight_add a c 1).symm) fun _ _ => rfl

theorem Shift.iterate_sar : (Shift.sar.iterate c v cf).1 = v.sshiftRight c :=
  view_iterate c v cf (view := Prod.fst) (move := BitVec.sshiftRight) (fun _ => BitVec.sshiftRight_zero)
    (fun _ _ => BitVec.sshiftRight_add.symm) fun _ _ => rfl

theorem Shift.iterate_rol : (Shift.rol.iterate c v cf).1 = v.rotateLeft c :=
  view_iterate c v cf (view := Prod.fst) rotateLeft_zero (fun a c => rotateLeft_rotateLeft a c 1)
    fun v _ => shiftLeft_or_bitAt_msb v

theorem Shift.iterate_ror : (Shift.ror.iterate c v cf).1 = v.rotateRight c :=
  view_iterate c v cf (view := Prod.fst) rotateRight_zero (fun a c => rotateRight_rotateRight a c 1)
    fun v _ => ushiftRight_or_bitAt_lsb v

theorem Shift.iterate_rcl (hn : 0 < n) : joined (Shift.rcl.iterate c v cf) = (joined (v, cf)).rotateLeft c :=
  view_iterate c v cf rotateLeft_zero (fun a c => rotateLeft_rotateLeft a c 1) fun v b => joined_rcl_step v b hn

theorem Shift.iterate_rcr (hn : 0 < n) : joined (Shift.rcr.iterate c v cf) = (joined (v, cf)).rotateRight c :=
  view_iterate c v cf rotateRight_zero (fun a c => rotateRight_rotateRight a c 1) fun v b => joined_rcr_step v b hn

/-! ### The last bit shifted out: the carry of the last step, from the value before it. -/

theorem Shift.carry_sal : (Shift.sal.iterate (c + 1) v cf).2 = v.getMsbD c := by
  rw [iterate_succ, iterate_sal]
  exact BitVec.msb_shiftLeft

theorem Shift.carry_shr : (Shift.shr.iterate (c + 1) v cf).2 = v.getLsbD c := by
  rw [iterate_succ, iterate_shr]
  exact BitVec.getLsbD_ushiftRight v c 0

theorem Shift.carry_sar : (Shift.sar.iterate (c + 1) v cf).2 = (v.sshiftRight c).getLsbD 0 := by
  rw [iterate_succ, iterate_sar]
  rfl

theorem Shift.carry_rol (hn : 0 < n) : (Shift.rol.iterate (c + 1) v cf).2 = (v.rotateLeft (c + 1)).getLsbD 0 := by
  rw [iterate_succ, iterate_rol, ← rotateLeft_rotateLeft, getLsbD_zero_rotateLeft_one _ hn]
  rfl

theorem Shift.carry_ror (hn : 0 < n) : (Shift.ror.iterate (c + 1) v cf).2 = (v.rotateRight (c + 1)).msb := by
  rw [iterate_succ, iterate_ror, ← rotateRight_rotateRight, msb_rotateRight_one _ hn]
  rfl

end Iterate

end Sys2Proof.Machine

open Sys2Proof Sys2Proof.Machine

/-- Settles O24. A count of at least 1 is one more than the count of steps before the last, whose carry is CF. -/
theorem shiftMeaning : Obligations.ShiftMeaning := by
  intro n hn v cf c _
  have pos : 0 < n := by omega
  refine ⟨Shift.iterate_sal c v cf, Shift.iterate_shr c v cf, Shift.iterate_sar c v cf, Shift.iterate_rol c v cf,
    Shift.iterate_ror c v cf, ?sal, ?salBeyond, ?shr, ?sar, ?rol, ?ror, Shift.iterate_rcl c v cf pos,
    Shift.iterate_rcr c v cf pos⟩
  all_goals intro h
  all_goals obtain ⟨c, rfl⟩ := Nat.exists_eq_add_of_lt (show 0 < c by omega)
  all_goals rw [Nat.zero_add]
  case sal =>
    intro hc
    rw [Shift.carry_sal, BitVec.getMsbD_eq_getLsbD, decide_eq_true (by omega), Bool.true_and, Nat.sub_sub,
      Nat.add_comm 1]
  case salBeyond => rw [Shift.carry_sal, BitVec.getMsbD_of_ge v c (by omega)]
  case shr => exact Shift.carry_shr c v cf
  case sar => exact Shift.carry_sar c v cf
  case rol => exact Shift.carry_rol c v cf pos
  case ror => exact Shift.carry_ror c v cf pos

end

section
/-! SUPPORT. How the forms of AND, OR and XOR and of the shifts and rotates run (42_logical_shift_rotate.md R310, R317,
R318). -/

namespace Sys2Proof.Machine

/-! ### Boolean operations -/

/-- The operation `f` gives the result that `g` says, and its flags with some value for AF. -/
def ComputesLogic {n : Nat} (f : BitVec n → BitVec n → M (BitVec n)) (g : BitVec n → BitVec n → BitVec n) : Prop :=
  ∀ a b s, ∃ af, (f a b).run s = .ok (g a b) (s.logical (g a b) af)

section Ops

variable {n : Nat}

theorem opAnd_computes : ComputesLogic (n := n) opAnd (· &&& ·) := fun _ _ s => ⟨_, run_bind_ok (logicFlags_run _ s)⟩
theorem opOr_computes : ComputesLogic (n := n) opOr (· ||| ·) := fun _ _ s => ⟨_, run_bind_ok (logicFlags_run _ s)⟩
theorem opXor_computes : ComputesLogic (n := n) opXor (· ^^^ ·) := fun _ _ s => ⟨_, run_bind_ok (logicFlags_run _ s)⟩

end Ops

section Forms

variable {s : State} {i : Instr} {lost : M Unit} {f8 : Byte → Byte → M Byte} {g8 : Byte → Byte → Byte}
  {f16 : Word → Word → M Word} {g16 : Word → Word → Word} {d8 : Rm Reg8} {d16 : Rm Reg16} {r8 : Reg8} {r16 : Reg16}
  {imm8 : Byte} {imm16 : Word}

theorem ComputesLogic.ebRb (hf : ComputesLogic f8 g8) (hl : s.lockOk = true) (h : s.canWrite 1 d8 = true)
    (hi : exec i s = runInstr (ebRb lost f8 d8 r8) s) : ∃ af, exec i s =
      .next (s.put8 ((s.read8 d8).logical (g8 (s.val8 d8) (s.reg8 r8)) af) d8 (g8 (s.val8 d8) (s.reg8 r8))).done := by
  obtain ⟨af, run⟩ := hf (s.val8 d8) (s.reg8 r8) (s.read8 d8)
  exact ⟨af, exec_completes hi hl (ebRb_run h run)⟩

theorem ComputesLogic.ewRw (hf : ComputesLogic f16 g16) (hl : s.lockOk = true) (h : s.canWrite 2 d16 = true)
    (hi : exec i s = runInstr (ewRw lost f16 d16 r16) s) : ∃ af, exec i s =
      .next (s.put16 ((s.read16 d16).logical (g16 (s.val16 d16) (s.reg16 r16)) af) d16
        (g16 (s.val16 d16) (s.reg16 r16))).done := by
  obtain ⟨af, run⟩ := hf (s.val16 d16) (s.reg16 r16) (s.read16 d16)
  exact ⟨af, exec_completes hi hl (ewRw_run h run)⟩

theorem ComputesLogic.rbEb (hf : ComputesLogic f8 g8) (hl : s.lockOk = true) (h : s.canRead 1 d8 = true)
    (hi : exec i s = runInstr (rbEb f8 r8 d8) s) : ∃ af, exec i s =
      .next (s.put8 ((s.read8 d8).logical (g8 (s.reg8 r8) (s.val8 d8)) af) (.reg r8)
        (g8 (s.reg8 r8) (s.val8 d8))).done := by
  obtain ⟨af, run⟩ := hf (s.reg8 r8) (s.val8 d8) (s.read8 d8)
  exact ⟨af, exec_completes hi hl (rbEb_run h run)⟩

theorem ComputesLogic.rwEw (hf : ComputesLogic f16 g16) (hl : s.lockOk = true) (h : s.canRead 2 d16 = true)
    (hi : exec i s = runInstr (rwEw f16 r16 d16) s) : ∃ af, exec i s =
      .next (s.put16 ((s.read16 d16).logical (g16 (s.reg16 r16) (s.val16 d16)) af) (.reg r16)
        (g16 (s.reg16 r16) (s.val16 d16))).done := by
  obtain ⟨af, run⟩ := hf (s.reg16 r16) (s.val16 d16) (s.read16 d16)
  exact ⟨af, exec_completes hi hl (rwEw_run h run)⟩

theorem ComputesLogic.ebDb (hf : ComputesLogic f8 g8) (hl : s.lockOk = true) (h : s.canWrite 1 d8 = true)
    (hi : exec i s = runInstr (ebDb lost f8 d8 imm8) s) : ∃ af, exec i s =
      .next (s.put8 ((s.read8 d8).logical (g8 (s.val8 d8) imm8) af) d8 (g8 (s.val8 d8) imm8)).done := by
  obtain ⟨af, run⟩ := hf (s.val8 d8) imm8 (s.read8 d8)
  exact ⟨af, exec_completes hi hl (modify8_run lost d8 (f8 · imm8) s _ _ h run)⟩

theorem ComputesLogic.ewDw (hf : ComputesLogic f16 g16) (hl : s.lockOk = true) (h : s.canWrite 2 d16 = true)
    (hi : exec i s = runInstr (ewDw lost f16 d16 imm16) s) : ∃ af, exec i s =
      .next (s.put16 ((s.read16 d16).logical (g16 (s.val16 d16) imm16) af) d16 (g16 (s.val16 d16) imm16)).done := by
  obtain ⟨af, run⟩ := hf (s.val16 d16) imm16 (s.read16 d16)
  exact ⟨af, exec_completes hi hl (modify16_run lost d16 (f16 · imm16) s _ _ h run)⟩

end Forms

/-! ### Shifts and rotates -/

/-- The last step of a shift or rotate by `c`: OF follows the result for a count of 1, and is drawn for any other. -/
theorem shiftOverflow_run {n : Nat} (c : Nat) (b : Bool) (r : BitVec n) (s : State) :
    ∃ ov, (if c = 1 then do modify fun t : State => t.setFlag .of b; pure r else do undefFlag .of; pure r : M _).run s =
      .ok r (if c = 1 then s.setFlag .of b else s.undefine [(.of, ov)]) := by
  refine ⟨Config.undefBit s.undef, ?_⟩
  split <;> rfl

/-- A shift or rotate: AF and OF are what is drawn for them, where they are drawn. -/
theorem opShift_run {n : Nat} (k : Shift) (raw : Byte) (v : BitVec n) (s : State) :
    ∃ af ov, (opShift k raw v).run s = .ok (s.shiftValue k raw v) (s.shifted k raw v af ov) := by
  unfold opShift State.shiftValue State.shifted
  rw [run_get_bind]
  dsimp only
  by_cases zero : raw.toNat % 32 = 0
  · rw [if_pos zero, zero]
    exact ⟨false, Config.undefBit s.undef, rfl⟩
  · simp only [if_neg zero]
    rw [run_modify_bind]
    cases k.isShift with
    | true => exact ⟨Config.undefBit s.undef, shiftOverflow_run _ _ _ _⟩
    | false => exact ⟨false, shiftOverflow_run _ _ _ _⟩

/-- What the read of the operand leaves has the same CF, and so the same result. -/
theorem read8_shiftValue (s : State) (d : Rm Reg8) (k : Shift) (raw : Byte) (v : Byte) :
    (s.read8 d).shiftValue k raw v = s.shiftValue k raw v := by
  unfold State.shiftValue
  rw [read8_flag]
theorem read16_shiftValue (s : State) (d : Rm Reg16) (k : Shift) (raw : Byte) (v : Word) :
    (s.read16 d).shiftValue k raw v = s.shiftValue k raw v := by
  unfold State.shiftValue
  rw [read16_flag]

section Forms

variable {s : State} {k : Shift} {raw : Byte} {i : Instr} {body : M Unit} {d8 : Rm Reg8} {d16 : Rm Reg16}

/-- An instruction that runs as a shift by `raw`, wherever its count comes from. -/
theorem shifts8_of_run (hl : s.lockOk = true) (hi : exec i s = runInstr body s)
    (hbody : body.run s = (shift8 k d8 raw).run s) : s.shifts8 k d8 raw i := by
  intro hw
  obtain ⟨af, ov, run⟩ := opShift_run k raw (s.val8 d8) (s.read8 d8)
  rw [read8_shiftValue] at run
  exact ⟨af, ov, exec_completes hi hl (hbody.trans (modify8_run k.lost d8 _ s _ _ hw run))⟩

theorem shifts16_of_run (hl : s.lockOk = true) (hi : exec i s = runInstr body s)
    (hbody : body.run s = (shift16 k d16 raw).run s) : s.shifts16 k d16 raw i := by
  intro hw
  obtain ⟨af, ov, run⟩ := opShift_run k raw (s.val16 d16) (s.read16 d16)
  rw [read16_shiftValue] at run
  exact ⟨af, ov, exec_completes hi hl (hbody.trans (modify16_run k.lost d16 _ s _ _ hw run))⟩

end Forms

end Sys2Proof.Machine

open Sys2Proof Sys2Proof.Machine

/-- Settles O17: three operations, each in eight forms. An accumulator form is the form of a register destination. -/
theorem logicResults : Obligations.LogicResults := by
  intro s hl
  exact ⟨
    fun _ _ h => opAnd_computes.ebRb hl h rfl, fun _ _ h => opAnd_computes.ewRw hl h rfl,
    fun _ _ h => opAnd_computes.rbEb hl h rfl, fun _ _ h => opAnd_computes.rwEw hl h rfl,
    fun _ => opAnd_computes.ebDb (d8 := .reg .al) hl rfl rfl, fun _ => opAnd_computes.ewDw (d16 := .reg .ax) hl rfl rfl,
    fun _ _ h => opAnd_computes.ebDb hl h rfl, fun _ _ h => opAnd_computes.ewDw hl h rfl,
    fun _ _ h => opOr_computes.ebRb hl h rfl, fun _ _ h => opOr_computes.ewRw hl h rfl,
    fun _ _ h => opOr_computes.rbEb hl h rfl, fun _ _ h => opOr_computes.rwEw hl h rfl,
    fun _ => opOr_computes.ebDb (d8 := .reg .al) hl rfl rfl, fun _ => opOr_computes.ewDw (d16 := .reg .ax) hl rfl rfl,
    fun _ _ h => opOr_computes.ebDb hl h rfl, fun _ _ h => opOr_computes.ewDw hl h rfl,
    fun _ _ h => opXor_computes.ebRb hl h rfl, fun _ _ h => opXor_computes.ewRw hl h rfl,
    fun _ _ h => opXor_computes.rbEb hl h rfl, fun _ _ h => opXor_computes.rwEw hl h rfl,
    fun _ => opXor_computes.ebDb (d8 := .reg .al) hl rfl rfl, fun _ => opXor_computes.ewDw (d16 := .reg .ax) hl rfl rfl,
    fun _ _ h => opXor_computes.ebDb hl h rfl, fun _ _ h => opXor_computes.ewDw hl h rfl⟩

/-- Settles O23: seven operations, each by 1, by CL and by an immediate. A shift by CL reads CL and runs as a shift by
that count. -/
theorem shiftResults : Obligations.ShiftResults := by
  intro s hl
  exact ⟨
    fun _ => shifts8_of_run hl rfl rfl, fun _ => shifts16_of_run hl rfl rfl,
    fun _ => shifts8_of_run hl rfl (run_get_bind _ s), fun _ => shifts16_of_run hl rfl (run_get_bind _ s),
    fun _ _ => shifts8_of_run hl rfl rfl, fun _ _ => shifts16_of_run hl rfl rfl,
    fun _ => shifts8_of_run hl rfl rfl, fun _ => shifts16_of_run hl rfl rfl,
    fun _ => shifts8_of_run hl rfl (run_get_bind _ s), fun _ => shifts16_of_run hl rfl (run_get_bind _ s),
    fun _ _ => shifts8_of_run hl rfl rfl, fun _ _ => shifts16_of_run hl rfl rfl,
    fun _ => shifts8_of_run hl rfl rfl, fun _ => shifts16_of_run hl rfl rfl,
    fun _ => shifts8_of_run hl rfl (run_get_bind _ s), fun _ => shifts16_of_run hl rfl (run_get_bind _ s),
    fun _ _ => shifts8_of_run hl rfl rfl, fun _ _ => shifts16_of_run hl rfl rfl,
    fun _ => shifts8_of_run hl rfl rfl, fun _ => shifts16_of_run hl rfl rfl,
    fun _ => shifts8_of_run hl rfl (run_get_bind _ s), fun _ => shifts16_of_run hl rfl (run_get_bind _ s),
    fun _ _ => shifts8_of_run hl rfl rfl, fun _ _ => shifts16_of_run hl rfl rfl,
    fun _ => shifts8_of_run hl rfl rfl, fun _ => shifts16_of_run hl rfl rfl,
    fun _ => shifts8_of_run hl rfl (run_get_bind _ s), fun _ => shifts16_of_run hl rfl (run_get_bind _ s),
    fun _ _ => shifts8_of_run hl rfl rfl, fun _ _ => shifts16_of_run hl rfl rfl,
    fun _ => shifts8_of_run hl rfl rfl, fun _ => shifts16_of_run hl rfl rfl,
    fun _ => shifts8_of_run hl rfl (run_get_bind _ s), fun _ => shifts16_of_run hl rfl (run_get_bind _ s),
    fun _ _ => shifts8_of_run hl rfl rfl, fun _ _ => shifts16_of_run hl rfl rfl,
    fun _ => shifts8_of_run hl rfl rfl, fun _ => shifts16_of_run hl rfl rfl,
    fun _ => shifts8_of_run hl rfl (run_get_bind _ s), fun _ => shifts16_of_run hl rfl (run_get_bind _ s),
    fun _ _ => shifts8_of_run hl rfl rfl, fun _ _ => shifts16_of_run hl rfl rfl⟩

end

section
/-! SUPPORT. How the near transfers run: conditional jumps, loops, near JMP, CALL and RET (43_control_transfer.md R340 to
R368). -/

namespace Sys2Proof.Machine

/-! ### Jumps and loops -/

/-- NearTransfer to a target in the code segment (43_control_transfer.md R340). -/
theorem nearTransfer_ok {t : Word} {s : State} (h : s.targetOk t = true) :
    (nearTransfer t).run s = .ok () (s.jump t) := (nearTransfer_run t s).trans (if_pos h)

theorem nearTransfer_outside {t : Word} {s : State} (h : s.targetOk t = false) :
    (nearTransfer t).run s = .error (.gp 0) s := (nearTransfer_run t s).trans (if_neg (Bool.eq_false_iff.mp h))

/-- A short jump that is not taken, or one that is (43_control_transfer.md R344). -/
theorem jumpIf_run (c : State → Bool) (rel : Byte) (s : State) :
    (jumpIf c rel).run s = if c s then (nearTransfer (s.relTarget8 rel)).run s else .ok () s := by
  unfold jumpIf
  rw [run_get_bind, run_ite]
  rfl

/-- An instruction whose rule is a conditional jump. -/
theorem jumpsIf_of_run {i : Instr} {c : State → Bool} {b : Bool} {rel : Byte} {s : State} (hl : s.lockOk = true)
    (hi : exec i s = runInstr (jumpIf c rel) s) (hc : c s = b) : s.jumpsIf b rel i := by
  have run := jumpIf_run c rel s
  rw [hc] at run
  refine ⟨fun h => ?_, fun h ok => ?_, fun h outside => ?_⟩ <;> subst h
  · exact exec_completes hi hl run
  · exact exec_completes hi hl (run.trans (nearTransfer_ok ok))
  · exact exec_raises hi hl (run.trans (nearTransfer_outside outside))

/-- A loop not taken, or one that is: CX changes after the jump (43_control_transfer.md R362). -/
theorem loopIf_run (c : State → Bool) (rel : Byte) (s : State) :
    (loopIf c rel).run s = if (s.gpr.cx - 1 != 0 && c s) = true then
        (nearTransfer (s.relTarget8 rel) >>= fun _ => modify fun t => t.setReg16 .cx (s.gpr.cx - 1)).run s
      else .ok () (s.setReg16 .cx (s.gpr.cx - 1)) := by
  unfold loopIf
  rw [run_get_bind, run_ite]
  rfl

/-- An instruction whose rule is a loop. -/
theorem loopsIf_of_run {i : Instr} {c : State → Bool} {b : Bool} {rel : Byte} {s : State} (hl : s.lockOk = true)
    (hi : exec i s = runInstr (loopIf c rel) s) (hc : (s.gpr.cx - 1 != 0 && c s) = b) : s.loopsIf b rel i := by
  have run := loopIf_run c rel s
  rw [hc] at run
  refine ⟨fun h => ?_, fun h ok => ?_, fun h outside => ?_⟩ <;> subst h
  · exact exec_completes hi hl run
  · exact exec_completes hi hl (run.trans (run_bind_ok (nearTransfer_ok ok)))
  · exact exec_raises hi hl (run.trans (run_bind_error (nearTransfer_outside outside)))

/-- JMP through a register or memory operand (43_control_transfer.md R343). -/
theorem nearJumpRm_run {s : State} {d : Rm Reg16} (hd : s.canRead 2 d = true) (ht : s.targetOk (s.val16 d) = true) :
    (nearJumpRm d).run s = .ok () ((s.read16 d).jump (s.val16 d)) := by
  unfold nearJumpRm
  rw [run_bind_ok (rd16_run d s hd)]
  exact nearTransfer_ok (by cases d <;> exact ht)

/-! ### CALL and RET -/

theorem checkPush_ok {s : State} (h : s.pushOk = true) : checkPush.run s = .ok () s := by
  unfold State.pushOk at h
  rw [Bool.and_eq_true, Bool.not_eq_true'] at h
  obtain ⟨notSplit, fits⟩ := h
  unfold checkPush
  rw [run_get_bind, notSplit, if_neg Bool.false_ne_true, fits]
  rfl

/-- CALL when the push can be made and the target is in the code segment (43_control_transfer.md R365). -/
theorem nearCall_run {s : State} {t : Word} (hp : s.pushOk = true) (ht : s.targetOk t = true) :
    (nearCall t).run s = .ok () ((s.pushed s.ip).jump t) := by
  unfold nearCall
  rw [run_get_bind, run_bind_ok (checkPush_ok hp), require_bind]
  exact (if_pos ht).trans (run_bind_ok (push16_pushOk _ hp))

theorem nearCallRm_run {s : State} {d : Rm Reg16} (hp : s.pushOk = true) (hd : s.canRead 2 d = true)
    (ht : s.targetOk (s.val16 d) = true) :
    (nearCallRm d).run s = .ok () (((s.read16 d).pushed s.ip).jump (s.val16 d)) := by
  unfold nearCallRm
  rw [run_bind_ok (rd16_run d s hd)]
  cases d <;> exact nearCall_run hp ht

/-- RET: the target is tested before SP moves (43_control_transfer.md R367). -/
theorem nearRet_run {s : State} (imm : Word) (hs : s.stackOk s.gpr.sp 2 = true) (ht : s.targetOk s.stackTop = true) :
    (nearRet imm).run s = .ok () ((s.topRead.jump s.stackTop).setReg16 .sp (s.gpr.sp + 2 + imm)) := by
  unfold nearRet
  rw [run_get_bind, require_bind, if_pos hs, run_bind_ok (load16_run _ s)]
  exact run_bind_ok (nearTransfer_ok (s := s.topRead) ht)

/-! ### Signed comparison -/

/-- SF and OF after a comparison tell which operand is less as a signed number (10_state.md R33). -/
theorem subFlags_less_iff (a b : Word) :
    ((subFlags a b false).2.sf != (subFlags a b false).2.of) = true ↔ a.toInt < b.toInt := by
  have hof : (subFlags a b false).2.of = ((a.msb != b.msb) && ((subFlags a b false).1.msb != a.msb)) := rfl
  have hsf : (subFlags a b false).2.sf = (subFlags a b false).1.msb := rfl
  have hdiff := subFlags_borrow a b false
  obtain ⟨ea, la, ua⟩ := toInt_msb_bounds (by omega) rfl a
  obtain ⟨eb, lb, ub⟩ := toInt_msb_bounds (by omega) rfl b
  obtain ⟨-, lr, ur⟩ := toInt_msb_bounds (by omega) rfl (subFlags a b false).1
  rw [hof, hsf, ea, eb]
  -- The three signs and the borrow fix every multiple of the sign's weight; what is left is linear.
  generalize a.msb = p, b.msb = q, (subFlags a b false).1.msb = r, (subFlags a b false).2.cf = k at *
  cases p <;> cases q <;> cases r <;> cases k <;> simp at * <;> omega

/-- ZF after a comparison: the operands are equal. -/
theorem subFlags_zf_iff (a b : Word) : (subFlags a b false).2.zf = true ↔ a = b := by
  have hdiff := subFlags_borrow a b false
  have ha := a.isLt
  have hb := b.isLt
  have hzero := beq_zero_iff (subFlags a b false).1
  show ((subFlags a b false).1 == 0) = true ↔ a = b
  rw [hzero, ← BitVec.toNat_inj]
  cases (subFlags a b false).2.cf <;> simp at hdiff <;> omega

/-- SF and OF, or ZF: less or equal as signed numbers. -/
theorem subFlags_lessEq_iff (a b : Word) :
    ((subFlags a b false).2.zf || ((subFlags a b false).2.sf != (subFlags a b false).2.of)) = true ↔
      a.toInt ≤ b.toInt := by
  rw [Bool.or_eq_true, subFlags_zf_iff, subFlags_less_iff, ← BitVec.toInt_inj]
  omega

end Sys2Proof.Machine

open Sys2Proof Sys2Proof.Machine

/-- Settles O32: each condition is the rule's own, or the negation of a disjunction. -/
theorem jumpsOnFlags : Obligations.JumpsOnFlags := by
  refine ⟨fun _ => rfl, fun s rel hl => ⟨rfl, ?_⟩⟩
  exact ⟨jumpsIf_of_run hl rfl rfl, jumpsIf_of_run hl rfl rfl, jumpsIf_of_run hl rfl rfl, jumpsIf_of_run hl rfl rfl,
    jumpsIf_of_run hl rfl rfl, jumpsIf_of_run hl rfl rfl, jumpsIf_of_run hl rfl rfl,
    jumpsIf_of_run hl rfl (Bool.not_or _ _), jumpsIf_of_run hl rfl rfl, jumpsIf_of_run hl rfl rfl,
    jumpsIf_of_run hl rfl rfl, jumpsIf_of_run hl rfl rfl⟩

/-- Settles O33: the conditions are those of the rules, and after CMP the laws of the difference say what they mean. -/
theorem signedJumps : Obligations.SignedJumps := by
  refine ⟨fun _ => rfl, fun s rel hl => ⟨rfl, ?_⟩⟩
  have notLess : (!s.less) = (s.flag .sf == s.flag .of) := Bool.not_not _
  have notLessEq : (!s.lessEq) = (!s.flag .zf && (s.flag .sf == s.flag .of)) :=
    (Bool.not_or _ _).trans (congrArg _ notLess)
  exact ⟨jumpsIf_of_run hl rfl rfl, jumpsIf_of_run hl rfl notLess, jumpsIf_of_run hl rfl rfl,
    jumpsIf_of_run hl rfl notLessEq, jumpsIf_of_run hl rfl rfl, fun a b =>
      ⟨subFlags_less_iff a b, subFlags_lessEq_iff a b, decide_eq_true_iff⟩⟩

/-- Settles O34: the loops by their condition, the jumps by their target. -/
theorem loopsAndNearJumps : Obligations.LoopsAndNearJumps := by
  intro s hl
  exact ⟨fun rel => ⟨loopsIf_of_run hl rfl (Bool.and_true _), loopsIf_of_run hl rfl rfl, loopsIf_of_run hl rfl rfl⟩,
    fun rel ok => exec_completes rfl hl ((run_get_bind _ s).trans (nearTransfer_ok ok)),
    fun rel ok => exec_completes rfl hl ((run_get_bind _ s).trans (nearTransfer_ok ok)),
    fun d hd ok => exec_completes rfl hl (nearJumpRm_run hd ok)⟩

/-- Settles O35: CALL pushes and jumps, RET reads the target and then moves SP. -/
theorem nearCallsAndReturns : Obligations.NearCallsAndReturns := by
  intro s hl
  refine ⟨fun h1 => ?_, fun hs ht => ⟨?_, fun imm => exec_completes rfl hl (nearRet_run imm hs ht)⟩⟩
  · have hp := pushOk_of_pushesOk h1
    exact ⟨fun rel ok => exec_completes rfl hl ((run_get_bind _ s).trans (nearCall_run hp ok)),
      fun d hd ok => exec_completes rfl hl (nearCallRm_run hp hd ok)⟩
  · have run := nearRet_run 0 hs ht
    rw [add_zero] at run
    exact exec_completes rfl hl run

end

section
/-! SUPPORT. Far transfers: what a far JMP or CALL has read before it transfers, and how the transfers and the entry through
a vector run in Real Address Mode (43_control_transfer.md R369 to R375, R389; 60_exceptions.md R745). -/

namespace Sys2Proof.Machine

/-- A test that passes. -/
theorem require_ok {α : Type} {ok : Bool} (a : Abort) (f : Unit → M α) (h : ok = true) {s : State} :
    (require ok a >>= f).run s = (f ()).run s := (require_bind ok a f s).trans (if_pos h)

/-! ### The target of a far transfer -/

/-- A far JMP has read the words of its pointer, or none. -/
theorem State.jumpsFar.read {s u : State} {i : Instr} {sel off : Word} (h : s.jumpsFar i sel off u) :
    ∃ as, u = s.afterWords as := by
  obtain ⟨-, rfl⟩ | ⟨ea, -, -, -, rfl⟩ := h
  · exact ⟨[], rfl⟩
  · exact ⟨_, rfl⟩

theorem State.callsFar.read {s u : State} {i : Instr} {sel off : Word} (h : s.callsFar i sel off u) :
    ∃ as, u = s.afterWords as := by
  obtain ⟨-, rfl⟩ | ⟨ea, -, -, -, rfl⟩ := h
  · exact ⟨[], rfl⟩
  · exact ⟨_, rfl⟩

/-- A transfer through a pointer in memory: the transfer to what the pointer holds, once that has been read. -/
theorem throughPointer_run {s : State} {ea : Ea} {sel off : Word} (f : (sel off : Word) → M Unit)
    (hea : s.farReadOk ea = true) (hp : s.farPointer ea = (off, sel)) :
    (throughPointer f ea).run s = (f sel off).run (s.operandRead 2 ea) := by
  unfold throughPointer
  rw [run_bind_ok (rdPair_run hea), hp]

/-- A far JMP completes if the transfer does, from the state after its pointer has been read. -/
theorem State.jumpsFar.completes {s u t : State} {i : Instr} {sel off : Word} (h : s.jumpsFar i sel off u)
    (hl : s.lockOk = true) (run : (jumpFar sel off).run u = .ok () t) : exec i s = .next t.done := by
  obtain ⟨rfl, rfl⟩ | ⟨ea, rfl, hea, hp, rfl⟩ := h
  · exact exec_completes rfl hl run
  · exact exec_completes rfl hl ((throughPointer_run jumpFar hea hp).trans run)

theorem State.callsFar.completes {s u t : State} {i : Instr} {sel off : Word} (h : s.callsFar i sel off u)
    (hl : s.lockOk = true) (run : (callFar sel off).run u = .ok () t) : exec i s = .next t.done := by
  obtain ⟨rfl, rfl⟩ | ⟨ea, rfl, hea, hp, rfl⟩ := h
  · exact exec_completes rfl hl run
  · exact exec_completes rfl hl ((throughPointer_run callFar hea hp).trans run)

/-! ### Real Address Mode -/

theorem jumpFar_real {s : State} (sel off : Word) (hpe : s.pe = false) :
    (jumpFar sel off).run s = .ok () (s.realFar sel off) := by
  unfold jumpFar
  rw [run_get_bind, if_neg (Bool.eq_false_iff.mp hpe)]
  rfl

/-- A push that can be made in Real Address Mode is not made through SP = 1 (20_memory.md R127). -/
theorem pushOk_sp {s : State} (hpe : s.pe = false) (h : s.pushOk = true) : (s.gpr.sp == 1) = false := by
  unfold State.pushOk at h
  rw [Bool.and_eq_true, Bool.not_eq_true', hpe] at h
  exact h.1

/-- So two pushes do not split a word through SP = 1 or 3. -/
theorem pushesOk_two_sp {s : State} (hpe : s.pe = false) (h : s.pushesOk 2 = true) :
    (s.gpr.sp == 1 || s.gpr.sp == 3) = false := by
  have first := pushOk_sp hpe (pushOk_of_pushesOk h)
  have second : (s.gpr.sp - 2 == 1) = false := pushOk_sp (s := s.pushed 0) hpe (pushOk_of_pushesOk (pushesOk_pushed 0 h))
  rw [Bool.or_eq_false_iff]
  refine ⟨first, ?_⟩
  rw [beq_eq_false_iff_ne] at second ⊢
  exact fun h3 => second (by rw [h3]; decide)

theorem callFar_real {s : State} (sel off : Word) (hpe : s.pe = false) (h : s.pushesOk 2 = true) :
    (callFar sel off).run s = .ok () (((s.pushed s.cs.sel).pushed s.ip).realFar sel off) := by
  unfold callFar
  rw [run_get_bind, if_neg (Bool.eq_false_iff.mp hpe), pushesOk_two_sp hpe h, if_neg Bool.false_ne_true,
    push16_bind _ _ h, push16_bind _ _ (pushesOk_pushed _ h)]
  rfl

/-- StkRead(k): the word, and the trace of its read. -/
theorem stkRead_bind {α : Type} (k : Word) (f : Word → M α) (s : State) :
    (stkRead k >>= f).run s = (f (s.stkWord k)).run (s.afterStk k) := run_bind_ok rfl

theorem retFar_real {s : State} (imm : Word) (hpe : s.pe = false) (h0 : s.stkOk 0 = true) (h2 : s.stkOk 2 = true) :
    (retFar imm).run s = .ok () ((((s.afterStk 0).afterStk 2).realFar ((s.afterStk 0).stkWord 2)
      (s.stkWord 0)).setReg16 .sp (s.gpr.sp + 4 + imm)) := by
  unfold retFar
  rw [run_get_bind, if_neg (Bool.eq_false_iff.mp hpe), require_ok _ _ h0, stkRead_bind, require_ok _ _ h2,
    stkRead_bind]
  rfl

theorem iret_real {s : State} (hpe : s.pe = false) (h0 : s.stkOk 0 = true) (h2 : s.stkOk 2 = true)
    (h4 : s.stkOk 4 = true) :
    let u := (s.afterStk 0).afterStk 2
    iret.run s = .ok () { ((u.afterStk 4).realFar ((s.afterStk 0).stkWord 2) (s.stkWord 0)).setReg16 .sp (s.gpr.sp + 6) with
      flags := s.popFlags (u.stkWord 4), nmiMask := false } := by
  intro u
  unfold iret
  rw [run_get_bind, hpe, Bool.not_false, if_pos rfl]
  unfold iretReal
  rw [run_get_bind, require_ok _ _ (by rw [h0, h2, h4]; rfl), stkRead_bind, stkRead_bind, stkRead_bind]
  rfl

/-! ### The entry through a vector in Real Address Mode -/

/-- The entry reads the vector, pushes three words and loads CS:IP (60_exceptions.md R745). -/
theorem realEntry_run {s : State} (n : Byte) (ret : Word)
    (hsp : (s.gpr.sp == 1 || s.gpr.sp == 3 || s.gpr.sp == 5) = false) (h : s.pushesOk 3 = true) :
    (realEntry n ret).run s = .ok () (s.realEntered n ret) := by
  have h3 : (s.afterWords (s.vectorAddrs n)).pushesOk 3 = true := h
  have h2 := pushesOk_pushed s.flags.word h3
  have h1 := pushesOk_pushed s.cs.sel h2
  unfold realEntry
  rw [run_get_bind, hsp, if_neg Bool.false_ne_true, run_bind_ok (load16_run _ s), run_bind_ok (load16_run _ _)]
  exact (push16_bind _ _ h3).trans ((push16_bind _ _ h2).trans (push16_bind _ _ h1))

/-- An event whose entry can be made is delivered by that entry (60_exceptions.md R744, R745). -/
theorem deliverReal_run {s : State} {n : Byte} (kind : EventKind) (h : s.realEntryOk n = true) :
    s.pe = false ∧ (deliverReal n kind).run s = .ok () (s.realEntered n (s.retIP kind)) := by
  simp only [State.realEntryOk, Bool.and_eq_true, Bool.not_eq_true'] at h
  obtain ⟨⟨⟨hpe, inTable⟩, hsp⟩, hpush⟩ := h
  refine ⟨hpe, ?_⟩
  unfold deliverReal
  rw [run_get_bind, if_pos inTable]
  exact realEntry_run n _ hsp hpush

theorem deliver_software_real {s : State} {n : Byte} (h : s.realEntryOk n = true) :
    deliver n .software none s = (s.realEntered n s.ip).delivered .software := by
  obtain ⟨hpe, run⟩ := deliverReal_run .software h
  unfold deliver
  simp only [if_true, hpe, Bool.false_eq_true, if_false, run]
  rfl

theorem deliver_fault_real {s : State} {n : Byte} (h : s.realEntryOk n = true) :
    deliver n .fault none s = (s.realEntered n s.curIP).delivered .fault := by
  obtain ⟨hpe, run⟩ := deliverReal_run .fault h
  have same : { s with curIP := s.retIP .fault } = s := rfl
  unfold deliver
  simp only [reduceCtorEq, if_false, same, hpe, Bool.false_eq_true, run]
  rfl

/-- INT n is the delivery of a software interrupt (43_control_transfer.md R386). -/
theorem softInt_run {s t : State} {n : Byte} (h : deliver n .software none s = t) :
    (softInt n).run s = .ok () t := congrArg (EStateM.Result.ok ()) h

/-- INTO: INT 4 if OF is set, and nothing otherwise (43_control_transfer.md R388). -/
theorem intOnOverflow_run (s : State) :
    intOnOverflow.run s = if s.flag .of then (softInt 4).run s else .ok () s := by
  unfold intOnOverflow
  rw [run_get_bind, run_ite]
  rfl

end Sys2Proof.Machine

open Sys2Proof Sys2Proof.Machine

/-- Settles O36: the transfers run from the state after their operands have been read. -/
theorem farTransfersReal : Obligations.FarTransfersReal := by
  intro s hl hpe
  refine ⟨fun i sel off u h => ?_, fun i sel off u h h2 => ?_, fun h0 h2 => ⟨?_, fun imm =>
    exec_completes rfl hl (retFar_real imm hpe h0 h2), fun h4 => exec_completes rfl hl (iret_real hpe h0 h2 h4)⟩⟩
  · obtain ⟨as, rfl⟩ := h.read
    exact h.completes hl (jumpFar_real sel off hpe)
  · obtain ⟨as, rfl⟩ := h.read
    exact h.completes hl (callFar_real sel off hpe h2)
  · have run := retFar_real 0 hpe h0 h2
    rw [add_zero] at run
    exact exec_completes rfl hl run

/-- Settles O38: software interrupts and faults are one entry, with another return address. -/
theorem interruptsReal : Obligations.InterruptsReal := by
  intro s hl
  refine ⟨fun n h => ⟨exec_completes rfl hl (softInt_run (deliver_software_real h)), deliver_fault_real h⟩,
    fun h => exec_completes rfl hl (softInt_run (deliver_software_real h)), fun hof h => ?_, fun hof => ?_⟩
  · exact exec_completes rfl hl ((intOnOverflow_run s).trans
      ((if_pos hof).trans (softInt_run (deliver_software_real h))))
  · exact exec_completes rfl hl ((intOnOverflow_run s).trans (if_neg (Bool.eq_false_iff.mp hof)))

end

section
/-! SUPPORT. How far transfers run in Protected Mode: to a code segment, through a call gate, and back (43_control_transfer.md
R376 to R380, R383 to R385, R390, R391). -/

namespace Sys2Proof.Machine

/-! ### What transfers are made of -/

theorem loadCS_run (sel : Word) (d : Desc) (cpl : BitVec 2) (off : Word) (s : State) :
    (loadCS sel d cpl off).run s = .ok () (s.enterCode sel d cpl off) := rfl

theorem commitStack_run (sel : Word) (d : Desc) (sp : Word) (s : State) :
    (commitStack sel d sp).run s = .ok () (s.enterStack sel d sp) := rfl

/-- A gate or task state segment is no code segment, and of one type (20_memory.md R105, R106). -/
theorem isCode_of_isControl {d : Desc} {t : BitVec 4} (h : d.isControl t = true) : d.isCode = false := by
  simp only [Desc.isControl, Bool.and_eq_true, Bool.not_eq_true'] at h
  simp [Desc.isCode, h.1]

theorem isControl_eq_of_isControl {d : Desc} {t : BitVec 4} (k : BitVec 4) (h : d.isControl t = true) :
    d.isControl k = (t == k) := by
  simp only [Desc.isControl, Bool.and_eq_true, Bool.not_eq_true', beq_iff_eq] at h
  obtain ⟨system, type⟩ := h
  simp [Desc.isControl, system, type]

/-- Where the word of the push after `i` others stands in a segment with room for `n` words: as much below the top, a
stack pointer of 0 being 10000H. -/
theorem pushOffset_of_room {sp : Word} {n i top : Nat} (htop : top = if sp = 0 then 65536 else sp.toNat) (fits : 2 * n ≤ top)
    (hi : i < n) : (sp - BitVec.ofNat 16 (2 * i + 2)).toNat = top - 2 * n + (2 * n - (2 * i + 2)) := by
  have hlt := sp.isLt
  by_cases h0 : sp = 0
  · rw [if_pos h0] at htop
    have hz : sp.toNat = 0 := by rw [h0]; rfl
    simp only [BitVec.toNat_sub, BitVec.toNat_ofNat]
    omega
  · have hsp : 0 < sp.toNat := Nat.pos_of_ne_zero fun e => h0 (BitVec.eq_of_toNat_eq e)
    rw [if_neg h0] at htop
    simp only [BitVec.toNat_sub, BitVec.toNat_ofNat]
    omega

/-- A segment with room for `n` words takes `n` pushes (20_memory.md R124, R126). -/
theorem pushesOk_of_stackRoom {s : State} {n : Nat} (h : s.stackRoom (2 * n) = true) : s.pushesOk n = true := by
  simp only [State.stackRoom, SegCache.room, Bool.and_eq_true, decide_eq_true_eq] at h
  obtain ⟨valid, fits, inside⟩ := h
  unfold State.pushesOk
  rw [List.all_eq_true]
  intro i hi
  rw [List.mem_range] at hi
  have offset := pushOffset_of_room rfl fits hi
  have word := inLimit_part (k := 2 * n - (2 * i + 2)) (m := 2) inside (by omega)
  rw [← offset] at word
  have notSplit : (s.gpr.sp - BitVec.ofNat 16 (2 * i) == 1) = false := by
    rw [beq_eq_false_iff_ne]
    intro e
    have below : s.gpr.sp - BitVec.ofNat 16 (2 * i + 2) = 1 - 2 := by rw [← e]; bv_omega
    have top : (if s.gpr.sp = 0 then 65536 else s.gpr.sp.toNat) ≤ 65536 := by
      split_ifs
      · exact Nat.le_refl _
      · exact s.gpr.sp.isLt.le
    rw [below] at offset
    change 65535 = _ at offset
    omega
  rw [notSplit, Bool.and_false, State.stackOk, valid, word]
  rfl

/-- Words pushed, the first one last; `k` more can be pushed after them. -/
theorem pushWords_run {s : State} {ws : List Word} {k : Nat} (h : s.pushesOk (ws.length + k) = true) :
    (pushWords ws).run s = .ok () (ws.foldr (fun p t => t.pushed p) s) ∧
      (ws.foldr (fun p t => t.pushed p) s).pushesOk k = true := by
  induction ws generalizing k with
  | nil => exact ⟨rfl, by simpa using h⟩
  | cons v rest ih =>
    obtain ⟨run, more⟩ := ih (k := k + 1) (by rw [← h, List.length_cons]; congr 1; omega)
    exact ⟨(run_bind_ok run).trans (push16_pushOk v (pushOk_of_pushesOk more)), pushesOk_pushed v more⟩

/-! ### To a code segment -/

theorem jumpFar_prot {s : State} (sel off : Word) (hpe : s.pe = true) :
    (jumpFar sel off).run s = (farJmp sel off).run s := (run_get_bind _ s).trans (by rw [if_pos hpe])

theorem callFar_prot {s : State} (sel off : Word) (hpe : s.pe = true) :
    (callFar sel off).run s = (farCall sel off).run s := (run_get_bind _ s).trans (by rw [if_pos hpe])

/-- In Protected Mode a far JMP completes if the transfer of R377 does, from the state after its pointer has been read. -/
theorem State.jumpsFar.completes_prot {s u t : State} {i : Instr} {sel off : Word} (h : s.jumpsFar i sel off u)
    (hl : s.lockOk = true) (hpe : s.pe = true) (run : (farJmp sel off).run u = .ok () t) : exec i s = .next t.done := by
  obtain ⟨as, rfl⟩ := h.read
  exact h.completes hl ((jumpFar_prot (s := s.afterWords as) sel off hpe).trans run)

theorem State.callsFar.completes_prot {s u t : State} {i : Instr} {sel off : Word} (h : s.callsFar i sel off u)
    (hl : s.lockOk = true) (hpe : s.pe = true) (run : (farCall sel off).run u = .ok () t) : exec i s = .next t.done := by
  obtain ⟨as, rfl⟩ := h.read
  exact h.completes hl ((callFar_prot (s := s.afterWords as) sel off hpe).trans run)

/-- The privilege tests on a code segment that a far JMP or CALL names (43_control_transfer.md R377). -/
theorem directCode_run {s : State} {sel off : Word} {d : Desc} (h : s.codeOk sel off d = true) :
    (!selNull sel) = true ∧ d.isCode = true ∧ (directCode sel d).run s = .ok () s ∧ off.toNat ≤ d.limit.toNat := by
  simp only [State.codeOk, Bool.and_eq_true, decide_eq_true_eq] at h
  obtain ⟨⟨⟨⟨notNull, code⟩, privilege⟩, present⟩, inside⟩ := h
  refine ⟨notNull, code, ?_, inside⟩
  unfold directCode
  rw [run_get_bind, present]
  cases hc : d.conforming with
  | true =>
    rw [hc, if_pos rfl] at privilege
    rw [if_pos rfl, require_ok _ _ privilege]
    rfl
  | false =>
    rw [hc, if_neg Bool.false_ne_true, Bool.and_eq_true] at privilege
    obtain ⟨rpl, dpl⟩ := privilege
    rw [if_neg Bool.false_ne_true, require_ok _ _ rpl, require_ok _ _ dpl]
    rfl

theorem farJmp_code {s : State} {sel off : Word} {d : Desc} (hd : s.descLookup sel = some d)
    (h : s.codeOk sel off d = true) :
    (farJmp sel off).run s = .ok () ((s.afterLookup sel).enterCode sel d s.cpl off) := by
  obtain ⟨notNull, code, privilege, inside⟩ := directCode_run (s := s.afterLookup sel) h
  unfold farJmp
  rw [require_ok _ _ notNull, lookup_bind _ hd, run_get_bind, if_pos code, run_bind_ok privilege,
    require_ok _ _ (decide_eq_true inside)]
  rfl

/-- The return address is pushed and the code segment entered (43_control_transfer.md R378). -/
theorem callSame_run {s : State} {d : Desc} {off : Word} (sel : Word) (hroom : s.stackRoom 4 = true)
    (inside : off.toNat ≤ d.limit.toNat) :
    (callSame sel off d).run s = .ok () (((s.pushed s.cs.sel).pushed s.ip).enterCode sel d s.cpl off) := by
  have h2 : s.pushesOk 2 = true := pushesOk_of_stackRoom hroom
  have room : (checkStackRoom 4).run s = .ok () s := (run_get_bind _ s).trans (by rw [hroom]; rfl)
  unfold callSame
  rw [run_get_bind, run_bind_ok room, require_ok _ _ (decide_eq_true inside), push16_bind _ _ h2,
    push16_bind _ _ (pushesOk_pushed _ h2)]
  rfl

theorem farCall_code {s : State} {sel off : Word} {d : Desc} (hd : s.descLookup sel = some d)
    (h : s.codeOk sel off d = true) (hroom : s.stackRoom 4 = true) :
    (farCall sel off).run s =
      .ok () ((((s.afterLookup sel).pushed s.cs.sel).pushed s.ip).enterCode sel d s.cpl off) := by
  obtain ⟨notNull, code, privilege, inside⟩ := directCode_run (s := s.afterLookup sel) h
  unfold farCall
  rw [require_ok _ _ notNull, lookup_bind _ hd, if_pos code, run_bind_ok privilege]
  exact callSame_run (s := s.afterLookup sel) sel hroom inside

/-! ### Through a call gate -/

/-- What a gate that may be used is. -/
theorem gateFor_cases {s : State} {sel : Word} {g : Desc} {t : BitVec 4} (h : s.gateFor sel g t = true) :
    (!selNull sel) = true ∧ s.descLookup sel = some g ∧ g.isControl t = true ∧
      (gateUsable sel g).run (s.afterLookup sel) = .ok () (s.afterLookup sel) := by
  simp only [State.gateFor, Bool.and_eq_true, beq_iff_eq] at h
  obtain ⟨⟨⟨⟨⟨notNull, found⟩, control⟩, cpl⟩, rpl⟩, present⟩ := h
  refine ⟨notNull, found, control, ?_⟩
  have privilege : ((s.afterLookup sel).cpl.ule g.dpl && (selRpl sel).ule g.dpl) = true := by
    rw [rpl, Bool.and_true]; exact cpl
  unfold gateUsable
  rw [run_get_bind, require_ok _ _ privilege, present]
  rfl

theorem farJmp_gate {s : State} {sel : Word} {g : Desc} (off : Word) (h : s.gateFor sel g 4 = true) :
    (farJmp sel off).run s = (gateJmp sel g).run (s.afterLookup sel) := by
  obtain ⟨notNull, found, control, -⟩ := gateFor_cases h
  unfold farJmp
  rw [require_ok _ _ notNull, lookup_bind _ found, run_get_bind,
    if_neg (Bool.eq_false_iff.mp (isCode_of_isControl control)), if_pos control]

theorem farCall_gate {s : State} {sel : Word} {g : Desc} (off : Word) (h : s.gateFor sel g 4 = true) :
    (farCall sel off).run s = (gateCall sel g).run (s.afterLookup sel) := by
  obtain ⟨notNull, found, control, -⟩ := gateFor_cases h
  unfold farCall
  rw [require_ok _ _ notNull, lookup_bind _ found,
    if_neg (Bool.eq_false_iff.mp (isCode_of_isControl control)), if_pos control]

/-- What a code segment is that a gate enters at the same level. -/
theorem sameCode_cases {s : State} {sel off : Word} {d : Desc} (h : s.sameCode sel off d = true) :
    (!selNull sel) = true ∧ s.descLookup sel = some d ∧ d.isCode = true ∧ d.codeAt s.cpl = true ∧ d.present = true ∧
      off.toNat ≤ d.limit.toNat := by
  simpa [State.sameCode, and_assoc] using h

theorem gateJmp_run {s : State} {sel : Word} {g d : Desc} (hg : s.gateFor sel g 4 = true)
    (h : (s.afterLookup sel).sameCode g.gateSel g.gateOffset d = true) :
    (gateJmp sel g).run (s.afterLookup sel) =
      .ok () (((s.afterLookup sel).afterLookup g.gateSel).enterCode g.gateSel d s.cpl g.gateOffset) := by
  obtain ⟨-, -, -, usable⟩ := gateFor_cases hg
  obtain ⟨notNull, found, code, privilege, present, inside⟩ := sameCode_cases h
  unfold gateJmp
  dsimp only
  rw [run_bind_ok usable, require_ok _ _ notNull, lookup_bind _ found, run_get_bind, afterLookup_cpl,
    require_ok _ _ code, require_ok _ _ privilege, require_ok _ _ present, require_ok _ _ (decide_eq_true inside)]
  rfl

/-- A segment that is entered at the current level has no lower privilege than it, and a gate to it is no gate to an inner
level. -/
theorem codeAt_level {d : Desc} {cpl : BitVec 2} (h : d.codeAt cpl = true) :
    d.dpl.ule cpl = true ∧ (!d.conforming && d.dpl.ult cpl) = false := by
  unfold Desc.codeAt at h
  cases hc : d.conforming with
  | true => rw [hc, if_pos rfl] at h; exact ⟨h, rfl⟩
  | false =>
    rw [hc, if_neg Bool.false_ne_true, beq_iff_eq] at h
    rw [h]
    exact ⟨by simp [BitVec.ule], by simp [BitVec.ult]⟩

theorem gateCall_same {s : State} {sel : Word} {g d : Desc} (hg : s.gateFor sel g 4 = true)
    (h : (s.afterLookup sel).sameCode g.gateSel g.gateOffset d = true) (hroom : s.stackRoom 4 = true) :
    (gateCall sel g).run (s.afterLookup sel) =
      .ok () (((((s.afterLookup sel).afterLookup g.gateSel).pushed s.cs.sel).pushed s.ip).enterCode g.gateSel d s.cpl
        g.gateOffset) := by
  obtain ⟨-, -, -, usable⟩ := gateFor_cases hg
  obtain ⟨notNull, found, code, privilege, present, inside⟩ := sameCode_cases h
  obtain ⟨level, notInner⟩ := codeAt_level privilege
  unfold gateCall
  dsimp only
  rw [run_bind_ok usable, require_ok _ _ notNull, lookup_bind _ found, run_get_bind, afterLookup_cpl,
    require_ok _ _ code, require_ok _ _ level, require_ok _ _ present, if_neg (Bool.eq_false_iff.mp notInner)]
  exact callSame_run (s := (s.afterLookup sel).afterLookup g.gateSel) g.gateSel hroom inside

/-! ### Through a call gate to an inner level -/

/-- What a stack segment for a level is. -/
theorem stackFor_cases {s : State} {sel : Word} {n : BitVec 2} {x : Desc} (h : s.stackFor sel n x = true) :
    (!selNull sel) = true ∧ s.descLookup sel = some x ∧ (selRpl sel == n) = true ∧ (x.dpl == n) = true ∧
      (x.isData && x.writable) = true ∧ x.present = true := by
  simpa [State.stackFor, and_assoc] using h

/-- The stack that the TSS holds for an inner level (43_control_transfer.md R384). -/
theorem innerStack_run {s : State} {n : BitVec 2} {x : Desc} {bytes : Nat} (ext : Word)
    (h : s.innerStackOk n x bytes = true) :
    (innerStack n ext).run s = .ok (s.tssSS n, s.tssSP n, x) (s.innerRead n) ∧
      (x.cache (s.tssSS n)).room (s.tssSP n) bytes = true := by
  simp only [State.innerStackOk, Bool.and_eq_true] at h
  obtain ⟨⟨⟨valid, inTss⟩, stack⟩, room⟩ := h
  refine ⟨?_, room⟩
  obtain ⟨notNull, found, rpl, dpl, kind, present⟩ := stackFor_cases stack
  have reads : ∀ f : Word → Word → M (Word × Word × Desc),
      (load16 (s.tr.base + 2 + 4 * n.setWidth 24) >>= fun sp => load16 (s.tr.base + 4 + 4 * n.setWidth 24) >>= f sp).run s =
        (f (s.tssSP n) (s.tssSS n)).run (s.afterWords (s.tssAddrs n)) := fun f => rfl
  unfold innerStack
  rw [run_get_bind, require_ok _ _ (by rw [valid, inTss]; rfl), reads, require_ok _ _ notNull,
    lookup_bind _ found, require_ok _ _ rpl, require_ok _ _ dpl, require_ok _ _ kind, require_ok _ _ present]
  rfl

/-- The parameters can be read if each of them can. -/
theorem paramsOk_of_stkOk {s : State} {c : Nat} (h : ∀ k < c, s.stkOk (BitVec.ofNat 16 (2 * k)) = true) :
    s.paramsOk c = true := by
  induction c with
  | zero => rfl
  | succ c ih =>
    show (s.paramsOk c && s.stkOk (BitVec.ofNat 16 (2 * c))) = true
    rw [ih fun k hk => h k (by omega), h c (by omega)]
    rfl

theorem paramAddrs_length (s : State) (c : Nat) : (s.paramAddrs c).length = c := by
  simp [State.paramAddrs]

/-- The frame of a call gate: the old SS:SP, the parameters and the return address. -/
theorem pushGateFrame_run {s : State} {ss sp cs ip : Word} {ws : List Word} (h : s.pushesOk (ws.length + 2 + 1 + 1) = true) :
    (do push16 ss; push16 sp; pushWords ws; push16 cs; push16 ip; flush : M Unit).run s =
      .ok () { ((ws.foldr (fun p t => t.pushed p) ((s.pushed ss).pushed sp)).pushed cs).pushed ip with stale := [] } := by
  have h3 := pushesOk_pushed ss h
  obtain ⟨copy, h2⟩ := pushWords_run (pushesOk_pushed sp h3)
  rw [push16_bind _ _ h, push16_bind _ _ h3, run_bind_ok copy, push16_bind _ _ h2,
    push16_bind _ _ (pushesOk_pushed _ h2)]
  rfl

/-- The inner stack and the code segment entered, in `t`, before anything is pushed. -/
def State.innerEntered (s t : State) (sel off : Word) (d x : Desc) : State :=
  (t.enterStack (s.tssSS d.dpl) x (s.tssSP d.dpl)).enterCode sel d d.dpl off

theorem enterInner_eq (s t : State) (sel off : Word) (d x : Desc) :
    s.enterInner t sel off d x = ((s.innerEntered t sel off d x).pushed s.ss.sel).pushed s.gpr.sp := rfl

theorem innerEntered_bind {α : Type} (s t : State) (sel off : Word) (d x : Desc) (f : Unit → M α) :
    (commitStack (s.tssSS d.dpl) x (s.tssSP d.dpl) >>= fun _ => loadCS sel d d.dpl off >>= f).run t =
      (f ()).run (s.innerEntered t sel off d x) := rfl

theorem innerEntered_pushesOk {s t : State} {sel off : Word} {d x : Desc} {n : Nat}
    (room : (x.cache (s.tssSS d.dpl)).room (s.tssSP d.dpl) (2 * n) = true) :
    (s.innerEntered t sel off d x).pushesOk n = true := pushesOk_of_stackRoom room

/-- A call gate to an inner level: the parameters are read, and pushed on the inner stack (43_control_transfer.md R380).
`retCS` and `retIP` are the return address, and `params` is where the parameters stand. -/
theorem gateCallInner_run {s : State} {cs : Word} {g d x : Desc} {retCS retIP : Word} {params : List PhysAddr}
    (hstack : s.innerStackOk d.dpl x (8 + 2 * g.gateCount.toNat) = true)
    (inside : g.gateOffset.toNat ≤ d.limit.toNat)
    (hparams : ∀ k < g.gateCount.toNat, s.stkOk (BitVec.ofNat 16 (2 * k)) = true) (hcs : s.cs.sel = retCS)
    (hip : s.ip = retIP) (haddrs : s.paramAddrs g.gateCount.toNat = params) :
    let inner := s.innerRead d.dpl
    let t := s.enterInner (inner.afterWords params) cs g.gateOffset d x
    let copied := (inner.words params).foldr (fun p t => t.pushed p) t
    (gateCallInner cs g d).run s = .ok () { (copied.pushed retCS).pushed retIP with stale := [] } := by
  intro inner t copied
  subst hcs hip haddrs
  obtain ⟨stack, room⟩ := innerStack_run 0 hstack
  have count : (inner.words (s.paramAddrs g.gateCount.toNat)).length = g.gateCount.toNat :=
    (words_length inner _).trans (paramAddrs_length s _)
  have bytes : 8 + 2 * g.gateCount.toNat =
      2 * ((inner.words (s.paramAddrs g.gateCount.toNat)).length + 2 + 1 + 1) := by omega
  have fits : (s.innerEntered (inner.afterWords (s.paramAddrs g.gateCount.toNat)) cs g.gateOffset d x).pushesOk
      ((inner.words (s.paramAddrs g.gateCount.toNat)).length + 2 + 1 + 1) = true :=
    innerEntered_pushesOk (bytes ▸ room)
  unfold gateCallInner
  rw [run_bind_ok stack]
  dsimp only
  rw [require_ok _ _ room, require_ok _ _ (decide_eq_true inside), run_get_bind,
    require_ok _ _ (paramsOk_of_stkOk (s := inner) hparams), run_bind_ok (loadWords_run _ _),
    innerEntered_bind]
  exact pushGateFrame_run (ss := s.ss.sel) (sp := s.gpr.sp) (cs := s.cs.sel) (ip := s.ip) fits

theorem gateCall_inner {s : State} {sel : Word} {g d : Desc} (hg : s.gateFor sel g 4 = true)
    (h : (s.afterLookup sel).innerCode g.gateSel g.gateOffset d = true) :
    (gateCall sel g).run (s.afterLookup sel) =
      (gateCallInner g.gateSel g d).run ((s.afterLookup sel).afterLookup g.gateSel) ∧
    g.gateOffset.toNat ≤ d.limit.toNat := by
  obtain ⟨-, -, -, usable⟩ := gateFor_cases hg
  simp only [State.innerCode, Bool.and_eq_true, beq_iff_eq, decide_eq_true_eq] at h
  obtain ⟨⟨⟨⟨⟨⟨notNull, found⟩, code⟩, notConforming⟩, inner⟩, present⟩, inside⟩ := h
  refine ⟨?_, inside⟩
  have level : d.dpl.ule (s.afterLookup sel).cpl = true := by
    simp only [BitVec.ult, BitVec.ule, decide_eq_true_eq] at inner ⊢
    exact Nat.le_of_lt inner
  unfold gateCall
  dsimp only
  rw [run_bind_ok usable, require_ok _ _ notNull, lookup_bind _ found, run_get_bind, afterLookup_cpl,
    require_ok _ _ code, require_ok _ _ level, require_ok _ _ present, if_pos (by rw [notConforming]; exact inner)]

/-! ### Returns -/

/-- The code segment of a return (43_control_transfer.md R383, R391). -/
theorem returnCode_bind {α : Type} {s : State} {rs : Word} {rpl : BitVec 2} {d : Desc} (f : Desc → M α)
    (notNull : (!selNull rs) = true) (hd : s.descLookup rs = some d) (code : d.isCode = true)
    (privilege : d.codeAt rpl = true) (present : d.present = true) :
    (returnCode rs rpl >>= f).run s = (f d).run (s.afterLookup rs) := by
  refine run_bind_ok ?_
  unfold returnCode
  rw [require_ok _ _ notNull, lookup_bind _ hd, require_ok _ _ code, require_ok _ _ privilege,
    require_ok _ _ present]
  rfl

/-- The stack segment of a return to an outer level. -/
theorem returnStack_bind {α : Type} {s : State} {nss : Word} {rpl : BitVec 2} {x : Desc} (f : Desc → M α)
    (h : s.stackFor nss rpl x = true) : (returnStack nss rpl >>= f).run s = (f x).run (s.afterLookup nss) := by
  obtain ⟨notNull, found, level, dpl, kind, present⟩ := stackFor_cases h
  refine run_bind_ok ?_
  unfold returnStack
  rw [require_ok _ _ notNull, lookup_bind _ found, require_ok _ _ level, require_ok _ _ kind, require_ok _ _ dpl,
    require_ok _ _ present]
  rfl

theorem returnOk_cases {s : State} {rs off : Word} {d : Desc} (h : s.returnOk rs off d = true) :
    (!selNull rs) = true ∧ selRpl rs = s.cpl ∧ d.isCode = true ∧ d.codeAt s.cpl = true ∧ d.present = true ∧
      off.toNat ≤ d.limit.toNat := by
  simpa [State.returnOk, and_assoc] using h

theorem outerCode_cases {s : State} {rs off : Word} {d : Desc} (h : s.outerCode rs off d = true) :
    (!selNull rs) = true ∧ s.cpl.ult (selRpl rs) = true ∧ d.isCode = true ∧ d.codeAt (selRpl rs) = true ∧
      d.present = true ∧ off.toNat ≤ d.limit.toNat := by
  simpa only [State.outerCode, Bool.and_eq_true, decide_eq_true_eq, and_assoc] using h

/-- A return to the same level is not to an inner one; nor is one to an outer level, which is another level. -/
theorem not_ult_of_eq {a b : BitVec 2} (h : a = b) : (!a.ult b) = true := by simp [h, BitVec.ult]

theorem outer_level {a b : BitVec 2} (h : a.ult b = true) : (!b.ult a) = true ∧ ¬b = a := by
  simp only [BitVec.ult, decide_eq_true_eq] at h
  refine ⟨by simp only [BitVec.ult]; simpa using Nat.le_of_lt h, fun e => ?_⟩
  rw [e] at h
  exact absurd h (Nat.lt_irrefl _)

theorem retFar_prot {s : State} (imm : Word) (hpe : s.pe = true) : (retFar imm).run s = (farRet imm).run s := by
  unfold retFar
  rw [run_get_bind, if_pos hpe]

/-- RET far begins with CS of the return address, and goes on by its RPL (43_control_transfer.md R383). -/
theorem farRet_level {s : State} (imm : Word) (h2 : s.stkOk 2 = true)
    (level : (!(selRpl (s.stkWord 2)).ult s.cpl) = true) :
    (farRet imm).run s = (if selRpl (s.stkWord 2) = s.cpl then farRetSame (s.stkWord 2) imm
      else farRetOuter (s.stkWord 2) imm).run (s.afterStk 2) := by
  unfold farRet
  rw [run_get_bind, require_ok _ _ h2, stkRead_bind, require_ok _ _ level]

/-- So does IRET, with NT clear (43_control_transfer.md R391). -/
theorem iret_level {s : State} (hpe : s.pe = true) (hnt : s.flag .nt = false) (h2 : s.stkOk 2 = true)
    (level : (!(selRpl (s.stkWord 2)).ult s.cpl) = true) :
    iret.run s = (if selRpl (s.stkWord 2) = s.cpl then iretSame (s.stkWord 2) else iretOuter (s.stkWord 2)).run
      (s.afterStk 2) := by
  unfold iret
  rw [run_get_bind, hpe, Bool.not_true, if_neg Bool.false_ne_true, hnt, if_neg Bool.false_ne_true, require_ok _ _ h2,
    stkRead_bind, require_ok _ _ level]

/-- RET far to the same level: the state is that after CS has been read. -/
theorem farRetSame_run {s : State} {rs : Word} {d : Desc} (imm : Word) (h0 : s.stkOk 0 = true)
    (hd : s.descLookup rs = some d) (h : s.returnOk rs ((s.afterLookup rs).stkWord 0) d = true) :
    (farRetSame rs imm).run s = .ok () ((((s.afterLookup rs).afterStk 0).enterCode rs d s.cpl
      ((s.afterLookup rs).stkWord 0)).setReg16 .sp (s.gpr.sp + 4 + imm)) := by
  obtain ⟨notNull, -, code, privilege, present, inside⟩ := returnOk_cases h
  unfold farRetSame
  rw [run_get_bind, returnCode_bind _ notNull hd code privilege present, require_ok _ _ h0, stkRead_bind,
    require_ok _ _ (decide_eq_true inside)]
  rfl

theorem iretSame_run {s : State} {rs : Word} {d : Desc} (h0 : s.stkOk 0 = true) (h4 : s.stkOk 4 = true)
    (hd : s.descLookup rs = some d) (h : s.returnOk rs ((s.afterLookup rs).stkWord 0) d = true) :
    let v := (s.afterLookup rs).afterStk 0
    (iretSame rs).run s = .ok () { ((v.afterStk 4).enterCode rs d s.cpl ((s.afterLookup rs).stkWord 0)).setReg16 .sp
      (s.gpr.sp + 6) with flags := s.popFlags (v.stkWord 4), nmiMask := false } := by
  intro v
  obtain ⟨notNull, -, code, privilege, present, inside⟩ := returnOk_cases h
  unfold iretSame
  rw [run_get_bind, require_ok _ _ (by rw [h0, h4]; rfl), returnCode_bind _ notNull hd code privilege present,
    stkRead_bind, require_ok _ _ (decide_eq_true inside), stkRead_bind, run_bind_ok (loadCS_run _ _ _ _ _)]
  rfl

/-! ### Returns to an outer level -/

@[simp] theorem setSeg_self (s : State) (r : SegReg) : s.setSeg r (s.seg r) = s := by cases r <;> rfl

/-- The entry of a selector lies inside its table, if there is one (20_memory.md R102). -/
def State.inTable (s : State) (sel : Word) : Bool :=
  match s.tableOf sel with
  | none => false
  | some t => decide ((selOffset sel).toNat + 7 ≤ t.limit.toNat)

/-- A level may use the segment that a cache holds (43_control_transfer.md R385). -/
def State.usableAt (s : State) (cpl : BitVec 2) (c : SegCache) : Bool :=
  s.inTable c.sel && (c.ar.getLsbD 4 && (!c.ar.getLsbD 3 || c.ar.getLsbD 1)) &&
    ((c.ar.getLsbD 3 && c.ar.getLsbD 2) ||
      (cpl.ule (c.ar.extractLsb' 5 2) && (selRpl c.sel).ule (c.ar.extractLsb' 5 2)))

/-- A segment register made null. -/
def SegCache.nulled (c : SegCache) : SegCache := { c with sel := 0, ar := 0, valid := false }

theorem revalidate_cases (s : State) (r : SegReg) :
    s.revalidate r = if (!(s.seg r).valid) = true then s else if s.usableAt s.cpl (s.seg r) = true then s
      else s.setSeg r (s.seg r).nulled := rfl

theorem kept_cases (s : State) (cpl : BitVec 2) (c : SegCache) :
    s.kept cpl c = if (!c.valid || s.usableAt cpl c) = true then c else c.nulled := by
  unfold State.usableAt
  rw [← Bool.and_assoc]
  rfl

/-- Revalidate(S): the register keeps its segment if the new level may use it (43_control_transfer.md R385). -/
theorem revalidate_eq (s : State) (r : SegReg) : s.revalidate r = s.setSeg r (s.kept s.cpl (s.seg r)) := by
  rw [revalidate_cases, kept_cases]
  cases (s.seg r).valid with
  | false => exact (setSeg_self s r).symm
  | true =>
    cases s.usableAt s.cpl (s.seg r) with
    | false => rfl
    | true => exact (setSeg_self s r).symm

theorem revalidate_data (s : State) :
    (s.revalidate .ds).revalidate .es = { s with ds := s.kept s.cpl s.ds, es := s.kept s.cpl s.es } := by
  rw [revalidate_eq, revalidate_eq]
  rfl

/-- What a level may use depends on the descriptor tables alone. -/
theorem kept_congr {s t : State} (hgdt : t.gdtr = s.gdtr) (hldt : t.ldtr = s.ldtr) (cpl : BitVec 2) (c : SegCache) :
    t.kept cpl c = s.kept cpl c := by
  unfold State.kept State.tableOf
  rw [hgdt, hldt]

/-- A return to an outer level, once all of it has been read in `s`: DS and ES are revalidated after CS and SS are
loaded. -/
theorem returnOuter_eq (s : State) (rs off : Word) (d : Desc) (nss : Word) (x : Desc) (sp : Word) :
    let t := (s.enterCode rs d (selRpl rs) off).enterStack nss x sp
    (t.revalidate .ds).revalidate .es = s.returnOuter rs off d nss x sp := by
  intro t
  have same : ∀ cpl c, t.kept cpl c = s.kept cpl c := kept_congr rfl rfl
  rw [revalidate_data, same, same]
  rfl

theorem flush_flags (s : State) (f : FlagsReg) :
    flush.run { s with flags := f, nmiMask := false } =
      .ok () { s with stale := [], flags := f, nmiMask := false } := rfl

/-- IRET has loaded FLAGS before SS: this does not matter to the rest. -/
theorem returnOuter_flags (s : State) (rs off : Word) (d : Desc) (nss : Word) (x : Desc) (sp : Word) (f : FlagsReg) :
    let t := { s.enterCode rs d (selRpl rs) off with flags := f, nmiMask := false }.enterStack nss x sp
    (t.revalidate .ds).revalidate .es = { s.returnOuter rs off d nss x sp with flags := f, nmiMask := false } := by
  intro t
  have same : ∀ cpl c, t.kept cpl c = s.kept cpl c := kept_congr rfl rfl
  rw [revalidate_data, same, same]
  rfl

/-- RET far to an outer level, whose stack pointer and selector stand `4 + imm` bytes above the top of the stack
(43_control_transfer.md R383). -/
theorem farRetOuter_run {s : State} {rs : Word} {d x : Desc} (imm : Word) (hd : s.descLookup rs = some d)
    (h0 : s.stkOk 0 = true) (hsp : s.stkOk (4 + imm) = true) (hss : s.stkOk (6 + imm) = true) :
    let u := s.afterLookup rs
    let nss := (u.afterStk (4 + imm)).stkWord (6 + imm)
    let p := (u.afterStk (4 + imm)).afterStk (6 + imm)
    let q := p.afterLookup nss
    s.outerCode rs (q.stkWord 0) d = true → p.stackFor nss (selRpl rs) x = true →
    (farRetOuter rs imm).run s =
      .ok () { (q.afterStk 0).returnOuter rs (q.stkWord 0) d nss x (u.stkWord (4 + imm) + imm) with stale := [] } := by
  intro u nss p q hcode hstack
  obtain ⟨notNull, -, code, privilege, present, inside⟩ := outerCode_cases hcode
  unfold farRetOuter
  dsimp only
  rw [run_get_bind, require_ok _ _ (by rw [h0, hsp, hss]; rfl), returnCode_bind _ notNull hd code privilege present,
    stkRead_bind, stkRead_bind, returnStack_bind _ hstack, stkRead_bind, require_ok _ _ (decide_eq_true inside),
    run_bind_ok (loadCS_run _ _ _ _ _), run_bind_ok (commitStack_run _ _ _ _), run_modify_bind, returnOuter_eq]
  rfl

theorem iretOuter_run {s : State} {rs : Word} {d x : Desc} (hd : s.descLookup rs = some d)
    (h0 : s.stkOk 0 = true) (h4 : s.stkOk 4 = true) (h6 : s.stkOk 6 = true) (h8 : s.stkOk 8 = true) :
    let u := s.afterLookup rs
    let nss := (u.afterStk 6).stkWord 8
    let p := (u.afterStk 6).afterStk 8
    let q := p.afterLookup nss
    let v := q.afterStk 0
    s.outerCode rs (q.stkWord 0) d = true → p.stackFor nss (selRpl rs) x = true →
    (iretOuter rs).run s =
      .ok () { (v.afterStk 4).returnOuter rs (q.stkWord 0) d nss x (u.stkWord 6) with
        stale := [], flags := s.popFlags (v.stkWord 4), nmiMask := false } := by
  intro u nss p q v hcode hstack
  obtain ⟨notNull, -, code, privilege, present, inside⟩ := outerCode_cases hcode
  unfold iretOuter
  dsimp only
  rw [run_get_bind, require_ok _ _ (by rw [h0, h4, h6, h8]; rfl), returnCode_bind _ notNull hd code privilege present,
    stkRead_bind, stkRead_bind, returnStack_bind _ hstack, stkRead_bind, require_ok _ _ (decide_eq_true inside),
    stkRead_bind, run_bind_ok (loadCS_run _ _ _ _ _), run_modify_bind, run_bind_ok (commitStack_run _ _ _ _),
    run_modify_bind, returnOuter_flags]
  exact flush_flags _ _

/-! ### RET far and IRET: CS of the return address is read first, and its RPL says where the return leads -/

theorem retFar_same {s : State} {d : Desc} (imm : Word) (hpe : s.pe = true) (h0 : s.stkOk 0 = true)
    (h2 : s.stkOk 2 = true) :
    let rs := s.stkWord 2
    let u := (s.afterStk 2).afterLookup rs
    (s.afterStk 2).descLookup rs = some d → s.returnOk rs (u.stkWord 0) d = true →
    (retFar imm).run s =
      .ok () (((u.afterStk 0).enterCode rs d s.cpl (u.stkWord 0)).setReg16 .sp (s.gpr.sp + 4 + imm)) := by
  intro rs u hd h
  obtain ⟨-, level, -⟩ := returnOk_cases h
  rw [retFar_prot imm hpe, farRet_level imm h2 (not_ult_of_eq level), if_pos level]
  exact farRetSame_run (s := s.afterStk 2) imm h0 hd h

theorem iret_same {s : State} {d : Desc} (hpe : s.pe = true) (hnt : s.flag .nt = false) (h0 : s.stkOk 0 = true)
    (h2 : s.stkOk 2 = true) (h4 : s.stkOk 4 = true) :
    let rs := s.stkWord 2
    let u := (s.afterStk 2).afterLookup rs
    let v := u.afterStk 0
    (s.afterStk 2).descLookup rs = some d → s.returnOk rs (u.stkWord 0) d = true →
    iret.run s = .ok () { ((v.afterStk 4).enterCode rs d s.cpl (u.stkWord 0)).setReg16 .sp (s.gpr.sp + 6) with
      flags := s.popFlags (v.stkWord 4), nmiMask := false } := by
  intro rs u v hd h
  obtain ⟨-, level, -⟩ := returnOk_cases h
  rw [iret_level hpe hnt h2 (not_ult_of_eq level), if_pos level]
  exact iretSame_run (s := s.afterStk 2) h0 h4 hd h

theorem retFar_outer {s : State} {d x : Desc} {imm : Word} (hpe : s.pe = true) (h0 : s.stkOk 0 = true)
    (h2 : s.stkOk 2 = true) (hsp : s.stkOk (4 + imm) = true) (hss : s.stkOk (4 + imm + 2) = true) :
    let rs := s.stkWord 2
    let u := (s.afterStk 2).afterLookup rs
    let nss := (u.afterStk (4 + imm)).stkWord (4 + imm + 2)
    let p := (u.afterStk (4 + imm)).afterStk (4 + imm + 2)
    let q := p.afterLookup nss
    (s.afterStk 2).descLookup rs = some d → s.outerCode rs (q.stkWord 0) d = true →
    p.stackFor nss (selRpl rs) x = true →
    (retFar imm).run s =
      .ok () { (q.afterStk 0).returnOuter rs (q.stkWord 0) d nss x (u.stkWord (4 + imm) + imm) with stale := [] } := by
  have next : 4 + imm + 2 = 6 + imm := by bv_omega
  rw [next] at hss ⊢
  intro rs u nss p q hd hcode hstack
  obtain ⟨-, outer, -⟩ := outerCode_cases hcode
  obtain ⟨level, other⟩ := outer_level outer
  rw [retFar_prot imm hpe, farRet_level imm h2 level, if_neg other]
  exact farRetOuter_run (s := s.afterStk 2) imm hd h0 hsp hss hcode hstack

theorem iret_outer {s : State} {d x : Desc} (hpe : s.pe = true) (hnt : s.flag .nt = false) (h0 : s.stkOk 0 = true)
    (h2 : s.stkOk 2 = true) (h4 : s.stkOk 4 = true) (h6 : s.stkOk 6 = true) (h8 : s.stkOk 8 = true) :
    let rs := s.stkWord 2
    let u := (s.afterStk 2).afterLookup rs
    let nss := (u.afterStk 6).stkWord 8
    let p := (u.afterStk 6).afterStk 8
    let q := p.afterLookup nss
    let v := q.afterStk 0
    (s.afterStk 2).descLookup rs = some d → s.outerCode rs (q.stkWord 0) d = true →
    p.stackFor nss (selRpl rs) x = true →
    iret.run s = .ok () { (v.afterStk 4).returnOuter rs (q.stkWord 0) d nss x (u.stkWord 6) with
      stale := [], flags := s.popFlags (v.stkWord 4), nmiMask := false } := by
  intro rs u nss p q v hd hcode hstack
  obtain ⟨-, outer, -⟩ := outerCode_cases hcode
  obtain ⟨level, other⟩ := outer_level outer
  rw [iret_level hpe hnt h2 level, if_neg other]
  exact iretOuter_run (s := s.afterStk 2) hd h0 h4 h6 h8 hcode hstack

end Sys2Proof.Machine

open Sys2Proof Sys2Proof.Machine

/-- Settles O37. A transfer runs in the state after its target has been read, which differs from `s` in the traces of reads
alone; a return begins with the selector above the top of the stack. -/
theorem farTransfersProtected : Obligations.FarTransfersProtected := by
  intro s d hl hpe
  refine ⟨fun i sel off u hd hcode => ⟨fun h => ?_, fun h hroom => ?_⟩,
    fun i sel off u g hg => ⟨fun hsame => ⟨fun h => ?_, fun h hroom => ?_⟩, fun x h hinner hstack hparams => ?_⟩,
    fun h0 h2 => ?_⟩
  · obtain ⟨as, rfl⟩ := h.read
    exact h.completes_prot hl hpe (farJmp_code hd hcode)
  · obtain ⟨as, rfl⟩ := h.read
    exact h.completes_prot hl hpe (farCall_code (s := s.afterWords as) hd hcode hroom)
  · obtain ⟨as, rfl⟩ := h.read
    exact h.completes_prot hl hpe ((farJmp_gate off hg).trans (gateJmp_run hg hsame))
  · obtain ⟨as, rfl⟩ := h.read
    exact h.completes_prot hl hpe ((farCall_gate off hg).trans
      (gateCall_same (s := s.afterWords as) hg hsame hroom))
  · obtain ⟨as, rfl⟩ := h.read
    obtain ⟨inner, inside⟩ := gateCall_inner hg hinner
    have run := gateCallInner_run (s := ((s.afterWords as).afterLookup sel).afterLookup g.gateSel) (cs := g.gateSel)
      (retCS := s.cs.sel) (retIP := s.ip) (params := s.paramAddrs g.gateCount.toNat) hstack inside hparams rfl rfl rfl
    exact h.completes_prot hl hpe ((farCall_gate off hg).trans (inner.trans run))
  · intro rs u hd
    refine ⟨fun hret => ⟨?_, fun imm => exec_completes rfl hl (retFar_same imm hpe h0 h2 hd hret),
      fun h4 hnt => exec_completes rfl hl (iret_same hpe hnt h0 h2 h4 hd hret)⟩, ?_⟩
    · have run := retFar_same 0 hpe h0 h2 hd hret
      rw [add_zero] at run
      exact exec_completes rfl hl run
    · intro x k nsp nss p q off v hcode hstack hk hk2
      refine ⟨fun imm hi => ?_, fun hi => ?_, fun hi h4 hnt => ?_⟩ <;> subst hi
      · exact exec_completes rfl hl (retFar_outer hpe h0 h2 hk hk2 hd hcode hstack)
      · have run := retFar_outer (imm := 0) hpe h0 h2 hk hk2 hd hcode hstack
        rw [add_zero, add_zero] at run
        exact exec_completes rfl hl run
      · exact exec_completes rfl hl (iret_outer hpe hnt h0 h2 h4 hk hk2 hd hcode hstack)

end

section
/-! SUPPORT. How a task switch runs, and what leads to one (43_control_transfer.md R381, R382, R391 to R394; 60_exceptions.md
R750). -/

namespace Sys2Proof.Machine

/-! ### The steps of a switch -/

/-- The steps of a switch whose tests pass, one after the other. -/
theorem taskEntered_cases {s t : State} {kind : SwitchKind} {sel ip : Word} {n : Desc}
    (h : s.taskEntered kind sel n ip = some t) :
    (s.tr.valid && decide (43 ≤ s.tr.limit.toNat)) = true ∧ 43 ≤ n.limit.toNat ∧
      ∃ ldt stack code ds es, (s.switched kind sel n ip).taskLdt = some ldt ∧ ldt.taskStack = some stack ∧
        stack.taskCode = some code ∧ code.taskData .ds = some ds ∧ ds.taskData .es = some es ∧
        es.ip.toNat ≤ es.cs.limit.toNat ∧ t = { es with stale := [] } := by
  unfold State.taskEntered at h
  split at h
  · rename_i tests
    rw [Bool.and_eq_true, decide_eq_true_eq] at tests
    simp only [Option.bind_eq_bind, Option.bind_eq_some_iff] at h
    obtain ⟨ldt, hldt, stack, hstack, code, hcode, ds, hds, es, hes, last⟩ := h
    split at last
    · rename_i inside
      exact ⟨tests.1, tests.2, ldt, stack, code, ds, es, hldt, hstack, hcode, hds, hes, inside,
        (Option.some.inj last).symm⟩
    · exact absurd last nofun
  · exact absurd h nofun

theorem switchLDT_run {s t : State} (h : s.taskLdt = some t) : switchLDT.run s = .ok () t := by
  unfold State.taskLdt at h
  unfold switchLDT
  rw [run_get_bind]
  dsimp only
  cases hnull : selNull s.ldtr.sel with
  | true =>
    rw [hnull, if_pos rfl] at h
    exact congrArg (EStateM.Result.ok ()) (Option.some.inj h)
  | false =>
    rw [hnull, if_neg Bool.false_ne_true] at h
    cases hd : s.descLookup s.ldtr.sel with
    | none => rw [hd] at h; exact absurd h nofun
    | some d =>
      simp only [hd, Option.ite_none_right_eq_some, Bool.and_eq_true] at h
      obtain ⟨⟨⟨global, control⟩, present⟩, last⟩ := h
      rw [if_neg Bool.false_ne_true, require_ok _ _ global, lookup_bind _ hd, require_ok _ _ control,
        require_ok _ _ present]
      exact congrArg (EStateM.Result.ok ()) (Option.some.inj last)

theorem switchSS_run {s t : State} (h : s.taskStack = some t) : switchSS.run s = .ok () t := by
  unfold State.taskStack at h
  cases hd : s.descLookup s.ss.sel with
  | none => rw [hd] at h; exact absurd h nofun
  | some d =>
    simp only [hd, Option.ite_none_right_eq_some] at h
    obtain ⟨stack, last⟩ := h
    obtain ⟨notNull, -, rpl, dpl, kind, present⟩ := stackFor_cases stack
    have found : { s with cpl := selRpl s.cs.sel }.descLookup s.ss.sel = some d := hd
    unfold switchSS
    rw [run_modify_bind, run_get_bind, require_ok _ _ notNull, lookup_bind _ found, require_ok _ _ rpl,
      require_ok _ _ dpl, require_ok _ _ kind, require_ok _ _ present]
    exact congrArg (EStateM.Result.ok ()) (Option.some.inj last)

theorem switchCS_run {s t : State} (h : s.taskCode = some t) : switchCS.run s = .ok () t := by
  unfold State.taskCode at h
  cases hd : s.descLookup s.cs.sel with
  | none => rw [hd] at h; exact absurd h nofun
  | some d =>
    simp only [hd, Option.ite_none_right_eq_some, Bool.and_eq_true] at h
    obtain ⟨⟨⟨⟨notNull, code⟩, privilege⟩, present⟩, last⟩ := h
    unfold switchCS
    rw [run_get_bind, require_ok _ _ notNull, lookup_bind _ hd, require_ok _ _ code, require_ok _ _ privilege,
      require_ok _ _ present]
    exact congrArg (EStateM.Result.ok ()) (Option.some.inj last)

theorem switchData_run {s t : State} {r : SegReg} (h : s.taskData r = some t) : (switchData r).run s = .ok () t := by
  unfold State.taskData at h
  unfold switchData
  rw [run_get_bind]
  dsimp only
  cases hnull : selNull (s.seg r).sel with
  | true =>
    rw [hnull, if_pos rfl] at h
    exact congrArg (EStateM.Result.ok ()) (Option.some.inj h)
  | false =>
    rw [hnull, if_neg Bool.false_ne_true] at h
    cases hd : s.descLookup (s.seg r).sel with
    | none => rw [hd] at h; exact absurd h nofun
    | some d =>
      simp only [hd, Option.ite_none_right_eq_some] at h
      obtain ⟨tests, last⟩ := h
      rw [Bool.and_eq_true, Bool.and_eq_true] at tests
      obtain ⟨⟨kind, access⟩, present⟩ := tests
      rw [if_neg Bool.false_ne_true, lookup_bind _ hd, require_ok _ _ kind, require_ok _ _ access,
        require_ok _ _ present]
      exact congrArg (EStateM.Result.ok ()) (Option.some.inj last)

/-! ### The switch -/

/-- SwitchTasks when every test passes (43_control_transfer.md R392). -/
theorem switchTasks_run {s t : State} {kind : SwitchKind} {sel ip : Word} {n : Desc}
    (h : s.taskEntered kind sel n ip = some t) :
    (switchTasks sel n kind ip).run s = .ok () t ∧ t.ip.toNat ≤ t.cs.limit.toNat := by
  obtain ⟨old, new, ldt, stack, code, ds, es, hldt, hstack, hcode, hds, hes, inside, rfl⟩ := taskEntered_cases h
  refine ⟨?_, inside⟩
  unfold switchTasks
  rw [run_modify_bind, run_get_bind, setMem8_tr, require_ok _ _ old, require_ok _ _ (decide_eq_true new), run_modify_bind,
    run_bind_ok (loadWords_run _ _), run_modify_bind]
  exact (run_bind_ok (switchLDT_run hldt)).trans <| (run_bind_ok (switchSS_run hstack)).trans <|
    (run_bind_ok (switchCS_run hcode)).trans <| (run_bind_ok (switchData_run hds)).trans <|
    run_bind_ok (switchData_run hes)

/-- The new IP is in the new code segment. -/
theorem checkNewIP_run {s : State} (ext : Word) (h : s.ip.toNat ≤ s.cs.limit.toNat) :
    (checkNewIP ext).run s = .ok () s := by
  unfold checkNewIP
  rw [run_get_bind, decide_eq_true h]
  rfl

/-- A switch and the test of the new IP. -/
theorem switchTasks_checked {s t : State} {kind : SwitchKind} {sel ip : Word} {n : Desc} (ext : Word)
    (h : s.taskEntered kind sel n ip = some t) :
    (switchTasks sel n kind ip >>= fun _ => checkNewIP ext).run s = .ok () t := by
  obtain ⟨run, inside⟩ := switchTasks_run h
  exact (run_bind_ok run).trans (checkNewIP_run ext inside)

/-! ### JMP and CALL -/

/-- What a TSS is that a switch may lead to. -/
theorem tssFor_cases {s : State} {sel : Word} {n : Desc} {t : BitVec 4} (h : s.tssFor sel n t = true) :
    (!selLocal sel) = true ∧ s.descLookup sel = some n ∧ n.isControl t = true ∧ n.present = true := by
  simpa [State.tssFor, and_assoc] using h

theorem availableTss_bind {α : Type} {s : State} {sel : Word} {n : Desc} (ext : Word) (f : Desc → M α)
    (h : s.tssFor sel n 1 = true) : (availableTss sel ext >>= f).run s = (f n).run (s.afterLookup sel) := by
  obtain ⟨global, found, control, present⟩ := tssFor_cases h
  refine run_bind_ok ?_
  unfold availableTss
  rw [require_ok _ _ global, lookup_bind _ found, require_ok _ _ control, require_ok _ _ present]
  rfl

/-- A switch to an available TSS that a JMP or CALL names itself (43_control_transfer.md R382). -/
theorem tssDirect_run {s t : State} {sel : Word} {n : Desc} (kind : SwitchKind) (hn : s.tssFor sel n 1 = true)
    (hcpl : s.cpl.toNat ≤ n.dpl.toNat) (hrpl : (selRpl sel).toNat ≤ n.dpl.toNat)
    (h : (s.afterLookup sel).taskEntered kind sel n s.ip = some t) :
    (tssDirect sel n kind).run (s.afterLookup sel) = .ok () t := by
  obtain ⟨global, -, control, present⟩ := tssFor_cases hn
  have type : (n.type == 1) = true := by
    rw [Desc.isControl, Bool.and_eq_true] at control
    exact control.2
  have privilege : (s.cpl.ule n.dpl && (selRpl sel).ule n.dpl) = true := by
    simp [BitVec.ule, hcpl, hrpl]
  unfold tssDirect
  rw [run_get_bind, require_ok _ _ global, afterLookup_cpl, require_ok _ _ privilege, require_ok _ _ type,
    require_ok _ _ present]
  exact switchTasks_checked 0 h

/-- A switch through a task gate (43_control_transfer.md R381). -/
theorem taskGate_run {s t : State} {sel : Word} {g n : Desc} (kind : SwitchKind) (hg : s.gateFor sel g 5 = true)
    (hn : (s.afterLookup sel).tssFor g.gateSel n 1 = true)
    (h : ((s.afterLookup sel).afterLookup g.gateSel).taskEntered kind g.gateSel n s.ip = some t) :
    (taskGate sel g kind).run (s.afterLookup sel) = .ok () t := by
  obtain ⟨-, -, -, usable⟩ := gateFor_cases hg
  unfold taskGate
  rw [run_bind_ok usable, availableTss_bind _ _ hn, run_get_bind]
  exact switchTasks_checked 0 h

/-- A far JMP to a system descriptor goes by its type (43_control_transfer.md R377). -/
theorem farJmp_system {s : State} {sel : Word} {d : Desc} {type : BitVec 4} (off : Word) (notNull : (!selNull sel) = true)
    (hd : s.descLookup sel = some d) (control : d.isControl type = true) :
    (farJmp sel off).run s = (if type = 4 then gateJmp sel d else if type = 5 then taskGate sel d .jmp
      else if type = 1 ∨ type = 3 then tssDirect sel d .jmp else raise (.gp (selError sel))).run (s.afterLookup sel) := by
  unfold farJmp
  rw [require_ok _ _ notNull, lookup_bind _ hd, run_get_bind,
    if_neg (Bool.eq_false_iff.mp (isCode_of_isControl control))]
  simp only [isControl_eq_of_isControl _ control, Bool.or_eq_true, beq_iff_eq]

theorem farCall_system {s : State} {sel : Word} {d : Desc} {type : BitVec 4} (off : Word) (notNull : (!selNull sel) = true)
    (hd : s.descLookup sel = some d) (control : d.isControl type = true) :
    (farCall sel off).run s = (if type = 4 then gateCall sel d else if type = 5 then taskGate sel d .call
      else if type = 1 ∨ type = 3 then tssDirect sel d .call else raise (.gp (selError sel))).run (s.afterLookup sel) := by
  unfold farCall
  rw [require_ok _ _ notNull, lookup_bind _ hd, if_neg (Bool.eq_false_iff.mp (isCode_of_isControl control))]
  simp only [isControl_eq_of_isControl _ control, Bool.or_eq_true, beq_iff_eq]

theorem farJmp_tss {s : State} {sel : Word} {n : Desc} (off : Word) (hnull : selNull sel = false)
    (hn : s.tssFor sel n 1 = true) : (farJmp sel off).run s = (tssDirect sel n .jmp).run (s.afterLookup sel) := by
  obtain ⟨-, found, control, -⟩ := tssFor_cases hn
  exact farJmp_system off (by rw [hnull]; rfl) found control

theorem farCall_tss {s : State} {sel : Word} {n : Desc} (off : Word) (hnull : selNull sel = false)
    (hn : s.tssFor sel n 1 = true) : (farCall sel off).run s = (tssDirect sel n .call).run (s.afterLookup sel) := by
  obtain ⟨-, found, control, -⟩ := tssFor_cases hn
  exact farCall_system off (by rw [hnull]; rfl) found control

theorem farJmp_taskGate {s : State} {sel : Word} {g : Desc} (off : Word) (hg : s.gateFor sel g 5 = true) :
    (farJmp sel off).run s = (taskGate sel g .jmp).run (s.afterLookup sel) := by
  obtain ⟨notNull, found, control, -⟩ := gateFor_cases hg
  exact farJmp_system off notNull found control

theorem farCall_taskGate {s : State} {sel : Word} {g : Desc} (off : Word) (hg : s.gateFor sel g 5 = true) :
    (farCall sel off).run s = (taskGate sel g .call).run (s.afterLookup sel) := by
  obtain ⟨notNull, found, control, -⟩ := gateFor_cases hg
  exact farCall_system off notNull found control

/-! ### Events through a task gate -/

theorem intTaskGate_run {s t : State} {g n : Desc} {ret : Word} (ext : Word) (hn : s.tssFor g.gateSel n 1 = true)
    (h : (s.afterLookup g.gateSel).taskEntered .int g.gateSel n ret = some t) :
    (intTaskGate g none ext ret).run s = .ok () t := by
  unfold intTaskGate
  rw [availableTss_bind _ _ hn]
  exact switchTasks_checked ext h

/-- The error code of a fault is pushed on the new task's stack (60_exceptions.md R750). -/
theorem intTaskGate_error {s t : State} {g n : Desc} {ret : Word} (ec ext : Word) (hn : s.tssFor g.gateSel n 1 = true)
    (h : (s.afterLookup g.gateSel).taskEntered .int g.gateSel n ret = some t) (hroom : t.stackRoom 2 = true) :
    (intTaskGate g (some ec) ext ret).run s = .ok () (t.pushed ec) := by
  obtain ⟨run, inside⟩ := switchTasks_run h
  have push : (push16 ec).run t = .ok () (t.pushed ec) :=
    push16_pushOk ec (pushOk_of_pushesOk (pushesOk_of_stackRoom (n := 1) hroom))
  unfold intTaskGate
  rw [availableTss_bind _ _ hn, run_bind_ok run]
  dsimp only
  rw [run_get_bind, require_ok _ _ hroom, run_bind_ok push]
  exact checkNewIP_run ext inside

/-- What a vector with a task gate is that an event may use. -/
theorem taskGateOk_cases {s : State} {v : Byte} {software : Bool} {n : Desc} (h : s.taskGateOk v software n = true) :
    8 * v.toNat + 7 ≤ s.idtr.limit.toNat ∧ (s.gate v).isControl 5 = true ∧
      (!(software && (s.gate v).dpl.ult s.cpl)) = true ∧ (s.gate v).present = true ∧
      (s.gateRead v).tssFor (s.gate v).gateSel n 1 = true := by
  simpa only [State.taskGateOk, Bool.and_eq_true, decide_eq_true_eq, and_assoc] using h

/-- An event through a task gate, in the state after the gate has been read (60_exceptions.md R747). -/
theorem deliverProt_taskGate {s : State} {v : Byte} {kind : EventKind} {n : Desc} (ec : Option Word)
    (h : s.taskGateOk v (kind == .software) n = true) :
    (deliverProt v kind ec).run s = (intTaskGate (s.gate v) ec kind.ext (s.retIP kind)).run (s.gateRead v) := by
  obtain ⟨inTable, control, privilege, present, -⟩ := taskGateOk_cases h
  rw [Desc.isControl, Bool.and_eq_true, beq_iff_eq] at control
  obtain ⟨system, type⟩ := control
  unfold deliverProt
  dsimp only
  rw [run_get_bind, require_ok _ _ (decide_eq_true inTable), run_set_bind]
  show (require (!(s.gate v).segment &&
    ((s.gate v).type == 5 || (s.gate v).type == 6 || (s.gate v).type == 7)) _ >>= _).run _ = _
  rw [require_ok _ _ (by rw [system, type]; rfl)]
  show (require (!(kind == .software && (s.gate v).dpl.ult s.cpl)) _ >>= _).run _ = _
  rw [require_ok _ _ privilege]
  show (require (s.gate v).present _ >>= _).run _ = _
  rw [require_ok _ _ present]
  show (if (s.gate v).type = 5 then _ else _ : M Unit).run _ = _
  rw [if_pos type]
  rfl

/-- The delivery of INT in Protected Mode. -/
theorem deliver_software_prot {s t : State} {v : Byte} (hpe : s.pe = true)
    (h : (deliverProt v .software none).run s = .ok () t) : deliver v .software none s = t.delivered .software := by
  unfold deliver
  simp only [if_true, hpe, reduceCtorEq, if_false, h]

/-- The delivery of a fault in Protected Mode. -/
theorem deliver_fault_prot {s t : State} {v : Byte} {ec : Option Word} (hpe : s.pe = true)
    (h : (deliverProt v .fault ec).run s = .ok () t) : deliver v .fault ec s = t.delivered .fault := by
  have same : { s with curIP := s.retIP .fault } = s := rfl
  unfold deliver deliverFault
  simp only [reduceCtorEq, if_false, same, if_true, hpe, h]

/-- IRET with NT set: the switch to the task of the back link (43_control_transfer.md R391). -/
theorem iretTask_run {s t : State} {n : Desc} (hpe : s.pe = true) (hnt : s.flag .nt = true) (hvalid : s.tr.valid = true)
    (hlimit : 1 ≤ s.tr.limit.toNat) :
    let back := s.mem16 s.tr.base
    let u := s.after16 s.tr.base
    u.tssFor back n 3 = true → (u.afterLookup back).taskEntered .iret back n s.ip = some t → iret.run s = .ok () t := by
  intro back u hn h
  obtain ⟨global, found, control, present⟩ := tssFor_cases hn
  have either : (n.isControl 1 || n.isControl 3) = true := by rw [control, Bool.or_true]
  unfold iret
  rw [run_get_bind, hpe, Bool.not_true, if_neg Bool.false_ne_true, hnt, if_pos rfl]
  unfold iretTask
  rw [run_get_bind, require_ok _ _ (by rw [hvalid, decide_eq_true hlimit]; rfl), run_bind_ok (load16_run _ _),
    require_ok _ _ global, lookup_bind _ found, require_ok _ _ either, require_ok _ _ control, require_ok _ _ present]
  exact switchTasks_checked 0 h

end Sys2Proof.Machine

namespace Sys2Proof.Machine

/-! ### Stores to RAM -/

/-- From `s` to `t` only stores were made, to bytes of RAM in `A`: every other byte reads as before. -/
structure State.StoresIn (s t : State) (A : PhysAddr → Prop) : Prop where
  wf : Memory.wf t.mem = true
  map : t.memMap = s.memMap
  keeps : ∀ a, ¬A a → t.mem8 a = s.mem8 a

theorem kindAt_congr {s t : State} (h : t.memMap = s.memMap) (a : PhysAddr) : t.kindAt a = s.kindAt a := by
  unfold State.kindAt
  rw [h]

theorem State.StoresIn.refl {s : State} (h : Memory.wf s.mem = true) : s.StoresIn s fun _ => False := ⟨h, rfl, fun _ _ => rfl⟩

theorem State.StoresIn.trans {s t u : State} {A B : PhysAddr → Prop} (h : s.StoresIn t A) (k : t.StoresIn u B) :
    s.StoresIn u fun a => A a ∨ B a where
  wf := k.wf
  map := k.map.trans h.map
  keeps a ha := (k.keeps a fun hb => ha (.inr hb)).trans (h.keeps a fun hb => ha (.inl hb))

theorem State.StoresIn.mono {s t : State} {A B : PhysAddr → Prop} (h : s.StoresIn t A) (hab : ∀ a, A a → B a) :
    s.StoresIn t B := ⟨h.wf, h.map, fun a ha => h.keeps a fun hb => ha (hab a hb)⟩

theorem storesIn_setMem8 {s : State} {a : PhysAddr} (v : Byte) (hm : Memory.wf s.mem = true) (hr : s.kindAt a = .ram) :
    s.StoresIn (s.setMem8 a v) (· = a) :=
  ⟨setMem8_wf a v hm, rfl, fun _ hx => setMem8_mem8_ne v hm hx (.inr (outside_ram hr))⟩

theorem storesIn_setMem16 {s : State} {a : PhysAddr} (v : Word) (hm : Memory.wf s.mem = true) (hr : s.kindAt a = .ram)
    (hr1 : s.kindAt (a + 1) = .ram) : s.StoresIn (s.setMem16 a v) fun x => x = a ∨ x = a + 1 :=
  ⟨setMem16_wf a v hm, rfl, fun _ hx => setMem16_mem8_ne v hm (fun e => hx (.inl e)) (fun e => hx (.inr e))
    (.inr ⟨outside_ram hr, outside_ram hr1⟩)⟩

/-- A byte of RAM reads as what was stored there. -/
theorem setMem8_mem8_same {s : State} {a : PhysAddr} (v : Byte) (hm : Memory.wf s.mem = true) (hr : s.kindAt a = .ram) :
    (s.setMem8 a v).mem8 a = v := by
  rw [setMem8_mem8 a a v hm (outside_ram hr), if_pos ⟨rfl, hr⟩]

/-- A word of RAM neither of whose bytes was stored to. -/
theorem State.StoresIn.mem16 {s t : State} {A : PhysAddr → Prop} (h : s.StoresIn t A) {a : PhysAddr}
    (hr : s.kindAt a = .ram) (hr1 : s.kindAt (a + 1) = .ram) (ha : ¬A a) (ha1 : ¬A (a + 1)) : t.mem16 a = s.mem16 a := by
  have tr := (kindAt_congr h.map a).trans hr
  have tr1 := (kindAt_congr h.map (a + 1)).trans hr1
  rw [mem16_inside (outside_ram tr) (outside_ram tr1), mem16_inside (outside_ram hr) (outside_ram hr1), h.keeps a ha,
    h.keeps (a + 1) ha1]

/-- Words of RAM read one after the other: the reads leave no trace, so that the order does not matter. -/
theorem words_ram {s : State} {as : List PhysAddr} (h : ∀ a ∈ as, s.kindAt a = .ram ∧ s.kindAt (a + 1) = .ram) :
    s.afterWords as = s ∧ s.words as = as.map s.mem16 := by
  induction as with
  | nil => exact ⟨rfl, rfl⟩
  | cons a as ih =>
    obtain ⟨hr, hr1⟩ := h a List.mem_cons_self
    obtain ⟨after, read⟩ := ih fun b hb => h b (List.mem_cons_of_mem a hb)
    rw [afterWords_cons, words_cons, after16_inside (outside_ram hr) (outside_ram hr1), read]
    exact ⟨after, rfl⟩

/-! ### Words at ascending addresses -/

/-- Two offsets below 2^24 from one base are two addresses. -/
theorem offset_inj {b : PhysAddr} {j k : Nat} (hj : j < 2 ^ 24) (hk : k < 2 ^ 24)
    (h : b + BitVec.ofNat 24 j = b + BitVec.ofNat 24 k) : j = k := by
  have e := congrArg BitVec.toNat (add_left_cancel h)
  rwa [BitVec.toNat_ofNat, BitVec.toNat_ofNat, Nat.mod_eq_of_lt hj, Nat.mod_eq_of_lt hk] at e

theorem offset_succ (b : PhysAddr) (k : Nat) : b + BitVec.ofNat 24 k + 1 = b + BitVec.ofNat 24 (k + 1) := by
  rw [BitVec.ofNat_add, ← add_assoc]
  rfl

/-- Words stored one above the other, from offset `k` of a base on. -/
def State.storeWords (b : PhysAddr) : Nat → List Word → State → State
  | _, [], s => s
  | k, w :: ws, s => State.storeWords b (k + 2) ws (s.setMem16 (b + BitVec.ofNat 24 k) w)

theorem storeWords_cons (b : PhysAddr) (k : Nat) (w : Word) (ws : List Word) (s : State) :
    State.storeWords b k (w :: ws) s = State.storeWords b (k + 2) ws (s.setMem16 (b + BitVec.ofNat 24 k) w) := rfl

theorem storeWords_frame (b : PhysAddr) (k : Nat) (ws : List Word) (s : State) :
    (State.storeWords b k ws s).tr = s.tr ∧ (State.storeWords b k ws s).gdtr = s.gdtr ∧
      (State.storeWords b k ws s).memMap = s.memMap := by
  induction ws generalizing k s with
  | nil => exact ⟨rfl, rfl, rfl⟩
  | cons w ws ih =>
    rw [storeWords_cons]
    simpa only [setMem16_tr, setMem16_gdtr, setMem16_memMap] using ih (k + 2) (s.setMem16 (b + BitVec.ofNat 24 k) w)

theorem storeWords_storesIn {b : PhysAddr} {k : Nat} {ws : List Word} {s : State} (hm : Memory.wf s.mem = true)
    (hr : ∀ j, k ≤ j → j < k + 2 * ws.length → s.kindAt (b + BitVec.ofNat 24 j) = .ram) :
    s.StoresIn (State.storeWords b k ws s) fun a => ∃ j, k ≤ j ∧ j < k + 2 * ws.length ∧ a = b + BitVec.ofNat 24 j := by
  induction ws generalizing k s with
  | nil => exact (State.StoresIn.refl hm).mono nofun
  | cons w ws ih =>
    rw [List.length_cons] at hr
    have r0 := hr k (by omega) (by omega)
    have r1 := hr (k + 1) (by omega) (by omega)
    rw [← offset_succ] at r1
    have first := storesIn_setMem16 w hm r0 r1
    refine (first.trans (ih first.wf fun j hj hj' =>
      (kindAt_congr first.map _).trans (hr j (by omega) (by omega)))).mono ?_
    rw [List.length_cons]
    rintro a ((rfl | rfl) | ⟨j, hj, hj', rfl⟩)
    · exact ⟨k, by omega, by omega, rfl⟩
    · exact ⟨k + 1, by omega, by omega, offset_succ b k⟩
    · exact ⟨j, by omega, by omega, rfl⟩

theorem storeWords_mem16 {b : PhysAddr} {k : Nat} {ws : List Word} {s : State} (hm : Memory.wf s.mem = true)
    (hr : ∀ j, k ≤ j → j < k + 2 * ws.length → s.kindAt (b + BitVec.ofNat 24 j) = .ram) (hk : k + 2 * ws.length ≤ 2 ^ 24)
    {i : Nat} (hi : i < ws.length) : (State.storeWords b k ws s).mem16 (b + BitVec.ofNat 24 (k + 2 * i)) = ws[i] := by
  induction ws generalizing k s i with
  | nil => exact absurd hi (Nat.not_lt_zero i)
  | cons w ws ih =>
    rw [List.length_cons] at hr hk hi
    have r0 := hr k (by omega) (by omega)
    have r1 := hr (k + 1) (by omega) (by omega)
    rw [← offset_succ] at r1
    have rest : ∀ j, k + 2 ≤ j → j < k + 2 + 2 * ws.length →
        (s.setMem16 (b + BitVec.ofNat 24 k) w).kindAt (b + BitVec.ofNat 24 j) = .ram :=
      fun j hj hj' => (kindAt_congr (setMem16_memMap s _ w) _).trans (hr j (by omega) (by omega))
    have wf := setMem16_wf (b + BitVec.ofNat 24 k) w hm
    cases i with
    | zero =>
      have kept := storeWords_storesIn wf rest
      refine (kept.mem16 r0 r1 ?_ ?_).trans (setMem16_mem16 w hm r0 r1)
      · rintro ⟨j, hj, hj', e⟩
        have := offset_inj (by omega) (by omega) e
        omega
      · rintro ⟨j, hj, hj', e⟩
        rw [offset_succ] at e
        have := offset_inj (by omega) (by omega) e
        omega
    | succ i =>
      have next : k + 2 * (i + 1) = k + 2 + 2 * i := by omega
      rw [next]
      exact ih wf rest (by omega) (by omega)

/-! ### What a task switch leaves in memory -/

/-- The words that the old task leaves in its TSS, from offset 14 on. -/
def State.taskImage (s : State) (kind : SwitchKind) (ip : Word) : List Word :=
  [ip, (if kind = .iret then { s.flags with nt := false } else s.flags).word, s.gpr.ax, s.gpr.cx, s.gpr.dx, s.gpr.bx,
    s.gpr.sp, s.gpr.bp, s.gpr.si, s.gpr.di, s.es.sel, s.cs.sel, s.ss.sel, s.ds.sel]

theorem taskImage_length (s : State) (kind : SwitchKind) (ip : Word) : (s.taskImage kind ip).length = 14 := rfl

theorem saveTask_eq (s : State) (kind : SwitchKind) (ip : Word) :
    s.saveTask kind ip = State.storeWords s.tr.base 14 (s.taskImage kind ip) s := rfl

/-- A store before it changes nothing of what the old task saves. -/
theorem saveTask_setMem8 (s : State) (a : PhysAddr) (v : Byte) (kind : SwitchKind) (ip : Word) :
    (s.setMem8 a v).saveTask kind ip = State.storeWords s.tr.base 14 (s.taskImage kind ip) (s.setMem8 a v) :=
  saveTask_eq _ kind ip

theorem nesting_iff (kind : SwitchKind) : kind = .call ∨ kind = .int ↔ kind.nesting = true := by
  cases kind <;> simp [SwitchKind.nesting]

end Sys2Proof.Machine

namespace Sys2Proof.Machine

section Switch

variable {s : State} {n : Desc}

/-- Memory after steps 1, 4 and 5 of a switch: all that it stores before the new task is read. -/
def State.taskSaved (s : State) (kind : SwitchKind) (n : Desc) (ip : Word) : State :=
  ((s.setMem8 n.newRights (n.ar ||| 0x02)).saveTask kind ip).linkTask kind n

/-- The bytes that the old task's TSS gets. -/
def State.inOldTss (s : State) (a : PhysAddr) : Prop := ∃ j, 14 ≤ j ∧ j < 42 ∧ a = s.oldTss j

/-- The bytes of the back link, or of the old task's busy bit. -/
def State.inLink (s : State) (kind : SwitchKind) (n : Desc) (a : PhysAddr) : Prop :=
  if kind.nesting = true then a = n.newTss 0 ∨ a = n.newTss 1 else a = s.oldRights

/-- Step 4 of a switch, after step 1. -/
theorem saveTask_storesIn (v : Byte) (kind : SwitchKind) (ip : Word) (hm : Memory.wf s.mem = true) (h : s.tasksApart n) :
    (s.setMem8 n.newRights v).StoresIn ((s.setMem8 n.newRights v).saveTask kind ip) s.inOldTss := by
  obtain ⟨tss, -, newRam, -⟩ := h
  rw [saveTask_setMem8]
  refine (storeWords_storesIn (storesIn_setMem8 v hm newRam).wf fun j _ hj => ?_).mono fun a ha => ?_
  · rw [taskImage_length] at hj
    exact (tss j (by omega)).1
  · exact ha

theorem saveTask_words (v : Byte) (kind : SwitchKind) (ip : Word) (hm : Memory.wf s.mem = true) (h : s.tasksApart n)
    {i : Nat} (hi : i < (s.taskImage kind ip).length) :
    ((s.setMem8 n.newRights v).saveTask kind ip).mem16 (s.oldTss (14 + 2 * i)) = (s.taskImage kind ip)[i] := by
  obtain ⟨tss, -, newRam, -⟩ := h
  rw [saveTask_setMem8]
  refine storeWords_mem16 (storesIn_setMem8 v hm newRam).wf (fun j _ hj => ?_) ?_ hi
  · rw [taskImage_length] at hj
    exact (tss j (by omega)).1
  · rw [taskImage_length]
    decide

theorem linkTask_nesting {kind : SwitchKind} (hk : kind.nesting = true) :
    s.linkTask kind n = s.setMem16 (n.newTss 0) s.tr.sel := by
  unfold State.linkTask Desc.newTss
  rw [if_pos hk]
  exact congrArg (s.setMem16 · s.tr.sel) (BitVec.add_zero n.base).symm

theorem linkTask_release {kind : SwitchKind} (hk : kind.nesting = false) (hr : s.kindAt s.oldRights = .ram) :
    s.linkTask kind n = s.setMem8 s.oldRights (s.mem8 s.oldRights &&& 0xFD) := by
  unfold State.linkTask
  rw [if_neg (Bool.eq_false_iff.mp hk)]
  exact congrArg (fun t => t.setMem8 s.oldRights (s.mem8 s.oldRights &&& 0xFD)) (after8_inside (outside_ram hr))

theorem linkTask_release_mem8 {kind : SwitchKind} (hk : kind.nesting = false) (hm : Memory.wf s.mem = true)
    (hr : s.kindAt s.oldRights = .ram) : (s.linkTask kind n).mem8 s.oldRights = s.mem8 s.oldRights &&& 0xFD := by
  rw [linkTask_release hk hr]
  exact setMem8_mem8_same _ hm hr

/-- Step 5 of a switch. -/
theorem linkTask_storesIn (kind : SwitchKind) (hm : Memory.wf s.mem = true) (h : s.tasksApart n) :
    s.StoresIn (s.linkTask kind n) (s.inLink kind n) := by
  obtain ⟨tss, oldRam, -, -⟩ := h
  unfold State.inLink
  cases hk : kind.nesting with
  | true =>
    have ram0 := (tss 0 (by decide)).2.1
    have ram1 := (tss 1 (by decide)).2.1
    have one : n.newTss 0 + 1 = n.newTss 1 := offset_succ n.base 0
    rw [linkTask_nesting hk]
    refine (storesIn_setMem16 s.tr.sel hm ram0 (one ▸ ram1)).mono fun a ha => ?_
    rw [one] at ha
    simpa using ha
  | false =>
    rw [linkTask_release hk oldRam]
    exact (storesIn_setMem8 _ hm oldRam).mono fun a ha => by simpa using ha

/-- What is apart depends on the two tables and the map alone. -/
theorem tasksApart_congr {t : State} (htr : t.tr = s.tr) (hgdt : t.gdtr = s.gdtr) (hmap : t.memMap = s.memMap) :
    t.tasksApart n = s.tasksApart n ∧ ∀ kind, t.inLink kind n = s.inLink kind n := by
  unfold State.tasksApart State.inLink State.oldTss State.oldRights State.kindAt
  rw [htr, hgdt, hmap]
  exact ⟨rfl, fun _ => rfl⟩

theorem saveTask_frame (v : Byte) (kind : SwitchKind) (ip : Word) :
    ((s.setMem8 n.newRights v).saveTask kind ip).tr = s.tr ∧
      ((s.setMem8 n.newRights v).saveTask kind ip).gdtr = s.gdtr ∧
      ((s.setMem8 n.newRights v).saveTask kind ip).memMap = s.memMap := by
  rw [saveTask_setMem8]
  exact storeWords_frame _ _ _ _

end Switch

section Saved

variable {s : State} {n : Desc} (kind : SwitchKind) (ip : Word) (hm : Memory.wf s.mem = true) (h : s.tasksApart n)

include hm h

/-- The three stores of a switch, one after the other. -/
theorem taskSaved_storesIn :
    let v := n.ar ||| 0x02
    s.StoresIn (s.setMem8 n.newRights v) (· = n.newRights) ∧
      (s.setMem8 n.newRights v).StoresIn ((s.setMem8 n.newRights v).saveTask kind ip) s.inOldTss ∧
      ((s.setMem8 n.newRights v).saveTask kind ip).StoresIn (s.taskSaved kind n ip) (s.inLink kind n) := by
  intro v
  have save := saveTask_storesIn v kind ip hm h
  obtain ⟨htr, hgdt, hmap⟩ := saveTask_frame (s := s) (n := n) v kind ip
  obtain ⟨apart, link⟩ := tasksApart_congr (n := n) htr hgdt hmap
  have saved := linkTask_storesIn (n := n) kind save.wf (by rw [apart]; exact h)
  rw [link] at saved
  obtain ⟨-, -, newRam, -⟩ := h
  exact ⟨storesIn_setMem8 v hm newRam, save, saved⟩

/-- What a byte that is none of these reads. -/
theorem taskSaved_mem8 {a : PhysAddr} (hrights : a ≠ n.newRights) (hold : ¬s.inOldTss a) (hlink : ¬s.inLink kind n a) :
    (s.taskSaved kind n ip).mem8 a = s.mem8 a := by
  obtain ⟨rights, save, link⟩ := taskSaved_storesIn kind ip hm h
  rw [link.keeps a hlink, save.keeps a hold, rights.keeps a hrights]

end Saved

/-! ### Where the two tasks do not meet -/

section Apart

variable {s : State} {n : Desc} (h : s.tasksApart n)

include h

theorem oldRights_notIn : s.oldRights ≠ n.newRights ∧ ¬s.inOldTss s.oldRights := by
  obtain ⟨tss, -, -, rights⟩ := h
  refine ⟨rights, ?_⟩
  rintro ⟨j, -, hj, e⟩
  exact (tss j (by omega)).2.2.1 e.symm

theorem newRights_notIn (kind : SwitchKind) : ¬s.inOldTss n.newRights ∧ ¬s.inLink kind n n.newRights := by
  obtain ⟨tss, -, -, rights⟩ := h
  refine ⟨?_, ?_⟩
  · rintro ⟨j, -, hj, e⟩
    exact (tss j (by omega)).2.2.2.1 e.symm
  · unfold State.inLink
    split_ifs
    · rintro (e | e)
      · exact (tss 0 (by omega)).2.2.2.2.2.1 e.symm
      · exact (tss 1 (by omega)).2.2.2.2.2.1 e.symm
    · exact fun e => rights e.symm

/-- The new TSS is not stored to but for the back link. -/
theorem newTss_notIn {k : Nat} (hk : k < 44) : n.newTss k ≠ n.newRights ∧ ¬s.inOldTss (n.newTss k) := by
  obtain ⟨tss, -, -, -⟩ := h
  refine ⟨(tss k hk).2.2.2.2.2.1, ?_⟩
  rintro ⟨j, -, hj, e⟩
  exact (tss j (by omega)).2.2.2.2.2.2 k hk e.symm

theorem newTss_notInLink (kind : SwitchKind) {k : Nat} (hk2 : 2 ≤ k) (hk : k < 44) : ¬s.inLink kind n (n.newTss k) := by
  obtain ⟨tss, -, -, -⟩ := h
  unfold State.inLink
  split_ifs
  · rintro (e | e)
    · exact absurd (offset_inj (by omega) (by omega) e) (by omega)
    · exact absurd (offset_inj (by omega) (by omega) e) (by omega)
  · exact (tss k hk).2.2.2.2.1

theorem oldTss_notInLink (kind : SwitchKind) {k : Nat} (hk : k < 44) : ¬s.inLink kind n (s.oldTss k) := by
  obtain ⟨tss, -, -, -⟩ := h
  unfold State.inLink
  split_ifs
  · rintro (e | e)
    · exact (tss k hk).2.2.2.2.2.2 0 (by omega) e
    · exact (tss k hk).2.2.2.2.2.2 1 (by omega) e
  · exact (tss k hk).2.2.1

/-- The words of the two TSSs are RAM. -/
theorem tss_ram {k : Nat} (hk : k < 43) : s.kindAt (s.oldTss k) = .ram ∧ s.kindAt (s.oldTss k + 1) = .ram ∧
    s.kindAt (n.newTss k) = .ram ∧ s.kindAt (n.newTss k + 1) = .ram := by
  obtain ⟨tss, -, -, -⟩ := h
  obtain ⟨old, new, -⟩ := tss k (by omega)
  obtain ⟨old1, new1, -⟩ := tss (k + 1) (by omega)
  refine ⟨old, ?_, new, ?_⟩
  · rw [State.oldTss, offset_succ]
    exact old1
  · rw [Desc.newTss, offset_succ]
    exact new1

end Apart

/-! ### The memory of a task switch -/

section Saved

variable {s : State} {n : Desc} (kind : SwitchKind) (ip : Word) (hm : Memory.wf s.mem = true) (h : s.tasksApart n)

include hm h

theorem taskSaved_memMap : (s.taskSaved kind n ip).memMap = s.memMap := by
  obtain ⟨rights, save, link⟩ := taskSaved_storesIn kind ip hm h
  exact link.map.trans (save.map.trans rights.map)

/-- A word of the new TSS is as it was, unless it is the back link of a nesting switch. -/
theorem taskSaved_word {k : Nat} (hk : k < 43) (link : ¬s.inLink kind n (n.newTss k))
    (link1 : ¬s.inLink kind n (n.newTss (k + 1))) :
    (s.taskSaved kind n ip).mem16 (n.newTss k) = s.mem16 (n.newTss k) := by
  obtain ⟨-, -, ram, ram1⟩ := tss_ram h hk
  have map := taskSaved_memMap kind ip hm h
  obtain ⟨rights, old⟩ := newTss_notIn h (k := k) (by omega)
  obtain ⟨rights1, old1⟩ := newTss_notIn h (k := k + 1) (by omega)
  have next : n.newTss k + 1 = n.newTss (k + 1) := offset_succ n.base k
  rw [mem16_inside ((outside_congr map _).trans (outside_ram ram)) ((outside_congr map _).trans (outside_ram ram1)),
    mem16_inside (outside_ram ram) (outside_ram ram1), next, taskSaved_mem8 kind ip hm h rights old link,
    taskSaved_mem8 kind ip hm h rights1 old1 link1]

/-- The words of the new task, above the back link, are as they were. -/
theorem taskSaved_new {k : Nat} (hk2 : 2 ≤ k) (hk : k < 43) :
    (s.taskSaved kind n ip).mem16 (n.newTss k) = s.mem16 (n.newTss k) :=
  taskSaved_word kind ip hm h hk (newTss_notInLink h kind hk2 (by omega)) (newTss_notInLink h kind (by omega) (by omega))

/-- The old task's registers are in its TSS. -/
theorem taskSaved_old {i : Nat} (hi : i < (s.taskImage kind ip).length) :
    (s.taskSaved kind n ip).mem16 (s.oldTss (14 + 2 * i)) = (s.taskImage kind ip)[i] := by
  have word := saveTask_words (n.ar ||| 0x02) kind ip hm h hi
  rw [taskImage_length] at hi
  obtain ⟨rights, save, link⟩ := taskSaved_storesIn kind ip hm h
  obtain ⟨ram, ram1, -, -⟩ := tss_ram h (k := 14 + 2 * i) (by omega)
  have map := save.map.trans rights.map
  refine (link.mem16 ((kindAt_congr map _).trans ram) ((kindAt_congr map _).trans ram1)
    (oldTss_notInLink h kind (by omega)) ?_).trans word
  rw [State.oldTss, offset_succ]
  exact oldTss_notInLink h kind (by omega)

theorem taskSaved_image : [14, 16, 18, 20, 22, 24, 26, 28, 30, 32, 34, 36, 38, 40].map
    (fun k => (s.taskSaved kind n ip).mem16 (s.oldTss k)) = s.taskImage kind ip := by
  have offsets : [14, 16, 18, 20, 22, 24, 26, 28, 30, 32, 34, 36, 38, 40] = (List.range 14).map (14 + 2 * ·) := rfl
  rw [offsets, List.map_map]
  refine List.ext_getElem (by simp [taskImage_length]) fun i _ hi => ?_
  rw [List.getElem_map, List.getElem_range]
  exact taskSaved_old kind ip hm h hi

/-- The busy bit of the new task is set. -/
theorem taskSaved_newRights : (s.taskSaved kind n ip).mem8 n.newRights = n.ar ||| 0x02 := by
  obtain ⟨rights, save, link⟩ := taskSaved_storesIn kind ip hm h
  obtain ⟨old, inLink⟩ := newRights_notIn h kind
  rw [link.keeps _ inLink, save.keeps _ old]
  exact setMem8_mem8_same _ hm h.2.2.1

/-- The state before step 5. -/
theorem taskSaved_link_of : ∃ u : State, s.taskSaved kind n ip = u.linkTask kind n ∧
    s.StoresIn u (fun a => a = n.newRights ∨ s.inOldTss a) ∧ u.tr = s.tr ∧ u.oldRights = s.oldRights := by
  obtain ⟨rights, save, -⟩ := taskSaved_storesIn kind ip hm h
  obtain ⟨htr, hgdt, -⟩ := saveTask_frame (s := s) (n := n) (n.ar ||| 0x02) kind ip
  refine ⟨_, rfl, rights.trans save, htr, ?_⟩
  unfold State.oldRights
  rw [htr, hgdt]

/-- A nesting switch leaves the back link, and the old task busy. -/
theorem taskSaved_nests {kind : SwitchKind} (hk : kind.nesting = true) :
    (s.taskSaved kind n ip).mem16 (n.newTss 0) = s.tr.sel ∧
      (s.taskSaved kind n ip).mem8 s.oldRights = s.mem8 s.oldRights := by
  refine ⟨?_, ?_⟩
  · obtain ⟨u, e, stores, htr, -⟩ := taskSaved_link_of kind ip hm h
    obtain ⟨-, -, ram, ram1⟩ := tss_ram h (k := 0) (by decide)
    rw [e, linkTask_nesting hk, htr]
    exact setMem16_mem16 _ stores.wf ((kindAt_congr stores.map _).trans ram) ((kindAt_congr stores.map _).trans ram1)
  · obtain ⟨rights, old⟩ := oldRights_notIn h
    refine taskSaved_mem8 kind ip hm h rights old ?_
    unfold State.inLink
    rw [if_pos hk]
    obtain ⟨tss, -⟩ := h
    rintro (e | e)
    · exact (tss 0 (by decide)).2.2.2.2.1 e.symm
    · exact (tss 1 (by decide)).2.2.2.2.1 e.symm

/-- Another switch keeps the back link and clears the old task's busy bit. -/
theorem taskSaved_releases {kind : SwitchKind} (hk : kind.nesting = false) :
    (s.taskSaved kind n ip).mem16 (n.newTss 0) = s.mem16 (n.newTss 0) ∧
      (s.taskSaved kind n ip).mem8 s.oldRights = s.mem8 s.oldRights &&& 0xFD := by
  refine ⟨?_, ?_⟩
  · have link : ∀ k < 44, ¬s.inLink kind n (n.newTss k) := fun k hlt => by
      unfold State.inLink
      rw [if_neg (Bool.eq_false_iff.mp hk)]
      exact (h.1 k hlt).2.2.2.2.1
    exact taskSaved_word kind ip hm h (by decide) (link 0 (by decide)) (link 1 (by decide))
  · obtain ⟨u, e, stores, -, same⟩ := taskSaved_link_of kind ip hm h
    obtain ⟨rights, old⟩ := oldRights_notIn h
    have ram : u.kindAt u.oldRights = .ram := by
      rw [same]
      exact (kindAt_congr stores.map _).trans h.2.1
    have released := linkTask_release_mem8 (n := n) hk stores.wf ram
    rwa [same, stores.keeps _ (not_or.mpr ⟨rights, old⟩), ← e] at released

end Saved

end Sys2Proof.Machine

namespace Sys2Proof.Machine

/-! ### The new task's state -/

section Switched

variable {s : State} {n : Desc} (kind : SwitchKind) (sel ip : Word)

theorem taskWords_eq (b : PhysAddr) : taskWords b = (List.range 15).map fun i => b + BitVec.ofNat 24 (14 + 2 * i) := rfl

/-- The new task is entered from the words of its TSS as they were before the switch. -/
theorem switched_eq (hm : Memory.wf s.mem = true) (h : s.tasksApart n) :
    s.switched kind sel n ip = (s.taskSaved kind n ip).enterTask kind sel n ((taskWords n.base).map s.mem16) := by
  have map := taskSaved_memMap kind ip hm h
  have word : ∀ a ∈ taskWords n.base, ∃ k, 2 ≤ k ∧ k < 43 ∧ n.newTss k = a := by
    intro a ha
    rw [taskWords_eq, List.mem_map] at ha
    obtain ⟨i, hi, e⟩ := ha
    have := List.mem_range.mp hi
    exact ⟨14 + 2 * i, by omega, by omega, e⟩
  have ram : ∀ a ∈ taskWords n.base,
      (s.taskSaved kind n ip).kindAt a = .ram ∧ (s.taskSaved kind n ip).kindAt (a + 1) = .ram := by
    intro a ha
    obtain ⟨k, -, hk, rfl⟩ := word a ha
    obtain ⟨-, -, new, new1⟩ := tss_ram h hk
    exact ⟨(kindAt_congr map _).trans new, (kindAt_congr map _).trans new1⟩
  have held : (taskWords n.base).map (s.taskSaved kind n ip).mem16 = (taskWords n.base).map s.mem16 := by
    refine List.map_congr_left fun a ha => ?_
    obtain ⟨k, hk2, hk, rfl⟩ := word a ha
    exact taskSaved_new kind ip hm h hk2 hk
  obtain ⟨after, words⟩ := words_ram ram
  have entered : s.switched kind sel n ip = ((s.taskSaved kind n ip).afterWords (taskWords n.base)).enterTask kind sel n
      ((s.taskSaved kind n ip).words (taskWords n.base)) := rfl
  rw [entered, after, words, held]

/-- Memory after a switch is what its stores left. -/
theorem enterTask_mem (s : State) (n : Desc) (ws : List Word) :
    (s.enterTask kind sel n ws).mem8 = s.mem8 ∧ (s.enterTask kind sel n ws).mem16 = s.mem16 := ⟨rfl, rfl⟩

/-- The registers of the new task, from the words of its TSS. -/
theorem enterTask_registers (s : State) (n : Desc) (ws : List Word) :
    let t := s.enterTask kind sel n ws
    t.ip = wordAt ws 0 ∧ t.curIP = wordAt ws 0 ∧
      t.flags = { FlagsReg.ofWord (wordAt ws 1) with
        nt := if kind = .jmp then false else if kind = .iret then (wordAt ws 1).getLsbD 14 else true } ∧
      t.gpr = ⟨wordAt ws 2, wordAt ws 3, wordAt ws 4, wordAt ws 5, wordAt ws 6, wordAt ws 7, wordAt ws 8, wordAt ws 9⟩ ∧
      [t.es.sel, t.cs.sel, t.ss.sel, t.ds.sel, t.ldtr.sel] =
        [wordAt ws 10, wordAt ws 11, wordAt ws 12, wordAt ws 13, wordAt ws 14] := by
  refine ⟨rfl, rfl, ?_, rfl, rfl⟩
  cases kind <;> rfl

theorem linkTask_msw (s : State) (n : Desc) : (s.linkTask kind n).msw = s.msw := by
  unfold State.linkTask
  split_ifs <;> rfl

theorem storeWords_msw (b : PhysAddr) (k : Nat) (ws : List Word) (s : State) :
    (State.storeWords b k ws s).msw = s.msw := by
  induction ws generalizing k s with
  | nil => rfl
  | cons w ws ih => rw [storeWords_cons, ih, setMem16_msw]

theorem saveTask_msw (s : State) : (s.saveTask kind ip).msw = s.msw := by
  rw [saveTask_eq, storeWords_msw]

/-- Steps 6 and 8: TR is the new task's, and TS is set. -/
theorem switched_task (s : State) (n : Desc) :
    (s.switched kind sel n ip).tr = ⟨sel, n.base, n.limit, true⟩ ∧
      (s.switched kind sel n ip).msw = s.msw ||| 0x0008 := by
  have entered : (s.switched kind sel n ip).msw = withBit (s.taskSaved kind n ip).msw 3 true := rfl
  refine ⟨rfl, entered.trans ?_⟩
  unfold State.taskSaved
  rw [linkTask_msw, saveTask_msw, setMem8_msw]
  rfl

/-- The back link and the old task's busy bit, for the two sorts of switch. -/
theorem taskSaved_link (hm : Memory.wf s.mem = true) (h : s.tasksApart n) :
    (s.taskSaved kind n ip).mem16 (n.newTss 0) =
        (if kind = .call ∨ kind = .int then s.tr.sel else s.mem16 (n.newTss 0)) ∧
      (s.taskSaved kind n ip).mem8 s.oldRights =
        (if kind = .call ∨ kind = .int then s.mem8 s.oldRights else s.mem8 s.oldRights &&& 0xFD) := by
  split_ifs with hk <;> rw [nesting_iff] at hk
  · exact taskSaved_nests ip hm h hk
  · exact taskSaved_releases ip hm h (Bool.eq_false_iff.mpr hk)

theorem taskSaved_keeps (hm : Memory.wf s.mem = true) (h : s.tasksApart n) {a : PhysAddr} (new : a ≠ n.newRights)
    (old : a ≠ s.oldRights) (link : a ≠ n.newTss 0) (link1 : a ≠ n.newTss 1)
    (image : ∀ k < 42, 14 ≤ k → a ≠ s.oldTss k) : (s.taskSaved kind n ip).mem8 a = s.mem8 a := by
  refine taskSaved_mem8 kind ip hm h new ?_ ?_
  · rintro ⟨j, hj, hj', e⟩
    exact image j hj' hj e
  · unfold State.inLink
    split_ifs
    · exact not_or.mpr ⟨link, link1⟩
    · exact old

end Switched

end Sys2Proof.Machine

open Sys2Proof Sys2Proof.Machine

/-- Settles O12. Each way to a TSS is a run of `switchTasks`, whose stores lie in the old TSS, the two rights bytes and the
back link; none of them is in a word of the new TSS that the switch then reads. -/
theorem taskSwitches : Obligations.TaskSwitches := by
  intro s hl hpe
  refine ⟨fun i sel off u n t hnull hn hcpl hrpl => ⟨fun hj h => ?_, fun hc h => ?_⟩,
    fun i sel off u g n t hg hn => ⟨fun hj h => ?_, fun hc h => ?_⟩, fun v n t hg h => ?_, fun v n t hg h => ?_,
    fun n t hnt hvalid hlimit hn h => exec_completes rfl hl (iretTask_run hpe hnt hvalid hlimit hn h),
    fun kind sel n ip => ?_⟩
  · obtain ⟨as, rfl⟩ := hj.read
    exact hj.completes_prot hl hpe ((farJmp_tss (s := s.afterWords as) off hnull hn).trans
      (tssDirect_run (s := s.afterWords as) .jmp hn hcpl hrpl h))
  · obtain ⟨as, rfl⟩ := hc.read
    exact hc.completes_prot hl hpe ((farCall_tss (s := s.afterWords as) off hnull hn).trans
      (tssDirect_run (s := s.afterWords as) .call hn hcpl hrpl h))
  · obtain ⟨as, rfl⟩ := hj.read
    exact hj.completes_prot hl hpe ((farJmp_taskGate (s := s.afterWords as) off hg).trans
      (taskGate_run (s := s.afterWords as) .jmp hg hn h))
  · obtain ⟨as, rfl⟩ := hc.read
    exact hc.completes_prot hl hpe ((farCall_taskGate (s := s.afterWords as) off hg).trans
      (taskGate_run (s := s.afterWords as) .call hg hn h))
  · obtain ⟨-, -, -, -, tss⟩ := taskGateOk_cases hg
    have run := deliver_software_prot hpe ((deliverProt_taskGate (kind := .software) none hg).trans
      (intTaskGate_run (s := s.gateRead v) 0 tss h))
    refine ⟨exec_completes rfl hl (softInt_run run), fun hv => ?_, fun hv hof => ?_⟩
    · subst hv
      exact exec_completes rfl hl (softInt_run run)
    · subst hv
      exact exec_completes rfl hl ((intOnOverflow_run s).trans ((if_pos hof).trans (softInt_run run)))
  · obtain ⟨-, -, -, -, tss⟩ := taskGateOk_cases hg
    have reach := fun ec => deliverProt_taskGate (s := s) (kind := .fault) ec hg
    exact ⟨deliver_fault_prot hpe ((reach none).trans (intTaskGate_run (s := s.gateRead v) _ tss h)),
      fun ec hroom => deliver_fault_prot hpe ((reach (some ec)).trans
        (intTaskGate_error (s := s.gateRead v) ec _ tss h hroom))⟩
  · obtain ⟨tr, msw⟩ := switched_task kind sel ip s n
    refine ⟨tr, msw, fun hm h => ?_⟩
    rw [switched_eq kind sel ip hm h]
    obtain ⟨hip, hcur, hflags, hgpr, hsel⟩ :=
      enterTask_registers kind sel (s.taskSaved kind n ip) n ((taskWords n.base).map s.mem16)
    obtain ⟨mem8, mem16⟩ := enterTask_mem kind sel (s.taskSaved kind n ip) n ((taskWords n.base).map s.mem16)
    obtain ⟨link, busy⟩ := taskSaved_link kind ip hm h
    rw [mem8, mem16]
    exact ⟨taskSaved_image kind ip hm h, hip, hcur, hflags, hgpr, hsel, link, taskSaved_newRights kind ip hm h, busy,
      fun a new old link link1 image => taskSaved_keeps kind ip hm h new old link link1 image⟩

end


section
/-! SUPPORT. How one element of a string instruction runs, and what a repeat prefix makes of it (44_string.md R420 to
R437). -/

namespace Sys2Proof.Machine

/-! ### The repeat prefix -/

/-- The string instruction `i` as it is held between two iterations (44_string.md R435). -/
def State.held (s : State) (i : Instr) : Repetition := ⟨i, s.pfx, s.ip, s.ipPast⟩

/-! What an element does, to memory, registers, flags or ports, leaves what is held. -/

section Held
variable (s : State) (i : Instr)

@[simp] theorem after8_held (a : PhysAddr) : (s.after8 a).held i = s.held i := rfl
@[simp] theorem after16_held (a : PhysAddr) : (s.after16 a).held i = s.held i := rfl
@[simp] theorem setMem8_held (a : PhysAddr) (v : Byte) : (s.setMem8 a v).held i = s.held i := rfl
@[simp] theorem setMem16_held (a : PhysAddr) (v : Word) : (s.setMem16 a v).held i = s.held i := by
  simp [State.held]
@[simp] theorem setReg16_held (r : Reg16) (v : Word) : (s.setReg16 r v).held i = s.held i := rfl
@[simp] theorem setReg8_held (r : Reg8) (v : Byte) : (s.setReg8 r v).held i = s.held i :=
  setReg16_held s i _ _
@[simp] theorem advance_held (r : Reg16) (n : Word) : (s.advance r n).held i = s.held i :=
  setReg16_held s i r _
@[simp] theorem setStatus_held (f : StatusFlags) : (s.setStatus f).held i = s.held i := rfl
@[simp] theorem port_held (e : IoEvent) : (s.port e).held i = s.held i := rfl

@[simp] theorem portRead_held (p : Word) : (s.portRead p).held i = s.held i := by
  unfold State.portRead
  split_ifs <;> simp

@[simp] theorem portWritten_held (p v : Word) : (s.portWritten p v).held i = s.held i := by
  unfold State.portWritten
  split_ifs <;> simp

end Held

/-- One iteration, for an element that runs from `s` to `t` and leaves what is held as it was. -/
theorem repeated_run {i : Instr} {op : M Unit} {s t : State} (compare : Bool) (h : op.run s = .ok () t)
    (hheld : t.held i = s.held i) : (repeated i compare op).run s = .ok () (s.repeatedAfter i compare t) := by
  unfold repeated State.repeatedAfter
  rw [run_get_bind]
  cases s.pfx.rep with
  | none => exact h
  | some p =>
    dsimp only
    by_cases hcx : s.gpr.cx = 0
    · rw [if_pos hcx, if_pos hcx]
      rfl
    · rw [if_neg hcx, if_neg hcx, run_bind_ok h, run_modify_bind, run_get_bind, run_ite]
      simp only [Bool.or_eq_true, decide_eq_true_eq, Bool.and_eq_true, bne_iff_ne]
      split_ifs
      · rfl
      · rw [run_modify, ← show t.held i = ⟨i, s.pfx, s.ip, s.ipPast⟩ from hheld]
        rfl

/-- A string instruction completes when its element does. -/
theorem exec_repeated {i : Instr} {op : M Unit} {s t : State} {compare : Bool}
    (hi : exec i s = runInstr (repeated i compare op) s) (hl : s.lockOk = true) (h : op.run s = .ok () t)
    (hheld : t.held i = s.held i) : exec i s = .next (s.repeatedAfter i compare t).done :=
  exec_completes hi hl (repeated_run compare h hheld)

/-! ### References and ports that pass their checks, inside a longer rule -/

section Accesses
variable {α : Type} {s : State} {r : SegReg} {off : Word}

theorem checkRead_bind {n : Nat} (f : Unit → M α) (h : s.readOk r off n = true) :
    (checkRead r off n >>= f).run s = (f ()).run s := run_bind_ok ((checkRead_run r off n s).trans (if_pos h))

theorem checkWrite_bind {n : Nat} (f : Unit → M α) (h : s.writeOk r off n = true) :
    (checkWrite r off n >>= f).run s = (f ()).run s := run_bind_ok ((checkWrite_run r off n s).trans (if_pos h))

theorem readSeg8_bind (f : Byte → M α) (h : s.readOk r off 1 = true) : (readSeg8 r off >>= f).run s =
    (f (s.mem8 ((s.seg r).lin off))).run (s.after8 ((s.seg r).lin off)) :=
  run_bind_ok ((readSeg8_run r off s).trans (if_pos h))

theorem readSeg16_bind (f : Word → M α) (h : s.readOk r off 2 = true) : (readSeg16 r off >>= f).run s =
    (f (s.mem16 ((s.seg r).lin off))).run (s.after16 ((s.seg r).lin off)) :=
  run_bind_ok ((readSeg16_run r off s).trans (if_pos h))

theorem writeSeg8_bind (v : Byte) (f : Unit → M α) (h : s.writeOk r off 1 = true) :
    (writeSeg8 r off v >>= f).run s = (f ()).run (s.setMem8 ((s.seg r).lin off) v) :=
  run_bind_ok ((writeSeg8_run r off v s).trans (if_pos h))

theorem writeSeg16_bind (v : Word) (f : Unit → M α) (h : s.writeOk r off 2 = true) :
    (writeSeg16 r off v >>= f).run s = (f ()).run (s.setMem16 ((s.seg r).lin off) v) :=
  run_bind_ok ((writeSeg16_run r off v s).trans (if_pos h))

theorem ioPriv_bind (f : Unit → M α) (h : s.ioAllowed = true) : (ioPriv >>= f).run s = (f ()).run s :=
  run_bind_ok ((run_get_bind _ s).trans (by rw [h, require_true]))

end Accesses

/-! ### Ports (20_memory.md R130) -/

theorem splitPort_eq_oddPort (p : Word) : splitPort p = oddPort p := by
  unfold splitPort oddPort
  rw [getLsbD_zero_eq_decide_odd]
  simp

theorem ioRead8_run (p : Word) (s : State) :
    (ioRead8 p).run s = .ok (Config.ioRead s.io p false).lo (s.port (.read p false)) := rfl

theorem ioWrite8_run (p : Word) (v : Byte) (s : State) :
    (ioWrite8 p v).run s = .ok () (s.port (.write p false (v.setWidth 16))) := rfl

theorem ioRead16_run (p : Word) (s : State) : (ioRead16 p).run s = .ok (s.portWord p) (s.portRead p) := by
  unfold ioRead16 State.portWord State.portRead
  rw [splitPort_eq_oddPort, run_ite]
  split_ifs <;> rfl

theorem ioWrite16_run (p v : Word) (s : State) : (ioWrite16 p v).run s = .ok () (s.portWritten p v) := by
  unfold ioWrite16 State.portWritten
  rw [splitPort_eq_oddPort, run_ite]
  split_ifs <;> rfl

theorem portRead_es (p : Word) (s : State) : (s.portRead p).es = s.es := by
  unfold State.portRead
  split_ifs <;> rfl

theorem writeOk_portRead_es (p off : Word) (n : Nat) (s : State) :
    (s.portRead p).writeOk .es off n = s.writeOk .es off n := by
  unfold State.writeOk
  rw [show (s.portRead p).seg .es = s.seg .es from portRead_es p s]

/-! ### The elements (44_string.md R421 to R434) -/

section Elements
variable {s : State}

/-- Where the source element stands: SI in DS, or in the segment of an override (44_string.md R420). -/
def State.srcAddr (s : State) : PhysAddr := (s.seg s.dataSeg).lin s.gpr.si

/-- Where the destination element stands: DI in ES, which no override replaces (44_string.md R420). -/
def State.dstAddr (s : State) : PhysAddr := s.es.lin s.gpr.di

theorem movs8_run (hr : s.readOk s.dataSeg s.gpr.si 1 = true) (hw : s.writeOk .es s.gpr.di 1 = true) :
    movs8.run s =
      .ok () ((((s.after8 s.srcAddr).setMem8 s.dstAddr (s.mem8 s.srcAddr)).advance .si 1).advance .di 1) := by
  unfold movs8
  rw [run_get_bind, checkRead_bind _ hr, checkWrite_bind _ hw, readSeg8_bind _ hr]
  exact writeSeg8_bind (s := s.after8 s.srcAddr) _ _ hw

theorem movs16_run (hr : s.readOk s.dataSeg s.gpr.si 2 = true) (hw : s.writeOk .es s.gpr.di 2 = true) :
    movs16.run s =
      .ok () ((((s.after16 s.srcAddr).setMem16 s.dstAddr (s.mem16 s.srcAddr)).advance .si 2).advance .di 2) := by
  unfold movs16
  rw [run_get_bind, checkRead_bind _ hr, checkWrite_bind _ hw, readSeg16_bind _ hr]
  exact writeSeg16_bind (s := s.after16 s.srcAddr) _ _ hw

theorem cmps8_run (hr : s.readOk s.dataSeg s.gpr.si 1 = true) (hd : s.readOk .es s.gpr.di 1 = true) :
    cmps8.run s = .ok () (((((s.after8 s.srcAddr).after8 s.dstAddr).setStatus
      (subFlags (s.mem8 s.srcAddr) ((s.after8 s.srcAddr).mem8 s.dstAddr) false).2).advance .si 1).advance .di 1) := by
  unfold cmps8
  rw [run_get_bind, readSeg8_bind _ hr]
  exact readSeg8_bind (s := s.after8 s.srcAddr) _ hd

theorem cmps16_run (hr : s.readOk s.dataSeg s.gpr.si 2 = true) (hd : s.readOk .es s.gpr.di 2 = true) :
    cmps16.run s = .ok () (((((s.after16 s.srcAddr).after16 s.dstAddr).setStatus
      (subFlags (s.mem16 s.srcAddr) ((s.after16 s.srcAddr).mem16 s.dstAddr) false).2).advance .si 2).advance
        .di 2) := by
  unfold cmps16
  rw [run_get_bind, readSeg16_bind _ hr]
  exact readSeg16_bind (s := s.after16 s.srcAddr) _ hd

theorem scas8_run (hd : s.readOk .es s.gpr.di 1 = true) :
    scas8.run s = .ok () (((s.after8 s.dstAddr).setStatus
      (subFlags (s.reg8 .al) (s.mem8 s.dstAddr) false).2).advance .di 1) :=
  (run_get_bind _ s).trans (readSeg8_bind _ hd)

theorem scas16_run (hd : s.readOk .es s.gpr.di 2 = true) :
    scas16.run s = .ok () (((s.after16 s.dstAddr).setStatus
      (subFlags s.gpr.ax (s.mem16 s.dstAddr) false).2).advance .di 2) :=
  (run_get_bind _ s).trans (readSeg16_bind _ hd)

theorem lods8_run (hr : s.readOk s.dataSeg s.gpr.si 1 = true) :
    lods8.run s = .ok () (((s.after8 s.srcAddr).setReg8 .al (s.mem8 s.srcAddr)).advance .si 1) :=
  (run_get_bind _ s).trans (readSeg8_bind _ hr)

theorem lods16_run (hr : s.readOk s.dataSeg s.gpr.si 2 = true) :
    lods16.run s = .ok () (((s.after16 s.srcAddr).setReg16 .ax (s.mem16 s.srcAddr)).advance .si 2) :=
  (run_get_bind _ s).trans (readSeg16_bind _ hr)

theorem stos8_run (hw : s.writeOk .es s.gpr.di 1 = true) :
    stos8.run s = .ok () ((s.setMem8 s.dstAddr (s.reg8 .al)).advance .di 1) :=
  (run_get_bind _ s).trans (writeSeg8_bind _ _ hw)

theorem stos16_run (hw : s.writeOk .es s.gpr.di 2 = true) :
    stos16.run s = .ok () ((s.setMem16 s.dstAddr s.gpr.ax).advance .di 2) :=
  (run_get_bind _ s).trans (writeSeg16_bind _ _ hw)

theorem ins8_run (hp : s.ioAllowed = true) (hw : s.writeOk .es s.gpr.di 1 = true) :
    ins8.run s = .ok () (((s.port (.read s.gpr.dx false)).setMem8 s.dstAddr
      (Config.ioRead s.io s.gpr.dx false).lo).advance .di 1) := by
  unfold ins8
  rw [ioPriv_bind _ hp, run_get_bind, checkWrite_bind _ hw, run_bind_ok (ioRead8_run s.gpr.dx s)]
  exact writeSeg8_bind (s := s.port (.read s.gpr.dx false)) _ _ hw

theorem ins16_run (hp : s.ioAllowed = true) (hw : s.writeOk .es s.gpr.di 2 = true) :
    ins16.run s = .ok () (((s.portRead s.gpr.dx).setMem16 s.dstAddr (s.portWord s.gpr.dx)).advance .di 2) := by
  unfold ins16
  rw [ioPriv_bind _ hp, run_get_bind, checkWrite_bind _ hw, run_bind_ok (ioRead16_run s.gpr.dx s),
    writeSeg16_bind _ _ ((writeOk_portRead_es s.gpr.dx s.gpr.di 2 s).trans hw), run_modify,
    show (s.portRead s.gpr.dx).seg .es = s.es from portRead_es s.gpr.dx s]
  rfl

theorem outs8_run (hp : s.ioAllowed = true) (hr : s.readOk s.dataSeg s.gpr.si 1 = true) :
    outs8.run s = .ok () (((s.after8 s.srcAddr).port
      (.write s.gpr.dx false ((s.mem8 s.srcAddr).setWidth 16))).advance .si 1) := by
  unfold outs8
  rw [ioPriv_bind _ hp, run_get_bind, readSeg8_bind _ hr]
  exact run_bind_ok (ioWrite8_run s.gpr.dx _ _)

theorem outs16_run (hp : s.ioAllowed = true) (hr : s.readOk s.dataSeg s.gpr.si 2 = true) :
    outs16.run s = .ok () (((s.after16 s.srcAddr).portWritten s.gpr.dx (s.mem16 s.srcAddr)).advance .si 2) := by
  unfold outs16
  rw [ioPriv_bind _ hp, run_get_bind, readSeg16_bind _ hr]
  exact run_bind_ok (ioWrite16_run s.gpr.dx _ _)

end Elements

end Sys2Proof.Machine

open Sys2Proof Sys2Proof.Machine

/-- Settles O41: each element is a run of its rule, which leaves the prefixes, IP and its carry as they were, so
that what the repeat prefix then holds is the instruction as it began. -/
theorem stringElements : Obligations.StringElements := by
  intro s hl
  exact ⟨fun hr hw => exec_repeated rfl hl (movs8_run hr hw) (by simp),
    fun hr hw => exec_repeated rfl hl (movs16_run hr hw) (by simp),
    fun hr hd => exec_repeated rfl hl (cmps8_run hr hd) (by simp),
    fun hr hd => exec_repeated rfl hl (cmps16_run hr hd) (by simp),
    fun hd => exec_repeated rfl hl (scas8_run hd) (by simp), fun hd => exec_repeated rfl hl (scas16_run hd) (by simp),
    fun hr => exec_repeated rfl hl (lods8_run hr) (by simp), fun hr => exec_repeated rfl hl (lods16_run hr) (by simp),
    fun hw => exec_repeated rfl hl (stos8_run hw) (by simp), fun hw => exec_repeated rfl hl (stos16_run hw) (by simp),
    fun hp hw => exec_repeated rfl hl (ins8_run hp hw) (by simp),
    fun hp hw => exec_repeated rfl hl (ins16_run hp hw) (by simp),
    fun hp hr => exec_repeated rfl hl (outs8_run hp hr) (by simp),
    fun hp hr => exec_repeated rfl hl (outs16_run hp hr) (by simp)⟩

end

section
/-! SUPPORT. How the flag, I/O and processor-control instructions run, and what stops them without the I/O privilege
(45_flag_io_misc.md R450 to R466). -/

namespace Sys2Proof.Machine

/-! ### String indexes (44_string.md R420) -/

/-- An index register moves down if DF is set, and up if not. -/
theorem advance_reg16 (s : State) (r : Reg16) (k : Word) :
    (s.advance r k).reg16 r = if s.flag .df then s.reg16 r - k else s.reg16 r + k := by
  unfold State.advance
  rw [setReg16_reg16, if_pos rfl]

/-! ### With the I/O privilege -/

/-- The I/O privilege is all that a LOCK prefix asks for. -/
theorem lockOk_of_ioAllowed {s : State} (h : s.ioAllowed = true) : s.lockOk = true := by
  unfold State.lockOk
  rw [h, Bool.or_true]

theorem lockOk_of_no_lock {s : State} (h : s.pfx.lock = false) : s.lockOk = true := by
  unfold State.lockOk
  rw [h, Bool.not_false, Bool.true_or]

section Ports
variable {s : State}

theorem inByte_run (p : Word) (h : s.ioAllowed = true) : (inByte p).run s =
    .ok () ((s.port (.read p false)).setReg8 .al (Config.ioRead s.io p false).lo) := by
  unfold inByte
  rw [ioPriv_bind _ h, run_bind_ok (ioRead8_run p s), run_modify]

theorem inWord_run (p : Word) (h : s.ioAllowed = true) :
    (inWord p).run s = .ok () ((s.portRead p).setReg16 .ax (s.portWord p)) := by
  unfold inWord
  rw [ioPriv_bind _ h, run_bind_ok (ioRead16_run p s), run_modify]

theorem outByte_run (p : Word) (h : s.ioAllowed = true) :
    (outByte p).run s = .ok () (s.port (.write p false ((s.reg8 .al).setWidth 16))) := by
  unfold outByte
  rw [ioPriv_bind _ h, run_get_bind, ioWrite8_run]

theorem outWord_run (p : Word) (h : s.ioAllowed = true) :
    (outWord p).run s = .ok () (s.portWritten p s.gpr.ax) := by
  unfold outWord
  rw [ioPriv_bind _ h, run_get_bind, ioWrite16_run]

end Ports

/-- The port in DX (45_flag_io_misc.md R459, R461). -/
theorem withDx_run (f : Word → M Unit) (s : State) : (withDx f).run s = (f s.gpr.dx).run s := run_get_bind _ s

/-- STI (45_flag_io_misc.md R457, D27). -/
theorem enableInterrupts_run {s : State} (h : s.ioAllowed = true) : enableInterrupts.run s =
    .ok () { s.setFlag .if_ true with stiShadow := s.stiShadow || !s.flag .if_ } := by
  unfold enableInterrupts
  rw [ioPriv_bind _ h, run_modify]

/-! ### Without the I/O privilege -/

/-- A rule that tests the I/O privilege before anything else: without it, #GP(0) with nothing done
(45_flag_io_misc.md R450). -/
def Trusted (body : M Unit) : Prop := ∀ s : State, s.ioAllowed = false → body.run s = .error (.gp 0) s

namespace Trusted

theorem of_ioPriv (f : Unit → M Unit) : Trusted (ioPriv >>= f) := by
  intro s h
  have denied : ioPriv.run s = .error (.gp 0) s := (run_get_bind _ s).trans (by rw [h, require_false])
  exact run_bind_error denied

theorem withDx {f : Word → M Unit} (h : ∀ p, Trusted (f p)) : Trusted (withDx f) :=
  fun s hio => (withDx_run f s).trans (h _ s hio)

end Trusted

/-- Without a repeat prefix the element is all of the rule (44_string.md R435). -/
theorem repeated_none_run {i : Instr} {compare : Bool} {op : M Unit} {s : State} (h : s.pfx.rep = none) :
    (repeated i compare op).run s = op.run s := by
  unfold repeated
  rw [run_get_bind, h]

/-- LOCK without the I/O privilege raises #GP(0) before the instruction's own rule (45_flag_io_misc.md R466). -/
theorem runInstr_lock_denied {s : State} (body : M Unit) (hlock : s.pfx.lock = true) (h : s.ioAllowed = false) :
    runInstr body s = s.raises (.gp 0) := by
  unfold runInstr
  rw [require_bind, hlock, h]
  rfl

/-- A rule that ends in #GP(0) with nothing done does so under a LOCK prefix too: the same exception comes earlier. -/
theorem exec_denied {i : Instr} {body : M Unit} {s : State} (hi : exec i s = runInstr body s)
    (h : s.ioAllowed = false) (hb : body.run s = .error (.gp 0) s) : exec i s = s.raises (.gp 0) := by
  by_cases hlock : s.pfx.lock = true
  · exact hi.trans (runInstr_lock_denied body hlock h)
  · exact exec_raises hi (lockOk_of_no_lock (Bool.eq_false_iff.mpr hlock)) hb

theorem exec_trusted {i : Instr} {body : M Unit} {s : State} (hi : exec i s = runInstr body s)
    (h : s.ioAllowed = false) (hb : Trusted body) : exec i s = s.raises (.gp 0) :=
  exec_denied hi h (hb s h)

/-- A string instruction without a repeat prefix, of a trusted element. -/
theorem exec_trusted_element {i : Instr} {compare : Bool} {op : M Unit} {s : State}
    (hi : exec i s = runInstr (repeated i compare op) s) (h : s.ioAllowed = false) (hrep : s.pfx.rep = none)
    (hop : Trusted op) : exec i s = s.raises (.gp 0) :=
  exec_denied hi h ((repeated_none_run hrep).trans (hop s h))

/-- An instruction that is no prefix byte (30_encoding.md R182) runs a rule. -/
theorem exec_rule {i : Instr}
    (h : i ∉ [Instr.pfxEs, .pfxCs, .pfxSs, .pfxDs, .pfxLock, .pfxRepne, .pfxRep]) :
    ∃ body, ∀ s, exec i s = runInstr body s := by
  cases i
  case pfxEs | pfxCs | pfxSs | pfxDs | pfxLock | pfxRepne | pfxRep => exact absurd (by decide) h
  all_goals exact ⟨_, fun _ => rfl⟩

/-- POPF without the I/O privilege: IF and IOPL stay (40_data_movement.md R248). -/
theorem popFlags_denied {s : State} (h : s.ioAllowed = false) (w : Word) :
    s.popFlags w = { FlagsReg.ofWord w with iopl := s.iopl, if_ := s.flag .if_ } := by
  obtain ⟨hpe, hcpl⟩ : s.pe = true ∧ s.cpl.ule s.iopl = false := by simpa [State.ioAllowed] using h
  have outer : s.cpl ≠ 0 := by
    intro h0
    simp [h0, BitVec.ule] at hcpl
  rw [popFlags_eq, if_neg (by simp [hpe]), if_neg outer, if_neg (by simp [hcpl])]

/-! ### WAIT and HLT -/

/-- WAIT (45_flag_io_misc.md R465): #NM is tested before #MF. -/
theorem waitNpx_run (s : State) : waitNpx.run s =
    if (s.mp && s.ts) = true then .error .nm s
    else if (s.em || !s.npxError) = true then .ok () s else .error .mf s := by
  unfold waitNpx
  rw [run_get_bind, require_bind, require_run]
  cases s.mp && s.ts <;> rfl

/-- HLT with the privilege for it (45_flag_io_misc.md R463). -/
theorem halt_run {s : State} (h : s.pe = false ∨ s.cpl = 0) : halt.run s = .ok () { s with run := .halted } := by
  have privileged : (!s.pe || s.cpl == 0) = true := by simpa using h
  unfold halt
  rw [run_get_bind, require_bind, if_pos privileged, run_modify]

end Sys2Proof.Machine

open Sys2Proof Sys2Proof.Machine

/-- Settles O44: each rule tests the I/O privilege first, and the test that LOCK makes before every rule raises the same
exception; POPF by what it loads at such a level. -/
theorem ioPrivilege : Obligations.IoPrivilege := by
  intro s hio
  refine ⟨fun imm => ?_, fun hrep => ?_, fun hlock i hi => ?_, fun hlock hstack => ?_⟩
  · simp only [List.forall_mem_cons]
    exact ⟨exec_trusted rfl hio (.of_ioPriv _), exec_trusted rfl hio (.of_ioPriv _),
      exec_trusted rfl hio (.withDx fun _ => .of_ioPriv _), exec_trusted rfl hio (.withDx fun _ => .of_ioPriv _),
      exec_trusted rfl hio (.of_ioPriv _), exec_trusted rfl hio (.of_ioPriv _),
      exec_trusted rfl hio (.withDx fun _ => .of_ioPriv _), exec_trusted rfl hio (.withDx fun _ => .of_ioPriv _),
      exec_trusted rfl hio (.of_ioPriv _), exec_trusted rfl hio (.of_ioPriv _), List.forall_mem_nil _⟩
  · simp only [List.forall_mem_cons]
    exact ⟨exec_trusted_element rfl hio hrep (.of_ioPriv _), exec_trusted_element rfl hio hrep (.of_ioPriv _),
      exec_trusted_element rfl hio hrep (.of_ioPriv _), exec_trusted_element rfl hio hrep (.of_ioPriv _),
      List.forall_mem_nil _⟩
  · obtain ⟨body, hbody⟩ := exec_rule hi
    exact (hbody s).trans (runInstr_lock_denied body hlock hio)
  · refine ⟨_, exec_completes rfl (lockOk_of_no_lock hlock) (popFlagsWord_run hstack), ?_⟩
    rw [popFlags_denied hio]
    exact ⟨rfl, rfl, rfl⟩

/-- Settles O42: each is one update of a flag, and the law of that update gives the rest. -/
theorem flagControl : Obligations.FlagControl := by
  refine ⟨⟨rfl, rfl, rfl, rfl, rfl⟩, fun s hl => ⟨exec_completes rfl hl rfl, exec_completes rfl hl rfl,
    exec_completes rfl hl rfl, exec_completes rfl hl rfl, exec_completes rfl hl rfl, fun f b => ⟨?_, fun g hg => ?_, ?_⟩,
    fun r k => ⟨?_, ?_⟩⟩⟩
  · rw [setFlag_flag, if_pos rfl]
  · rw [setFlag_flag, if_neg hg]
  · exact setFlag_iopl s f b
  · simp [advance_reg16]
  · simp [advance_reg16]

/-- Settles O43: the rule of each instruction runs to its end once the I/O privilege is there, which is what LOCK asks
for too. -/
theorem ioAndInterruptFlag : Obligations.IoAndInterruptFlag := by
  intro s hio
  have hl : s.lockOk = true := lockOk_of_ioAllowed hio
  have dx : ∀ {f : Word → M Unit} {t : State}, (f s.gpr.dx).run s = .ok () t → (withDx f).run s = .ok () t :=
    (withDx_run _ s).trans
  exact ⟨fun imm => exec_completes rfl hl (inByte_run _ hio), fun imm => exec_completes rfl hl (inWord_run _ hio),
    exec_completes rfl hl (dx (inByte_run _ hio)), exec_completes rfl hl (dx (inWord_run _ hio)),
    fun imm => exec_completes rfl hl (outByte_run _ hio), fun imm => exec_completes rfl hl (outWord_run _ hio),
    exec_completes rfl hl (dx (outByte_run _ hio)), exec_completes rfl hl (dx (outWord_run _ hio)),
    exec_completes rfl hl (ioPriv_bind _ hio), exec_completes rfl hl (enableInterrupts_run hio)⟩

/-- Settles O45: WAIT by its two tests in their order; a prefix byte is what it adds to the prefixes. -/
theorem nopWaitHaltPrefixes : Obligations.NopWaitHaltPrefixes := by
  intro s
  refine ⟨fun hl => ⟨exec_completes rfl hl (run_pure () s), fun hnm hmf => exec_completes rfl hl ?_,
    fun hnm => exec_raises rfl hl ?_, fun hnm hem herr => exec_raises rfl hl ?_,
    fun hp => exec_completes rfl hl (halt_run hp)⟩, rfl, rfl, rfl, rfl, rfl, rfl, rfl⟩
  · rw [waitNpx_run, if_neg (Bool.eq_false_iff.mp hnm), if_pos hmf]
  · rw [waitNpx_run, if_pos hnm]
  · rw [waitNpx_run, if_neg (Bool.eq_false_iff.mp hnm), if_neg (by simp [hem, herr])]

end

section
/-! SUPPORT. How ENTER, LEAVE and BOUND run (46_extended.md R480 to R483). -/

namespace Sys2Proof.Machine

/-! ### ENTER's display -/

/-- The tests of the display words, one for each of them. -/
theorem displayOk_iff (s : State) (k : Nat) :
    s.displayOk k = true ↔ ∀ j < k, s.stackOk (s.gpr.bp - BitVec.ofNat 16 (2 * (j + 1))) 2 = true := by
  induction k with
  | zero => exact iff_of_true rfl fun j hj => absurd hj (Nat.not_lt_zero j)
  | succ k ih => rw [State.displayOk, Bool.and_eq_true, ih, Nat.forall_lt_succ_right]

theorem displayOk_pushed (s : State) (v : Word) (k : Nat) : (s.pushed v).displayOk k = s.displayOk k :=
  Bool.eq_iff_iff.mpr ((displayOk_iff _ k).trans (displayOk_iff s k).symm)

/-- The display word that is copied first. -/
theorem stackOk_of_displayOk {s : State} {k : Nat} (h : s.displayOk (k + 1) = true) :
    s.stackOk (s.gpr.bp - 2) 2 = true :=
  (displayOk_iff s _).mp h 0 k.succ_pos

/-- The display words that are left once BP has moved down to the first one. -/
theorem displayOk_of_bp_moved {s t : State} {k : Nat} (hbp : t.gpr.bp = s.gpr.bp - 2) (hss : t.ss = s.ss)
    (h : s.displayOk (k + 1) = true) : t.displayOk k = true := by
  rw [displayOk_iff] at h ⊢
  intro j hj
  have same : t.gpr.bp - BitVec.ofNat 16 (2 * (j + 1)) = s.gpr.bp - BitVec.ofNat 16 (2 * (j + 1 + 1)) := by
    rw [hbp]
    bv_omega
  rw [same, State.stackOk, hss]
  exact h (j + 1) (Nat.succ_lt_succ hj)

/-- One word of the display copied: BP moves down to it, it is read and pushed. -/
def State.displayedWord (s : State) : State :=
  ((s.setReg16 .bp (s.gpr.bp - 2)).after16 (s.ss.lin (s.gpr.bp - 2))).pushed (s.mem16 (s.ss.lin (s.gpr.bp - 2)))

theorem displayed_succ (k : Nat) (s : State) : State.displayed (k + 1) s = State.displayed k s.displayedWord := rfl

theorem displayedWord_pushesOk {s : State} {k : Nat} (h : s.pushesOk (k + 1) = true) :
    s.displayedWord.pushesOk k = true :=
  pushesOk_pushed (s := (s.setReg16 .bp (s.gpr.bp - 2)).after16 _) _ h

theorem copyDisplay_succ_run {s : State} {k n : Nat} (hr : s.ss.readable = true) (hp : s.pushesOk (n + 1) = true)
    (hd : s.stackOk (s.gpr.bp - 2) 2 = true) : (copyDisplay (k + 1)).run s = (copyDisplay k).run s.displayedWord := by
  have readable : (s.setReg16 .bp (s.gpr.bp - 2)).readOk .ss (s.gpr.bp - 2) 2 = true := by
    obtain ⟨valid, inside⟩ := Bool.and_eq_true_iff.mp hd
    exact Bool.and_eq_true_iff.mpr ⟨Bool.and_eq_true_iff.mpr ⟨valid, hr⟩, inside⟩
  rw [copyDisplay, run_modify_bind, run_get_bind]
  exact (readSeg16_bind _ readable).trans
    (push16_bind (s := (s.setReg16 .bp (s.gpr.bp - 2)).after16 _) _ _ hp)

/-- The display copied, word by word; `n` more words can be pushed after it. -/
theorem copyDisplay_run {s : State} {k n : Nat} (hr : s.ss.readable = true) (hp : s.pushesOk (k + n) = true)
    (hd : s.displayOk k = true) :
    (copyDisplay k).run s = .ok () (State.displayed k s) ∧ (State.displayed k s).pushesOk n = true := by
  induction k generalizing s with
  | zero => exact ⟨rfl, by rwa [Nat.zero_add] at hp⟩
  | succ k ih =>
    rw [Nat.add_right_comm] at hp
    rw [copyDisplay_succ_run hr hp (stackOk_of_displayOk hd), displayed_succ]
    exact ih (s := s.displayedWord) hr (displayedWord_pushesOk hp) (displayOk_of_bp_moved rfl rfl hd)

/-! ### ENTER -/

/-- What ENTER's pushes leave at a level: BP pushed, and above level 0 the display and the new frame pointer. -/
def State.framed (s : State) (level : Nat) : State :=
  if level = 0 then s.pushed s.gpr.bp
  else (State.displayed (level - 1) (s.pushed s.gpr.bp)).pushed (s.gpr.sp - 2)

theorem enter_run {s : State} {size : Word} {levelByte : Byte} {level : Nat} (hlevel : levelByte.toNat % 32 = level)
    (hr : s.ss.readable = true)
    (hroom : s.pe = true → s.stackRoom (2 * (if level = 0 then 1 else level + 1) + size.toNat) = true)
    (hp : s.pushesOk (if level = 0 then 1 else level + 1) = true) (hd : s.displayOk (level - 1) = true) :
    (enter size levelByte).run s = .ok ()
      (((s.framed level).setReg16 .bp (s.gpr.sp - 2)).setReg16 .sp ((s.framed level).gpr.sp - size)) := by
  have room : (!s.pe || s.stackRoom (2 * (if level = 0 then 1 else level + 1) + size.toNat)) = true := by
    rwa [Bool.or_eq_true, Bool.not_eq_true', ← Bool.not_eq_true, ← imp_iff_not_or]
  unfold enter
  simp only [hlevel]
  rw [run_get_bind, require_bind, if_pos room, require_bind, if_pos hd]
  cases level with
  | zero => exact push16_bind _ _ hp
  | succ k =>
    rw [if_neg k.succ_ne_zero] at hp
    obtain ⟨copied, last⟩ := copyDisplay_run (s := s.pushed s.gpr.bp) (n := 1) hr (pushesOk_pushed _ hp)
      ((displayOk_pushed s _ k).trans hd)
    rw [push16_bind _ _ hp, run_get_bind, run_ite, if_neg k.succ_ne_zero]
    exact (run_bind_ok copied).trans (push16_bind _ _ last)

/-! ### LEAVE and BOUND -/

theorem leaveFrame_run {s : State} (h : s.stackOk s.gpr.bp 2 = true) :
    leaveFrame.run s = .ok () (((s.after16 (s.ss.lin s.gpr.bp)).setReg16 .sp (s.gpr.bp + 2)).setReg16 .bp
      (s.mem16 (s.ss.lin s.gpr.bp))) := by
  unfold leaveFrame
  rw [run_get_bind, require_bind, if_pos h, run_bind_ok (load16_run _ s), run_modify]

/-- BOUND (46_extended.md R483): the signed comparisons with both limits. -/
theorem bound_run {s : State} (r : Reg16) {ea : Ea} (h : s.farReadOk ea = true) :
    (bound r ea).run s =
      if (s.farPointer ea).1.toInt ≤ (s.reg16 r).toInt ∧ (s.reg16 r).toInt ≤ (s.farPointer ea).2.toInt then
        .ok () (s.operandRead 2 ea)
      else .error .br (s.operandRead 2 ea) := by
  have same : (s.operandRead 2 ea).reg16 r = s.reg16 r := afterWords_reg16 s _ r
  unfold bound
  rw [run_bind_ok (rdPair_run h), run_get_bind, require_run, same]
  simp only [Bool.and_eq_true, BitVec.sle_iff_toInt_le]

/-- The exception of BOUND is a fault, without an error code (60_exceptions.md R775). -/
theorem raises_br (s : State) : s.raises .br = .next (deliver 5 .fault none s) := rfl

end Sys2Proof.Machine

open Sys2Proof Sys2Proof.Machine

/-- Settles O46: each rule runs to its end; ENTER by the induction on the words of the display, BOUND by its signed
comparisons. -/
theorem enterLeaveBound : Obligations.EnterLeaveBound := by
  intro s hl
  refine ⟨fun size levelByte hr hroom hp hd => ?_, fun h => exec_completes rfl hl (leaveFrame_run h), fun r ea h =>
    ⟨fun inside => exec_completes rfl hl ((bound_run r h).trans (if_pos inside)), fun outside => ?_⟩⟩
  · exact exec_completes rfl hl (enter_run rfl hr hroom hp hd)
  · exact (exec_raises rfl hl ((bound_run r h).trans (if_neg outside))).trans (raises_br _)

end

section
/-! SUPPORT. How the system control instructions run: the tests of mode and privilege, and the system registers
(47_system_control.md R490 to R502; 20_memory.md R154, R155). -/

namespace Sys2Proof.Machine

/-! ### Mode and privilege (47_system_control.md R490) -/

section Tests
variable {α : Type} {s : State}

theorem protectedOnly_denied (hpe : s.pe = false) (k : Unit → M α) :
    (protectedOnly >>= k).run s = .error .ud s := by
  refine run_bind_error ?_
  unfold protectedOnly
  rw [run_get_bind, hpe, require_false]

theorem privileged_bind (h : s.pe = false ∨ s.cpl = 0) (k : Unit → M α) :
    (privileged >>= k).run s = (k ()).run s := by
  have allowed : (!s.pe || s.cpl == 0) = true := by simpa using h
  refine run_bind_ok ?_
  unfold privileged
  rw [run_get_bind, allowed, require_true]

theorem privileged_denied (hpe : s.pe = true) (hcpl : s.cpl ≠ 0) (k : Unit → M α) :
    (privileged >>= k).run s = .error (.gp 0) s := by
  have denied : (!s.pe || s.cpl == 0) = false := by simpa [hpe] using hcpl
  refine run_bind_error ?_
  unfold privileged
  rw [run_get_bind, denied, require_false]

/-- An instruction that Real Address Mode does not recognize. -/
theorem exec_unrecognized {i : Instr} {k : Unit → M Unit} (hl : s.lockOk = true) (hpe : s.pe = false)
    (hi : exec i s = runInstr (protectedOnly >>= k) s) : exec i s = s.raises .ud :=
  exec_raises hi hl (protectedOnly_denied hpe k)

/-- An instruction of level 0, at another level. -/
theorem exec_unprivileged {i : Instr} {k : Unit → M Unit} (hl : s.lockOk = true) (hpe : s.pe = true) (hcpl : s.cpl ≠ 0)
    (hi : exec i s = runInstr (privileged >>= k) s) : exec i s = s.raises (.gp 0) :=
  exec_raises hi hl (privileged_denied hpe hcpl k)

/-- The same, where the test of the mode comes first. -/
theorem exec_protectedOnly_unprivileged {i : Instr} {k : Unit → M Unit} (hl : s.lockOk = true) (hpe : s.pe = true)
    (hcpl : s.cpl ≠ 0) (hi : exec i s = runInstr (protectedOnly >>= fun _ => privileged >>= k) s) :
    exec i s = s.raises (.gp 0) :=
  exec_raises hi hl ((protectedOnly_bind hpe _).trans (privileged_denied hpe hcpl k))

/-- HLT, which makes the test of privilege itself (45_flag_io_misc.md R463). -/
theorem exec_hlt_unprivileged (hl : s.lockOk = true) (hpe : s.pe = true) (hcpl : s.cpl ≠ 0) :
    exec .hlt s = s.raises (.gp 0) := by
  have same : halt.run s = (privileged >>= fun _ => modify fun s => { s with run := .halted }).run s := rfl
  exact exec_raises rfl hl (same.trans (privileged_denied hpe hcpl _))

end Tests

/-! ### GDTR and IDTR (47_system_control.md R491 to R495) -/

/-- The image of a table register in memory: limit and base. -/
def State.tableImage (s : State) (ea : Ea) : TableReg :=
  let w := wordAt (s.operandWords 3 ea)
  ⟨(w 2).lo ++ w 1, w 0⟩

/-- A table register stored: limit and base in three words, the last byte is `u`. -/
def State.tableStored (s : State) (ea : Ea) (x : TableReg) (u : Byte) : State :=
  let a := fun k : Word => (s.seg (s.eaSeg ea)).lin (s.eaOff ea + k)
  (({ s with undef := s.undef + 1 }.setMem16 (a 0) x.limit).setMem16 (a 2) (x.base.extractLsb' 0 16)).setMem16
    (a 4) (Word.of u (x.base.extractLsb' 16 8))

theorem readTable_run {s : State} {ea : Ea} (h : s.readOk (s.eaSeg ea) (s.eaOff ea) 6 = true) :
    (readTable ea).run s = .ok (s.tableImage ea) (s.operandRead 3 ea) := by
  have addrs : s.operandAddrs 3 ea = [(s.seg (s.eaSeg ea)).lin (s.eaOff ea),
      (s.seg (s.eaSeg ea)).lin (s.eaOff ea + 2), (s.seg (s.eaSeg ea)).lin (s.eaOff ea + 4)] := by
    simp [State.operandAddrs, List.range_succ]
  have first : s.readOk (s.eaSeg ea) (s.eaOff ea) 2 = true := by
    simpa using readOk_part (k := 0) (m := 2) h (by omega) (by omega)
  have second : s.readOk (s.eaSeg ea) (s.eaOff ea + 2) 2 = true :=
    readOk_part (k := 2) (m := 2) h (by omega) (by omega)
  have third : s.readOk (s.eaSeg ea) (s.eaOff ea + 4) 2 = true :=
    readOk_part (k := 4) (m := 2) h (by omega) (by omega)
  unfold readTable State.tableImage State.operandWords State.operandRead
  rw [addrs, run_get_bind, checkRead_bind _ h, readSeg16_bind _ first,
    readSeg16_bind _ ((readOk_after16 ..).trans second),
    readSeg16_bind _ ((readOk_after16 ..).trans ((readOk_after16 ..).trans third))]
  simp only [after16_seg]
  rfl

theorem writeOk_setMem16 (s : State) (a : PhysAddr) (v : Word) (r : SegReg) (off : Word) (n : Nat) :
    (s.setMem16 a v).writeOk r off n = s.writeOk r off n := by
  unfold State.writeOk
  rw [setMem16_seg]

/-- Three words stored one after the other, where all six bytes can be written. -/
theorem writeSeg16_three {s : State} {r : SegReg} {off : Word} (v w x : Word) (h : s.writeOk r off 6 = true) :
    (do writeSeg16 r off v; writeSeg16 r (off + 2) w; writeSeg16 r (off + 4) x : M Unit).run s = .ok ()
      (((s.setMem16 ((s.seg r).lin off) v).setMem16 ((s.seg r).lin (off + 2)) w).setMem16
        ((s.seg r).lin (off + 4)) x) := by
  have first : s.writeOk r off 2 = true := by simpa using writeOk_part (k := 0) (m := 2) h (by omega) (by omega)
  have second : s.writeOk r (off + 2) 2 = true := writeOk_part (k := 2) (m := 2) h (by omega) (by omega)
  have third : s.writeOk r (off + 4) 2 = true := writeOk_part (k := 4) (m := 2) h (by omega) (by omega)
  rw [writeSeg16_bind _ _ first, writeSeg16_bind _ _ ((writeOk_setMem16 ..).trans second), writeSeg16_run,
    if_pos ((writeOk_setMem16 ..).trans ((writeOk_setMem16 ..).trans third))]
  simp only [setMem16_seg]

theorem writeTable_run {s : State} {ea : Ea} (x : TableReg) (h : s.writeOk (s.eaSeg ea) (s.eaOff ea) 6 = true) :
    (writeTable x ea).run s = .ok () (s.tableStored ea x (Config.undef16 s.undef).lo) := by
  unfold writeTable
  rw [run_get_bind, checkWrite_bind _ h, run_bind_ok (draw16_run s)]
  have start : s.eaOff ea + 0 = s.eaOff ea := BitVec.add_zero _
  simp only [State.tableStored, start]
  exact writeSeg16_three (s := { s with undef := s.undef + 1 }) _ _ _ h

theorem loadGdtr_run {s : State} {ea : Ea} (hp : s.pe = false ∨ s.cpl = 0)
    (h : s.readOk (s.eaSeg ea) (s.eaOff ea) 6 = true) :
    (loadGdtr ea).run s = .ok () { s.operandRead 3 ea with gdtr := s.tableImage ea } :=
  (privileged_bind hp _).trans (run_bind_ok (readTable_run h))

theorem loadIdtr_run {s : State} {ea : Ea} (hp : s.pe = false ∨ s.cpl = 0)
    (h : s.readOk (s.eaSeg ea) (s.eaOff ea) 6 = true) :
    (loadIdtr ea).run s = .ok () { s.operandRead 3 ea with idtr := s.tableImage ea } :=
  (privileged_bind hp _).trans (run_bind_ok (readTable_run h))

theorem storeGdtr_run {s : State} {ea : Ea} (h : s.writeOk (s.eaSeg ea) (s.eaOff ea) 6 = true) :
    (storeGdtr ea).run s = .ok () (s.tableStored ea s.gdtr (Config.undef16 s.undef).lo) :=
  (run_get_bind _ s).trans (writeTable_run _ h)

theorem storeIdtr_run {s : State} {ea : Ea} (h : s.writeOk (s.eaSeg ea) (s.eaOff ea) 6 = true) :
    (storeIdtr ea).run s = .ok () (s.tableStored ea s.idtr (Config.undef16 s.undef).lo) :=
  (run_get_bind _ s).trans (writeTable_run _ h)

/-! ### MSW (47_system_control.md R500 to R502) -/

theorem read16_msw (s : State) (d : Rm Reg16) : (s.read16 d).msw = s.msw := by cases d <;> rfl

theorem loadMsw_run {s : State} {d : Rm Reg16} (hp : s.pe = false ∨ s.cpl = 0) (hd : s.canRead 2 d = true) :
    (loadMsw d).run s = .ok () { s.read16 d with msw := (s.msw &&& 0xFFF1) ||| (s.val16 d &&& 0x000F) } := by
  unfold loadMsw
  rw [privileged_bind hp, run_bind_ok (rd16_run d s hd), run_modify, read16_msw]

theorem clearTaskSwitched_run {s : State} (hp : s.pe = false ∨ s.cpl = 0) :
    clearTaskSwitched.run s = .ok () { s with msw := s.msw &&& 0xFFF7 } := privileged_bind hp _

/-! ### LDTR and TR (47_system_control.md R496, R498; 20_memory.md R154, R155) -/

theorem read16_ldtr (s : State) (d : Rm Reg16) : (s.read16 d).ldtr = s.ldtr := by cases d <;> rfl

section SystemSegments
variable {s : State} {d : Rm Reg16} {sel : Word} {x : Desc}

theorem loadLocalTable_run (hpe : s.pe = true) (hcpl : s.cpl = 0) (hd : s.canRead 2 d = true) :
    (loadLocalTable d).run s = (loadLDTR (s.val16 d)).run (s.read16 d) :=
  (protectedOnly_bind hpe _).trans ((privileged_bind (.inr hcpl) _).trans (run_bind_ok (rd16_run d s hd)))

theorem loadTask_run (hpe : s.pe = true) (hcpl : s.cpl = 0) (hd : s.canRead 2 d = true) :
    (loadTask d).run s = (loadTR (s.val16 d)).run (s.read16 d) :=
  (protectedOnly_bind hpe _).trans ((privileged_bind (.inr hcpl) _).trans (run_bind_ok (rd16_run d s hd)))

theorem loadLDTR_null (hnull : selNull sel = true) :
    (loadLDTR sel).run s = .ok () { s with ldtr := { s.ldtr with sel := sel, valid := false } } := by
  unfold loadLDTR
  rw [if_pos hnull, run_modify]

theorem loadTR_null (hnull : selNull sel = true) : (loadTR sel).run s = .error (.gp 0) s := by
  unfold loadTR
  rw [require_bind, hnull]
  rfl

theorem loadLDTR_desc (hnull : selNull sel = false) (hlocal : selLocal sel = false) (hx : s.descLookup sel = some x)
    (hpres : x.present = true) (htype : x.isControl 2 = true) :
    (loadLDTR sel).run s = .ok () { s.afterLookup sel with ldtr := ⟨sel, x.base, x.limit, true⟩ } := by
  unfold loadLDTR
  rw [hnull, if_neg Bool.false_ne_true, hlocal, require_bind, if_pos Bool.not_false, lookup_bind _ hx, require_bind,
    if_pos htype, require_bind, if_pos hpres, run_modify]

/-- A TSS that is not busy is marked as busy. -/
theorem loadTR_desc (hnull : selNull sel = false) (hlocal : selLocal sel = false) (hx : s.descLookup sel = some x)
    (hpres : x.present = true) (htype : x.isControl 1 = true) :
    (loadTR sel).run s = .ok ()
      { (s.afterLookup sel).setMem8 (x.addr + 5) (x.ar ||| 0x02) with tr := ⟨sel, x.base, x.limit, true⟩ } := by
  unfold loadTR
  rw [hnull, require_bind, if_pos Bool.not_false, hlocal, require_bind, if_pos Bool.not_false, lookup_bind _ hx,
    require_bind, if_pos htype, require_bind, if_pos hpres, run_modify]

end SystemSegments

end Sys2Proof.Machine

open Sys2Proof Sys2Proof.Machine

/-- Settles O47: each rule runs to its end once its tests pass; LLDT and LTR go on from the state that has read the
selector. -/
theorem systemRegisters : Obligations.SystemRegisters := by
  intro s hl
  refine ⟨fun ea hp h => ⟨exec_completes rfl hl (loadGdtr_run hp h), exec_completes rfl hl (loadIdtr_run hp h)⟩,
    fun ea h => ⟨⟨_, exec_completes rfl hl (storeGdtr_run h)⟩, _, exec_completes rfl hl (storeIdtr_run h)⟩,
    fun d hp hd => exec_completes rfl hl (loadMsw_run hp hd), fun d hd => exec_completes rfl hl (storeMsw_run hd),
    fun hp => exec_completes rfl hl (clearTaskSwitched_run hp),
    fun hpe d hd => ⟨exec_completes rfl hl (storeLocalTable_run hpe hd), exec_completes rfl hl (storeTask_run hpe hd)⟩,
    fun hpe hcpl d hd hnull => ?_, ?_⟩
  · have null : (loadLocalTable d).run s = .ok () _ := (loadLocalTable_run hpe hcpl hd).trans (loadLDTR_null hnull)
    rw [read16_ldtr] at null
    exact ⟨exec_completes rfl hl null, exec_raises rfl hl ((loadTask_run hpe hcpl hd).trans (loadTR_null hnull))⟩
  · intro hpe hcpl d x hd sel u hnull hlocal hx hpres
    exact ⟨fun htype => exec_completes rfl hl
        ((loadLocalTable_run hpe hcpl hd).trans (loadLDTR_desc hnull hlocal hx hpres htype)),
      fun htype => exec_completes rfl hl
        ((loadTask_run hpe hcpl hd).trans (loadTR_desc hnull hlocal hx hpres htype))⟩

/-- Settles O49: the test of the mode, and then that of the privilege, is the first thing each rule does; LLDT and LTR
make both. -/
theorem systemTraps : Obligations.SystemTraps := by
  intro s hl
  refine ⟨fun hpe r d => ?_, fun hpe hcpl d ea => ?_⟩
  · have ud : ∀ {i : Instr} {k : Unit → M Unit}, exec i s = runInstr (protectedOnly >>= k) s →
        exec i s = s.raises .ud := exec_unrecognized hl hpe
    simp only [List.forall_mem_cons]
    exact ⟨ud rfl, ud rfl, ud rfl, ud rfl, ud rfl, ud rfl, ud rfl, ud rfl, ud rfl, List.forall_mem_nil _⟩
  · have gp : ∀ {i : Instr} {k : Unit → M Unit}, exec i s = runInstr (privileged >>= k) s →
        exec i s = s.raises (.gp 0) := exec_unprivileged hl hpe hcpl
    simp only [List.forall_mem_cons]
    exact ⟨gp rfl, gp rfl, gp rfl, gp rfl, exec_hlt_unprivileged hl hpe hcpl,
      exec_protectedOnly_unprivileged hl hpe hcpl rfl, exec_protectedOnly_unprivileged hl hpe hcpl rfl,
      List.forall_mem_nil _⟩

end

section
/-! SUPPORT. How pointer validation runs: Inspect(sel), the test of the descriptor, and what ZF says
(47_system_control.md R503 to R508; 20_memory.md R112). -/

namespace Sys2Proof.Machine

/-! ### Inspect(sel) (47_system_control.md R504) -/

section Inspect
variable {s : State} {sel : Word} {x : Desc}

/-- DescLookup that finds no descriptor reads nothing. -/
theorem afterLookup_of_none (h : s.descLookup sel = none) : s.afterLookup sel = s := by
  have nowhere : s.descAddr sel = none := Option.map_eq_none_iff.mp h
  unfold State.afterLookup State.descWords
  rw [nowhere]
  rfl

theorem inspect_none (h : selNull sel = true ∨ s.descLookup sel = none) : (inspect sel).run s = .ok none s := by
  unfold inspect
  cases hnull : selNull sel with
  | true => rfl
  | false =>
    have absent : s.descLookup sel = none := h.resolve_left (Bool.eq_false_iff.mp hnull)
    rw [if_neg Bool.false_ne_true, run_get_bind, run_set_bind, run_pure, absent, afterLookup_of_none absent]

theorem inspect_some (hnull : selNull sel = false) (hx : s.descLookup sel = some x) :
    (inspect sel).run s = .ok (some x) (s.afterLookup sel) := by
  unfold inspect
  rw [hnull, if_neg Bool.false_ne_true, run_get_bind, run_set_bind, run_pure, hx]

end Inspect

/-! ### The test -/

/-- The descriptor passed: a segment's is marked as accessed (D30), and ZF is 1. -/
def State.passed (s : State) (x : Desc) : State := (if x.segment = true then s.accessed x else s).setFlag .zf true

theorem inspected_run (x : Desc) (s : State) :
    (inspected x).run s = .ok () (if x.segment = true then s.accessed x else s) := by
  unfold inspected
  rw [run_ite]
  split_ifs <;> rfl

section SelectorTest
variable {s : State} {d : Rm Reg16} {x : Desc} {ok : BitVec 2 → BitVec 2 → Desc → Bool} {f : Desc → M Unit}

theorem selectorTest_none (hpe : s.pe = true) (hd : s.canRead 2 d = true)
    (h : selNull (s.val16 d) = true ∨ (s.read16 d).descLookup (s.val16 d) = none) :
    (selectorTest d ok f).run s = .ok () ((s.read16 d).setFlag .zf false) := by
  unfold selectorTest
  rw [protectedOnly_bind hpe, run_bind_ok (rd16_run d s hd), run_get_bind, run_bind_ok (inspect_none h)]
  rfl

/-- A descriptor is found: `c` says what the test asks of it, and `g` is what the instruction loads. -/
theorem selectorTest_some {c : Prop} [Decidable c] {g : State → State} (hpe : s.pe = true) (hd : s.canRead 2 d = true)
    (hnull : selNull (s.val16 d) = false) (hx : (s.read16 d).descLookup (s.val16 d) = some x)
    (hc : ok s.cpl (selRpl (s.val16 d)) x = true ↔ c) (hf : ∀ u, (f x).run u = .ok () (g u)) :
    (selectorTest d ok f).run s = .ok () (if c then (g ((s.read16 d).afterLookup (s.val16 d))).passed x
      else ((s.read16 d).afterLookup (s.val16 d)).setFlag .zf false) := by
  unfold selectorTest
  rw [protectedOnly_bind hpe, run_bind_ok (rd16_run d s hd), run_get_bind,
    run_bind_ok (inspect_some hnull hx), read16_cpl]
  dsimp only
  rw [run_ite]
  split_ifs with passes holds holds
  · exact (run_bind_ok (hf _)).trans (run_bind_ok (inspected_run x _))
  · exact absurd (hc.mp passes) holds
  · exact absurd (hc.mpr holds) passes
  · rfl

/-- An instruction that makes the test, where a descriptor is found. -/
theorem exec_selectorTest {i : Instr} {c : Prop} [Decidable c] {g : State → State}
    (hi : exec i s = runInstr (selectorTest d ok f) s) (hl : s.lockOk = true) (hpe : s.pe = true)
    (hd : s.canRead 2 d = true) (hnull : selNull (s.val16 d) = false)
    (hx : (s.read16 d).descLookup (s.val16 d) = some x) (hc : ok s.cpl (selRpl (s.val16 d)) x = true ↔ c)
    (hf : ∀ u, (f x).run u = .ok () (g u)) :
    exec i s = .next (if c then ((g ((s.read16 d).afterLookup (s.val16 d))).passed x).done
      else (((s.read16 d).afterLookup (s.val16 d)).setFlag .zf false).done) := by
  rw [exec_completes hi hl (selectorTest_some hpe hd hnull hx hc hf), apply_ite State.done]

end SelectorTest

/-! ### What the instructions ask of a descriptor (20_memory.md R106, R112; 47_system_control.md R505 to R508) -/

section Conditions
variable {x : Desc} {cpl rpl : BitVec 2}

/-- The privilege that a load of the segment needs (20_memory.md R112). -/
abbrev Desc.Reachable (x : Desc) (cpl rpl : BitVec 2) : Prop :=
  x.conforming = true ∨ (cpl.toNat ≤ x.dpl.toNat ∧ rpl.toNat ≤ x.dpl.toNat)

theorem dataAccess_iff : x.dataAccess cpl rpl = true ↔ x.Reachable cpl rpl := by
  simp only [Desc.dataAccess, Desc.Reachable, Bool.or_eq_true, Bool.and_eq_true, BitVec.ule_iff_toNat_le, and_comm]

/-- The types whose DPL has no meaning (20_memory.md R106). -/
theorem noPrivilege_iff :
    x.noPrivilege = true ↔ x.segment = false ∧ (x.type = 0 ∨ x.type = 2 ∨ 8 ≤ x.type.toNat) := by
  simp [Desc.noPrivilege, BitVec.ule_iff_toNat_le, or_assoc]

theorem rightsVisible_iff : x.rightsVisible cpl rpl = true ↔
    x.Reachable cpl rpl ∨ (x.segment = false ∧ (x.type = 0 ∨ x.type = 2 ∨ 8 ≤ x.type.toNat)) := by
  rw [Desc.rightsVisible, Bool.or_eq_true, noPrivilege_iff, dataAccess_iff, or_comm]

theorem limitVisible_iff : x.limitVisible cpl rpl = true ↔
    x.Reachable cpl rpl ∧ (x.segment = true ∨ x.type = 1 ∨ x.type = 2 ∨ x.type = 3) := by
  rw [Desc.limitVisible, Bool.and_eq_true, dataAccess_iff, and_comm]
  simp [or_assoc]

theorem readable_and_dataAccess_iff : (x.readable && x.dataAccess cpl rpl) = true ↔
    x.Reachable cpl rpl ∧ x.readable = true := by
  rw [Bool.and_eq_true, dataAccess_iff, and_comm]

theorem writable_and_dataAccess_iff : (x.writable && x.dataAccess cpl rpl) = true ↔
    x.Reachable cpl rpl ∧ x.isData = true ∧ x.ar.getLsbD 1 = true := by
  rw [Bool.and_eq_true, dataAccess_iff, Desc.writable, Bool.and_eq_true, and_comm]

end Conditions

/-! ### ARPL (47_system_control.md R503) -/

/-- The RPL of a selector stands in its two lowest bits. -/
theorem selRpl_setWidth (sel : Word) : (selRpl sel).setWidth 16 = sel &&& 0x0003 := by
  apply BitVec.eq_of_toNat_eq
  have low : sel.toNat &&& 3 = sel.toNat % 4 := Nat.and_two_pow_sub_one_eq_mod sel.toNat 2
  have fits : sel.toNat % 4 % 65536 = sel.toNat % 4 := by omega
  simpa [selRpl, low] using fits

/-- The first selector with the RPL of the second. -/
theorem adjustRpl_eq (v w : Word) : adjustRpl v w = (v &&& 0xFFFC) ||| (w &&& 0x0003) := by
  rw [adjustRpl, withRpl, selRpl_setWidth]

end Sys2Proof.Machine

open Sys2Proof Sys2Proof.Machine

/-- Settles O48: the four are one test with four conditions, each of which says what the statement asks;
ARPL by the two orders of the privilege levels. -/
theorem pointerValidation : Obligations.PointerValidation := by
  intro s hl hpe
  refine ⟨fun r d hd h => ?_, ?_, fun d r hd => ?_⟩
  · have unusable : ∀ {i : Instr} {ok f}, exec i s = runInstr (selectorTest d ok f) s →
        exec i s = .next ((s.read16 d).setFlag .zf false).done :=
      fun hi => exec_completes hi hl (selectorTest_none hpe hd h)
    simp only [List.forall_mem_cons]
    exact ⟨unusable rfl, unusable rfl, unusable rfl, unusable rfl, List.forall_mem_nil _⟩
  · intro r d x hd hnull hx u reachable noDpl passed failed
    exact ⟨exec_selectorTest (g := fun t => t.setReg16 r (Word.of x.ar 0)) rfl hl hpe hd hnull hx rightsVisible_iff
        fun _ => rfl,
      exec_selectorTest (g := fun t => t.setReg16 r x.limit) rfl hl hpe hd hnull hx limitVisible_iff fun _ => rfl,
      exec_selectorTest (g := id) rfl hl hpe hd hnull hx readable_and_dataAccess_iff fun _ => rfl,
      exec_selectorTest (g := id) rfl hl hpe hd hnull hx writable_and_dataAccess_iff fun _ => rfl⟩
  · rw [exec_completes rfl hl (adjust_run r hpe hd), adjustRpl_eq]
    by_cases less : (selRpl (s.val16 d)).toNat < (selRpl (s.reg16 r)).toNat
    · simp only [BitVec.ult, less, decide_true, if_true]
    · simp only [BitVec.ult, less, decide_false, if_false, Bool.false_eq_true]

end

section
/-! SUPPORT. How an ESC instruction runs: its tests, the words of its operand, and the segment overrun
(48_npx_architecture.md R530 to R540). -/

namespace Sys2Proof.Machine

/-! ### The tests, and the 80287's part of an instruction (R535, R539) -/

section Protocol
variable {α : Type} {s : State} {c : Bool}

theorem escTest_run (c : Bool) (s : State) : (escTest c).run s =
    if (s.em || s.ts) = true then .error .nm s else if (c && s.npxError) = true then .error .mf s else .ok () s := by
  unfold escTest
  rw [run_get_bind, require_bind, require_run]
  cases s.em <;> cases s.ts <;> cases c <;> cases s.npxError <;> rfl

theorem escTest_bind (k : Unit → M α) (h : s.escOk c = true) : (escTest c >>= k).run s = (k ()).run s := by
  refine run_bind_ok ?_
  unfold State.escOk at h
  rw [escTest_run]
  revert h
  cases s.em <;> cases s.ts <;> cases c <;> cases s.npxError <;> simp

theorem escTest_nm (k : Unit → M α) (h : (s.em || s.ts) = true) : (escTest c >>= k).run s = .error .nm s := by
  refine run_bind_error ?_
  rw [escTest_run, if_pos h]

theorem escTest_mf (k : Unit → M α) (hem : s.em = false) (hts : s.ts = false) (h : s.npxError = true) :
    (escTest true >>= k).run s = .error .mf s := by
  refine run_bind_error ?_
  rw [escTest_run, hem, hts, h]
  rfl

/-- With no 80287 nothing reports an error (D28). -/
theorem escOk_absent (c : Bool) (hem : s.em = false) (hts : s.ts = false) (hn : s.npxPresent = false) :
    s.escOk c = true := by
  simp [State.escOk, State.npxError, hem, hts, hn]

theorem whenPresent_present (x : M Unit) (h : s.npxPresent = true) : (whenPresent x).run s = x.run s := by
  unfold whenPresent
  rw [run_get_bind, if_pos h]

theorem whenPresent_absent (x : M Unit) (h : s.npxPresent = false) : (whenPresent x).run s = .ok () s := by
  unfold whenPresent
  rw [run_get_bind, if_neg (Bool.eq_false_iff.mp h)]
  rfl

theorem numeric_run (x : N α) (s : State) : (numeric x).run s = .ok (s.answered x) (s.computed x) := rfl

theorem overrun_run (s : State) : (overrun : M α).run s = .error .px9 (s.computed loseNpx) := rfl

end Protocol

/-! ### The words of an operand (R536, R537, R540) -/

/-- Where `k` words of a segment stand, at ascending offsets that do not wrap. -/
def State.wordAddrs (s : State) (r : SegReg) (off k : Nat) : List PhysAddr :=
  (List.range k).map fun j => (s.seg r).lin (BitVec.ofNat 16 (off + 2 * j))

theorem operandAddrs_eq_wordAddrs (s : State) (k : Nat) (ea : Ea) :
    s.operandAddrs k ea = s.wordAddrs (s.eaSeg ea) (s.eaOff ea).toNat k := by
  refine List.map_congr_left fun j _ => ?_
  rw [BitVec.ofNat_add, BitVec.ofNat_toNat, BitVec.setWidth_eq]

theorem wordAddrs_succ (s : State) (r : SegReg) (off k : Nat) :
    s.wordAddrs r off (k + 1) = (s.seg r).lin (BitVec.ofNat 16 off) :: s.wordAddrs r (off + 2) k := by
  unfold State.wordAddrs
  rw [List.range_succ_eq_map, List.map_cons, List.map_map]
  congr 1
  refine List.map_congr_left fun j _ => ?_
  show (s.seg r).lin (BitVec.ofNat 16 (off + 2 * (j + 1))) = _
  rw [show off + 2 * (j + 1) = off + 2 + 2 * j by omega]

theorem wordAddrs_after16 (s : State) (a : PhysAddr) (r : SegReg) (off k : Nat) :
    (s.after16 a).wordAddrs r off k = s.wordAddrs r off k := by
  unfold State.wordAddrs
  rw [after16_seg]

theorem getWords_succ {s : State} {r : SegReg} {off : Nat} (k : Nat) (h : (s.seg r).inLimit off 2 = true) :
    (getWords r (k + 1) off).run s =
      (getWords r k (off + 2) >>= fun rest => pure (s.mem16 ((s.seg r).lin (BitVec.ofNat 16 off)) :: rest)).run
        (s.after16 ((s.seg r).lin (BitVec.ofNat 16 off))) := by
  rw [getWords, run_get_bind, if_pos h]
  exact run_bind_ok (load16_run _ s)

/-- Words inside the segment are read, one after the other, before the rest of the operand. -/
theorem getWords_inside (j k : Nat) {s : State} {r : SegReg} {off : Nat} (h : (s.seg r).inLimit off (2 * j) = true) :
    (getWords r (j + k) off).run s =
      (getWords r k (off + 2 * j) >>= fun rest => pure (s.words (s.wordAddrs r off j) ++ rest)).run
        (s.afterWords (s.wordAddrs r off j)) := by
  induction j generalizing s off with
  | zero =>
    rw [Nat.zero_add]
    exact (congrArg (·.run s) (bind_pure (getWords r k off))).symm
  | succ j ih =>
    have first : (s.seg r).inLimit off 2 = true := inLimit_part (k := 0) h (by omega)
    have others : ((s.after16 ((s.seg r).lin (BitVec.ofNat 16 off))).seg r).inLimit (off + 2) (2 * j) = true := by
      rw [after16_seg]
      exact inLimit_part h (by omega)
    rw [show j + 1 + k = j + k + 1 by omega, getWords_succ _ first, run_bind, ih others, wordAddrs_after16,
      wordAddrs_succ, words_cons, afterWords_cons, show off + 2 * (j + 1) = off + 2 + 2 * j by omega, run_bind,
      run_bind]
    cases EStateM.run (getWords r k (off + 2 + 2 * j)) _ <;> rfl

/-- The words of an operand inside the segment. -/
theorem getWords_run (k : Nat) {s : State} {r : SegReg} {off : Nat} (h : (s.seg r).inLimit off (2 * k) = true) :
    (getWords r k off).run s = .ok (s.words (s.wordAddrs r off k)) (s.afterWords (s.wordAddrs r off k)) := by
  refine (getWords_inside k 0 h).trans ?_
  rw [getWords, run_pure_bind, run_pure, List.append_nil]

/-- The segment ends after `j` words: these are read, and then the segment is overrun. -/
theorem getWords_overrun {j k : Nat} (hj : j < k) {s : State} {r : SegReg} {off : Nat}
    (h : (s.seg r).inLimit off (2 * j) = true) (hend : (s.seg r).inLimit (off + 2 * j) 2 = false) :
    (getWords r k off).run s = .error .px9 ((s.afterWords (s.wordAddrs r off j)).computed loseNpx) := by
  obtain ⟨m, rfl⟩ : ∃ m, k = j + (m + 1) := ⟨k - j - 1, by omega⟩
  rw [getWords_inside j (m + 1) h]
  refine run_bind_error ?_
  rw [getWords, run_get_bind, afterWords_seg, if_neg (Bool.eq_false_iff.mp hend), overrun_run]

theorem putWords_cons {s : State} {r : SegReg} {off : Nat} (w : Word) (ws : List Word)
    (h : (s.seg r).inLimit off 2 = true) :
    (putWords r off (w :: ws)).run s =
      (putWords r (off + 2) ws).run (s.setMem16 ((s.seg r).lin (BitVec.ofNat 16 off)) w) := by
  rw [putWords, run_get_bind, if_pos h, run_modify_bind]

/-- Words inside the segment are stored before the rest of the operand. -/
theorem putWords_append (ws rest : List Word) {s : State} {r : SegReg} {off : Nat}
    (h : (s.seg r).inLimit off (2 * ws.length) = true) :
    (putWords r off (ws ++ rest)).run s = (putWords r (off + 2 * ws.length) rest).run (State.stored r off ws s) := by
  induction ws generalizing s off with
  | nil => rfl
  | cons w ws ih =>
    rw [List.length_cons] at h ⊢
    have first : (s.seg r).inLimit off 2 = true := inLimit_part (k := 0) h (by omega)
    rw [List.cons_append, putWords_cons _ _ first, ih (by rw [setMem16_seg]; exact inLimit_part h (by omega)),
      show off + 2 + 2 * ws.length = off + 2 * (ws.length + 1) by omega]
    rfl

theorem putWords_run (ws : List Word) {s : State} {r : SegReg} {off : Nat}
    (h : (s.seg r).inLimit off (2 * ws.length) = true) :
    (putWords r off ws).run s = .ok () (State.stored r off ws s) := by
  have := putWords_append ws [] h
  rwa [List.append_nil] at this

/-- What words stored in a segment leave unchanged. -/
theorem stored_frame (r q : SegReg) (off : Nat) (ws : List Word) (s : State) :
    (State.stored r off ws s).seg q = s.seg q ∧ (State.stored r off ws s).npx = s.npx ∧
      (State.stored r off ws s).undef = s.undef := by
  induction ws generalizing s off with
  | nil => exact ⟨rfl, rfl, rfl⟩
  | cons w ws ih =>
    obtain ⟨hseg, hnpx, hundef⟩ := ih (off + 2) (s.setMem16 ((s.seg r).lin (BitVec.ofNat 16 off)) w)
    exact ⟨hseg.trans (setMem16_seg ..), hnpx, hundef⟩

/-- The segment ends after `j` words: these are stored, and then the segment is overrun. -/
theorem putWords_overrun {j : Nat} {ws : List Word} (hj : j < ws.length) {s : State} {r : SegReg} {off : Nat}
    (h : (s.seg r).inLimit off (2 * j) = true) (hend : (s.seg r).inLimit (off + 2 * j) 2 = false) :
    (putWords r off ws).run s = .error .px9 ((State.stored r off (ws.take j) s).computed loseNpx) := by
  obtain ⟨w, rest, hrest⟩ : ∃ w rest, ws.drop j = w :: rest :=
    ⟨_, _, (List.getElem_cons_drop hj).symm⟩
  have hlen : (ws.take j).length = j := List.length_take_of_le hj.le
  conv_lhs => rw [← List.take_append_drop j ws, hrest]
  rw [putWords_append _ _ (by rw [hlen]; exact h), hlen, putWords, run_get_bind, (stored_frame ..).1,
    if_neg (Bool.eq_false_iff.mp hend), overrun_run]

/-- A segment that ends after `j` words of an operand does not hold the next one. -/
theorem inLimit_next {c : SegCache} {off j : Nat} (h : c.inLimit off (2 * j) = true)
    (hend : c.inLimit off (2 * j + 2) = false) : c.inLimit (off + 2 * j) 2 = false := by
  unfold SegCache.inLimit at *
  split_ifs at * with hdown
  · simp only [Bool.and_eq_true, decide_eq_true_eq, Bool.and_eq_false_iff, decide_eq_false_iff_not] at *
    omega
  · simp only [decide_eq_true_eq, decide_eq_false_iff_not] at *
    omega

end Sys2Proof.Machine
end

section
/-! SUPPORT. How each shape of ESC instruction completes: with no operand in memory, with one that is read, and with one
that is stored (48_npx_architecture.md R535, R536, R581). -/

namespace Sys2Proof.Machine

/-! ### The latched pointers -/

section Latch
variable (s : State) (op : BitVec 11) (mem : Option Ea)

/-- The latch sets pointers of the 80287 and nothing else (48_npx_architecture.md R590). -/
theorem latch_npxOnly : ∃ n, s.latch op mem = { s with npx := n } := by
  cases mem <;> exact ⟨_, rfl⟩

theorem latch_seg (r : SegReg) : (s.latch op mem).seg r = s.seg r := by
  obtain ⟨n, h⟩ := latch_npxOnly s op mem
  rw [h]
  cases r <;> rfl

theorem words_npx (n : Npx) (as : List PhysAddr) : ({ s with npx := n } : State).words as = s.words as := by
  induction as generalizing s with
  | nil => rfl
  | cons a as ih => exact congrArg (s.mem16 a :: ·) (ih (s.after16 a))

theorem latch_words (as : List PhysAddr) : (s.latch op mem).words as = s.words as := by
  obtain ⟨n, h⟩ := latch_npxOnly s op mem
  rw [h, words_npx]

theorem latch_afterWords (as : List PhysAddr) : (s.latch op mem).afterWords as = (s.afterWords as).latch op mem := by
  cases mem <;> rfl

theorem latch_wordAddrs (r : SegReg) (off k : Nat) : (s.latch op mem).wordAddrs r off k = s.wordAddrs r off k := by
  unfold State.wordAddrs
  rw [latch_seg]

end Latch

/-! ### Operands that can be accessed -/

section Access
variable {s : State} {k : Nat} {ea : Ea} {check : Bool}

theorem escReadOk_iff : s.escReadOk k ea = true ↔
    s.escOk true = true ∧ s.npxPresent = true ∧ s.readOk (s.eaSeg ea) (s.eaOff ea) (2 * k) = true := by
  rw [State.escReadOk, Bool.and_eq_true, Bool.and_eq_true, and_assoc]

theorem escWriteOk_iff : s.escWriteOk check k ea = true ↔
    s.escOk check = true ∧ s.npxPresent = true ∧ s.writeOk (s.eaSeg ea) (s.eaOff ea) (2 * k) = true := by
  rw [State.escWriteOk, Bool.and_eq_true, Bool.and_eq_true, and_assoc]

theorem readOk_inLimit {r : SegReg} {off : Word} {n : Nat} (h : s.readOk r off n = true) :
    (s.seg r).inLimit off.toNat n = true := (Bool.and_eq_true_iff.mp h).2

theorem writeOk_inLimit {r : SegReg} {off : Word} {n : Nat} (h : s.writeOk r off n = true) :
    (s.seg r).inLimit off.toNat n = true := (Bool.and_eq_true_iff.mp h).2

/-- The first word of an operand passes the test of its segment. -/
theorem readOk_first (hk : 0 < k) (h : s.readOk (s.eaSeg ea) (s.eaOff ea) (2 * k) = true) :
    s.readOk (s.eaSeg ea) (s.eaOff ea) 2 = true := by
  simpa using readOk_part (k := 0) (m := 2) h (by omega) (by omega)

theorem writeOk_first (hk : 0 < k) (h : s.writeOk (s.eaSeg ea) (s.eaOff ea) (2 * k) = true) :
    s.writeOk (s.eaSeg ea) (s.eaOff ea) 2 = true := by
  simpa using writeOk_part (k := 0) (m := 2) h (by omega) (by omega)

end Access

/-! ### Rules up to the transfer: the tests pass, and the first word is inside the segment -/

section Begins
variable {s : State} {op : BitVec 11} {ea : Ea} {k : Nat}

/-- An ESC that reads an operand, once its tests have passed: the pointers are latched and the words read. -/
theorem escLoad_begin (x : Nat → N Unit) (h : s.escReadOk 1 ea = true) : (escLoad op ea k x).run s =
    (getWords (s.eaSeg ea) k (s.eaOff ea).toNat >>= fun ws => numeric (x (wordsValue ws)) >>= fun _ => pure ()).run
      (s.latch op (some ea)) := by
  obtain ⟨htest, hpresent, hread⟩ := escReadOk_iff.mp h
  unfold escLoad
  rw [escTest_bind _ htest, run_get_bind, checkRead_bind _ hread, whenPresent_present _ hpresent, run_modify_bind]

/-- An ESC that stores an operand: the pointers are latched, and the operation runs before the words are stored. -/
theorem escStore_begin (x : N Nat) (h : s.escWriteOk true 1 ea = true) : (escStore op ea k x).run s =
    match (s.latch op (some ea)).answered x with
    | none => .ok () ((s.latch op (some ea)).computed x)
    | some v => (putWords (s.eaSeg ea) (s.eaOff ea).toNat (valueWords k v)).run
        ((s.latch op (some ea)).computed x) := by
  obtain ⟨htest, hpresent, hwrite⟩ := escWriteOk_iff.mp h
  unfold escStore
  rw [escTest_bind _ htest, run_get_bind, checkWrite_bind _ hwrite, whenPresent_present _ hpresent, run_modify_bind,
    run_bind_ok (numeric_run x _)]
  cases (s.latch op (some ea)).answered x <;> rfl

theorem escLoadState_begin (f : List Word → Npx → Npx) (h : s.escReadOk 1 ea = true) : (escLoadState ea k f).run s =
    (getWords (s.eaSeg ea) k (s.eaOff ea).toNat >>= fun ws =>
      modify fun t : State => { t with npx := f ws t.npx }).run s := by
  obtain ⟨htest, hpresent, hread⟩ := escReadOk_iff.mp h
  unfold escLoadState
  rw [escTest_bind _ htest, run_get_bind, checkRead_bind _ hread, whenPresent_present _ hpresent]

theorem escStoreState_begin (absent : List Word) (image : Npx → List Word) (after : N Unit)
    (h : s.escWriteOk false 1 ea = true) : (escStoreState ea absent image after).run s =
    (putWords (s.eaSeg ea) (s.eaOff ea).toNat (image s.npx) >>= fun _ => numeric after >>= fun _ => pure ()).run s := by
  obtain ⟨htest, hpresent, hwrite⟩ := escWriteOk_iff.mp h
  unfold escStoreState
  rw [escTest_bind _ htest, run_get_bind, checkWrite_bind _ hwrite, if_pos hpresent]

end Begins

/-! ### Complete instructions -/

section Complete
variable {s : State} {op : BitVec 11} {ea : Ea} {k : Nat} {i : Instr}

theorem escReadOk_first (hk : 0 < k) (h : s.escReadOk k ea = true) : s.escReadOk 1 ea = true := by
  obtain ⟨htest, hpresent, hread⟩ := escReadOk_iff.mp h
  exact escReadOk_iff.mpr ⟨htest, hpresent, readOk_first hk hread⟩

theorem escWriteOk_first {check : Bool} (hk : 0 < k) (h : s.escWriteOk check k ea = true) :
    s.escWriteOk check 1 ea = true := by
  obtain ⟨htest, hpresent, hwrite⟩ := escWriteOk_iff.mp h
  exact escWriteOk_iff.mpr ⟨htest, hpresent, writeOk_first hk hwrite⟩

theorem escReadOk_inLimit (h : s.escReadOk k ea = true) :
    (s.seg (s.eaSeg ea)).inLimit (s.eaOff ea).toNat (2 * k) = true :=
  readOk_inLimit (escReadOk_iff.mp h).2.2

theorem escWriteOk_inLimit {check : Bool} (h : s.escWriteOk check k ea = true) :
    (s.seg (s.eaSeg ea)).inLimit (s.eaOff ea).toNat (2 * k) = true :=
  writeOk_inLimit (escWriteOk_iff.mp h).2.2

theorem exec_escReg {x : N Unit} (hi : exec i s = runInstr (escReg op x) s) (hl : s.lockOk = true) :
    s.escRuns op x i := by
  intro htest hpresent
  refine exec_completes hi hl ?_
  unfold escReg
  rw [escTest_bind _ htest, whenPresent_present _ hpresent, run_modify_bind, run_bind_ok (numeric_run x _), run_pure]

theorem exec_escLoad {x : Nat → N Unit} (hi : exec i s = runInstr (escLoad op ea k x) s) (hl : s.lockOk = true)
    (hk : 0 < k) : s.escLoads op ea k x i := by
  intro h
  refine exec_completes hi hl ((escLoad_begin x (escReadOk_first hk h)).trans ?_)
  rw [run_bind_ok (getWords_run k (by rw [latch_seg]; exact escReadOk_inLimit h)), latch_wordAddrs, latch_words,
    latch_afterWords, ← operandAddrs_eq_wordAddrs, run_bind_ok (numeric_run _ _), run_pure]
  rfl

theorem valueWords_length (k v : Nat) : (valueWords k v).length = k := by
  induction k generalizing v with
  | zero => rfl
  | succ k ih => exact congrArg Nat.succ (ih _)

theorem computed_seg {α : Type} (s : State) (x : N α) (r : SegReg) : (s.computed x).seg r = s.seg r := by
  cases r <;> rfl

theorem exec_escStore {x : N Nat} (hi : exec i s = runInstr (escStore op ea k x) s) (hl : s.lockOk = true)
    (hk : 0 < k) : s.escStores op ea k x i := by
  intro h
  have hin : ∀ v, (((s.latch op (some ea)).computed x).seg (s.eaSeg ea)).inLimit (s.eaOff ea).toNat
      (2 * (valueWords k v).length) = true := by
    intro v
    rw [computed_seg, latch_seg, valueWords_length]
    exact escWriteOk_inLimit h
  refine exec_completes hi hl ((escStore_begin x (escWriteOk_first hk h)).trans ?_)
  cases (s.latch op (some ea)).answered x with
  | none => rfl
  | some v => exact putWords_run _ (hin v)

theorem exec_escLoadState {f : List Word → Npx → Npx} (hi : exec i s = runInstr (escLoadState ea k f) s)
    (hl : s.lockOk = true) (hk : 0 < k) (h : s.escReadOk k ea = true) :
    exec i s = .next { s.operandRead k ea with npx := f (s.operandWords k ea) s.npx }.done := by
  refine exec_completes hi hl ((escLoadState_begin f (escReadOk_first hk h)).trans ?_)
  rw [run_bind_ok (getWords_run k (escReadOk_inLimit h)), ← operandAddrs_eq_wordAddrs]
  rfl

/-- FNSTCW, FNSTSW, FNSTENV and FNSAVE: the image is stored, and then the operation runs. -/
theorem exec_escStoreState {absent : List Word} {image : Npx → List Word} {after : N Unit}
    (hi : exec i s = runInstr (escStoreState ea absent image after) s) (hl : s.lockOk = true)
    (hlen : (image s.npx).length = k) (hk : 0 < k) (h : s.escWriteOk false k ea = true) :
    exec i s = .next ((s.storedAt s ea (image s.npx)).computed after).done := by
  refine exec_completes hi hl ((escStoreState_begin absent image after (escWriteOk_first hk h)).trans ?_)
  rw [run_bind_ok (putWords_run _ (by rw [hlen]; exact escWriteOk_inLimit h)), run_bind_ok (numeric_run _ _), run_pure]
  rfl

theorem storedAt_npx (s t : State) (ea : Ea) (ws : List Word) : (s.storedAt t ea ws).npx = t.npx :=
  (stored_frame _ .cs _ ws t).2.1

theorem storedAt_undef (s t : State) (ea : Ea) (ws : List Word) : (s.storedAt t ea ws).undef = t.undef :=
  (stored_frame _ .cs _ ws t).2.2

/-! What the operations of the control instructions compute. -/

theorem computed_pure {α : Type} (a : α) (s : State) : s.computed (pure a) = s := rfl

theorem computed_changeNpx (f : Npx → Npx) (s : State) :
    s.computed (changeNpx f) = { s with npx := f s.npx } := rfl

theorem computed_initNpx (s : State) :
    s.computed initNpx = { s with npx := s.npx.init (Config.undef16 s.undef), undef := s.undef + 1 } := rfl

theorem exec_escControl {c : Bool} {x : N Unit} (hi : exec i s = runInstr (escControl c x) s) (hl : s.lockOk = true)
    (htest : s.escOk c = true) (hpresent : s.npxPresent = true) : exec i s = .next (s.computed x).done := by
  refine exec_completes hi hl ?_
  unfold escControl
  rw [escTest_bind _ htest, whenPresent_present _ hpresent, run_bind_ok (numeric_run x _), run_pure]

theorem statusToAx_run (htest : s.escOk false = true) : statusToAx.run s =
    .ok () (s.setReg16 .ax (if s.npxPresent then s.npx.sw.word else 0xFFFF)) := by
  unfold statusToAx
  rw [escTest_bind _ htest, run_modify]

end Complete

end Sys2Proof.Machine

open Sys2Proof Sys2Proof.Machine

/-- Settles O51: each of them is one ESC that reads its operand. -/
theorem npxMemoryOperands : Obligations.NpxMemoryOperands := by
  intro s ea hl
  have runs : ∀ {op k x i}, exec i s = runInstr (escLoad op ea (k + 1) x) s → s.escLoads op ea (k + 1) x i :=
    fun hi => exec_escLoad hi hl (Nat.succ_pos _)
  exact ⟨runs rfl, runs rfl, runs rfl, runs rfl, runs rfl, runs rfl, runs rfl, runs rfl, runs rfl, runs rfl,
    runs rfl, runs rfl, runs rfl, runs rfl, runs rfl, runs rfl, runs rfl, runs rfl, runs rfl, runs rfl, runs rfl,
    runs rfl, runs rfl, runs rfl, runs rfl, runs rfl, runs rfl, runs rfl, runs rfl, runs rfl, runs rfl, runs rfl,
    runs rfl, runs rfl, runs rfl, runs rfl, runs rfl, runs rfl, runs rfl⟩

/-- Settles O52: each of them is one ESC with no operand in memory. -/
theorem npxRegisterForms : Obligations.NpxRegisterForms := by
  intro s i hl
  have runs : ∀ {op x j}, exec j s = runInstr (escReg op x) s → s.escRuns op x j := fun hi => exec_escReg hi hl
  exact ⟨runs rfl, runs rfl, runs rfl, runs rfl, runs rfl, runs rfl, runs rfl, runs rfl, runs rfl, runs rfl,
    runs rfl, runs rfl, runs rfl, runs rfl, runs rfl, runs rfl, runs rfl, runs rfl, runs rfl, runs rfl, runs rfl,
    runs rfl, runs rfl, runs rfl, runs rfl, runs rfl, runs rfl, runs rfl, runs rfl, runs rfl, runs rfl, runs rfl,
    runs rfl, runs rfl, runs rfl, runs rfl, runs rfl, runs rfl, runs rfl, runs rfl, runs rfl, runs rfl, runs rfl,
    runs rfl, runs rfl, runs rfl, runs rfl, runs rfl, runs rfl, runs rfl, runs rfl, runs rfl, runs rfl, runs rfl,
    runs rfl, runs rfl, runs rfl, runs rfl, runs rfl⟩

/-- Settles O53: each of them is one ESC that stores its operand. -/
theorem npxStores : Obligations.NpxStores := by
  intro s ea hl
  have stores : ∀ {op k x i}, exec i s = runInstr (escStore op ea (k + 1) x) s → s.escStores op ea (k + 1) x i :=
    fun hi => exec_escStore hi hl (Nat.succ_pos _)
  exact ⟨stores rfl, stores rfl, stores rfl, stores rfl, stores rfl, stores rfl, stores rfl, stores rfl, stores rfl,
    stores rfl, stores rfl⟩

end

section
/-! SUPPORT. The control of the 80287: FNCLEX on the status word's image, and the lengths of the images
(48_npx_architecture.md R591 to R594; 49_npx_instructions.md R707). -/

namespace Sys2Proof.Machine

/-- Only C3, ST, C2, C1 and C0 of an image that is cut down to them are read. -/
theorem StatusWord.ofWord_and_7F00 (w : Word) :
    StatusWord.ofWord (w &&& 0x7F00) = { StatusWord.ofWord w with es := false, bit6 := false, exc := 0 } := by
  have low : (w &&& 0x7F00).extractLsb' 0 6 = 0 := by
    rw [BitVec.extractLsb'_and]
    exact BitVec.and_zero
  have top : (w &&& 0x7F00).extractLsb' 11 3 = w.extractLsb' 11 3 := by
    rw [BitVec.extractLsb'_and]
    exact BitVec.and_allOnes
  unfold StatusWord.ofWord
  rw [low, top]
  simp

theorem clearFlags_eq_ofWord (n : Npx) : n.clearFlags = { n with sw := .ofWord (n.sw.word &&& 0x7F00) } := by
  rw [StatusWord.ofWord_and_7F00, StatusWord.ofWord_word]
  rfl

theorem envWords_length (n : Npx) : n.envWords.length = 7 := rfl

theorem saveWords_length (n : Npx) : n.saveWords.length = 47 := rfl

end Sys2Proof.Machine

open Sys2Proof Sys2Proof.Machine

/-- Settles O54: each of them is one of the shapes that load, store or change the 80287's own state. -/
theorem npxControl : Obligations.NpxControl := by
  intro s hl hp
  refine ⟨fun ea h => ?_, fun ea h => ?_, fun ea h => ?_, fun ea h => ⟨?_, ?_⟩, fun ea h => ?_, fun ea h => ?_,
    fun htest => ⟨?_, ?_, ?_, ?_⟩, fun htest => ⟨?_, ?_, fun x g d => ?_⟩⟩
  · exact exec_escLoadState (f := fun ws n => n.setCW (wordAt ws 0)) rfl hl Nat.one_pos h
  · exact exec_escLoadState rfl hl (by omega) h
  · exact exec_escLoadState rfl hl (by omega) h
  · rw [exec_escStoreState (image := fun n => [n.cw]) (after := pure ()) rfl hl rfl Nat.one_pos h, computed_pure]
  · rw [exec_escStoreState (image := fun n => [n.sw.word]) (after := pure ()) rfl hl rfl Nat.one_pos h, computed_pure]
  · rw [exec_escStoreState (after := changeNpx fun n => n.setCW (n.cw ||| 0x003F)) rfl hl (envWords_length _) (by omega) h,
      computed_changeNpx, storedAt_npx]
  · refine ⟨Config.undef16 s.undef, ?_⟩
    rw [exec_escStoreState (after := initNpx) rfl hl (saveWords_length _) (by omega) h, computed_initNpx,
      storedAt_npx, storedAt_undef]
  · rw [exec_completes rfl hl (statusToAx_run htest), if_pos hp]
  · refine ⟨Config.undef16 s.undef, ?_⟩
    rw [exec_escControl (x := initNpx) rfl hl htest hp, computed_initNpx]
  · rw [exec_escControl (x := changeNpx fun n => n.clearFlags) rfl hl htest hp, computed_changeNpx,
      clearFlags_eq_ofWord]
  · rw [exec_escControl (x := changeNpx fun n => { n with protectedMode := true }) rfl hl htest hp, computed_changeNpx]
  · rw [exec_escControl (x := pure ()) rfl hl htest hp, computed_pure]
  · rw [exec_escControl (x := pure ()) rfl hl htest hp, computed_pure]
  · rw [exec_escControl (x := pure ()) rfl hl htest hp, computed_pure]

end

section
/-! SUPPORT. The shapes of an ESC instruction, what each does with no 80287, and the processor extension segment overrun
(48_npx_architecture.md R534 to R537, R539; 60_exceptions.md R738, R779). -/

namespace Sys2Proof.Machine

/-! ### The shapes (R534, R535) -/

/-- The ESC instructions that are not error-checking (R534; log 35). -/
def UncheckedEsc (i : Instr) : Prop :=
  (∃ ea, i = .fnstenvM14byte ea ∨ i = .fnstcwM2byte ea ∨ i = .fnsaveM94byte ea ∨ i = .fnstswM2byte ea) ∨
    i ∈ [Instr.fnclex, .fninit, .fsetpm, .fnstswAx]

/-- An ESC instruction has an operand in memory, runs a numeric operation, controls the 80287, or is FNSTSW AX; its rule
begins with the tests of MSW and, unless it is one of the few, of ERROR. -/
inductive EscShape (i : Instr) : Prop
  | memory (first : Byte) (g : BitVec 3) (ea : Ea) (c : Bool) (k : Unit → M Unit)
      (bytes : encode i = first :: encodeEa g ea) (rule : ∀ s, exec i s = runInstr (escTest c >>= k) s)
      (unchecked : c = false → UncheckedEsc i)
  | numeric (op : BitVec 11) (x : N Unit) (rule : ∀ s, exec i s = runInstr (escReg op x) s)
  | control (c : Bool) (x : N Unit) (rule : ∀ s, exec i s = runInstr (escControl c x) s)
      (unchecked : c = false → UncheckedEsc i)
  | statusToAx (is : i = .fnstswAx)

theorem escShape {i : Instr} (he : isEsc i = true) : EscShape i := by
  cases i
  case escReserved => exact .control true (pure ()) (fun _ => rfl) nofun
  -- A register's number is part of the first byte.
  case incRw r | decRw r | pushRw r | popRw r | xchgAxRw r | movRbDb r _ | movRwDw r _ =>
    cases r <;> exact Bool.noConfusion he
  case fnstswAx => exact .statusToAx rfl
  case fneni | fndisi => exact .control true (pure ()) (fun _ => rfl) nofun
  case fnclex => exact .control false (changeNpx fun n => n.clearFlags) (fun _ => rfl) fun _ => .inr (by simp)
  case fninit => exact .control false initNpx (fun _ => rfl) fun _ => .inr (by simp)
  case fsetpm =>
    exact .control false (changeNpx fun n => { n with protectedMode := true }) (fun _ => rfl) fun _ => .inr (by simp)
  case fnstenvM14byte ea => exact .memory _ _ ea false _ rfl (fun _ => rfl) fun _ => .inl ⟨ea, .inl rfl⟩
  case fnstcwM2byte ea => exact .memory _ _ ea false _ rfl (fun _ => rfl) fun _ => .inl ⟨ea, .inr (.inl rfl)⟩
  case fnsaveM94byte ea => exact .memory _ _ ea false _ rfl (fun _ => rfl) fun _ => .inl ⟨ea, .inr (.inr (.inl rfl))⟩
  case fnstswM2byte ea => exact .memory _ _ ea false _ rfl (fun _ => rfl) fun _ => .inl ⟨ea, .inr (.inr (.inr rfl))⟩
  case faddM32real ea | fmulM32real ea | fcomM32real ea | fcompM32real ea | fsubM32real ea | fsubrM32real ea |
      fdivM32real ea | fdivrM32real ea | fldM32real ea | fiaddM32int ea | fimulM32int ea | ficomM32int ea |
      ficompM32int ea | fisubM32int ea | fisubrM32int ea | fidivM32int ea | fidivrM32int ea | fildM32int ea |
      fldM80real ea | faddM64real ea | fmulM64real ea | fcomM64real ea | fcompM64real ea | fsubM64real ea |
      fsubrM64real ea | fdivM64real ea | fdivrM64real ea | fldM64real ea | fiaddM16int ea | fimulM16int ea |
      ficomM16int ea | ficompM16int ea | fisubM16int ea | fisubrM16int ea | fidivM16int ea | fidivrM16int ea |
      fildM16int ea | fbldM80dec ea | fildM64int ea | fstM32real ea | fstpM32real ea | fistM32int ea | fistpM32int ea |
      fstpM80real ea | fstM64real ea | fstpM64real ea | fistM16int ea | fistpM16int ea | fbstpM80dec ea |
      fistpM64int ea | fldenvM14byte ea | fldcwM2byte ea | frstorM94byte ea =>
    exact .memory _ _ ea true _ rfl (fun _ => rfl) nofun
  case faddStSti | fmulStSti | fcomSti | fcompSti | fsubStSti | fsubrStSti | fdivStSti | fdivrStSti | fldSti |
      fxchSti | fnop | fstpStiD9 | fchs | fabs | ftst | fxam | fld1 | fldl2t | fldl2e | fldpi | fldlg2 | fldln2 |
      fldz | f2xm1 | fyl2x | fptan | fpatan | fxtract | fdecstp | fincstp | fprem | fyl2xp1 | fsqrt | frndint |
      fscale | faddStiSt | fmulStiSt | fcomStiDC | fcompStiDC | fsubrStiSt | fsubStiSt | fdivrStiSt | fdivStiSt |
      ffreeSti | fxchStiDD | fstSti | fstpSti | faddpStiSt | fmulpStiSt | fcompStiDE | fcompp | fsubrpStiSt |
      fsubpStiSt | fdivrpStiSt | fdivpStiSt | ffreeStiDF | fxchStiDF | fstpStiDFD0 | fstpStiDFD8 =>
    exact .numeric _ _ fun _ => rfl
  all_goals exact Bool.noConfusion he

theorem EscShape.tests {i : Instr} (h : EscShape i) : ∃ (c : Bool) (k : Unit → M Unit),
    (∀ s, exec i s = runInstr (escTest c >>= k) s) ∧ (c = false → UncheckedEsc i) := by
  cases h with
  | memory _ _ _ c k _ rule unchecked => exact ⟨c, k, rule, unchecked⟩
  | numeric _ _ rule => exact ⟨true, _, rule, nofun⟩
  | control c _ rule unchecked => exact ⟨c, _, rule, unchecked⟩
  | statusToAx is =>
    subst is
    exact ⟨false, _, fun _ => rfl, fun _ => .inr (by simp)⟩

/-- A memory form's second byte is below C0H. -/
theorem encodeEa_head_lt (g : BitVec 3) (ea : Ea) : ((encodeEa g ea).headD 0).toNat < 0xC0 := by
  have small : ∀ g c : BitVec 3, ((0 : BitVec 2) ++ g ++ c).toNat < 0xC0 ∧ ((1 : BitVec 2) ++ g ++ c).toNat < 0xC0 ∧
      ((2 : BitVec 2) ++ g ++ c).toNat < 0xC0 := by decide
  cases ea with
  | noDisp b => exact (small g b.code).1
  | direct d => exact (small g 6).1
  | disp8 b d => exact (small g b.code).2.1
  | disp16 b d => exact (small g b.code).2.2

/-! ### With no 80287 (R539, D35) -/

section Absent
variable {s : State} {i : Instr} {op : BitVec 11} {ea : Ea} {k : Nat} {c : Bool} (hl : s.lockOk = true)
  (htest : ∀ c, s.escOk c = true) (hn : s.npxPresent = false)
include hl htest hn

theorem exec_escReg_absent {x : N Unit} (hi : exec i s = runInstr (escReg op x) s) : exec i s = .next s.done := by
  refine exec_completes hi hl ?_
  unfold escReg
  rw [escTest_bind _ (htest _), whenPresent_absent _ hn]

theorem exec_escControl_absent {x : N Unit} (hi : exec i s = runInstr (escControl c x) s) :
    exec i s = .next s.done := by
  refine exec_completes hi hl ?_
  unfold escControl
  rw [escTest_bind _ (htest _), whenPresent_absent _ hn]

theorem exec_escLoad_absent {x : Nat → N Unit} (hr : s.readOk (s.eaSeg ea) (s.eaOff ea) 2 = true)
    (hi : exec i s = runInstr (escLoad op ea k x) s) : exec i s = .next s.done := by
  refine exec_completes hi hl ?_
  unfold escLoad
  rw [escTest_bind _ (htest _), run_get_bind, checkRead_bind _ hr, whenPresent_absent _ hn]

theorem exec_escLoadState_absent {f : List Word → Npx → Npx} (hr : s.readOk (s.eaSeg ea) (s.eaOff ea) 2 = true)
    (hi : exec i s = runInstr (escLoadState ea k f) s) : exec i s = .next s.done := by
  refine exec_completes hi hl ?_
  unfold escLoadState
  rw [escTest_bind _ (htest _), run_get_bind, checkRead_bind _ hr, whenPresent_absent _ hn]

theorem exec_escStore_absent {x : N Nat} (hw : s.writeOk (s.eaSeg ea) (s.eaOff ea) 2 = true)
    (hi : exec i s = runInstr (escStore op ea k x) s) : exec i s = .next s.done := by
  refine exec_completes hi hl ?_
  unfold escStore
  rw [escTest_bind _ (htest _), run_get_bind, checkWrite_bind _ hw, whenPresent_absent _ hn]

theorem exec_escStoreState_absent {absent : List Word} {image : Npx → List Word} {after : N Unit}
    (hw : s.writeOk (s.eaSeg ea) (s.eaOff ea) 2 = true) (hlen : absent.length ≤ 1)
    (hi : exec i s = runInstr (escStoreState ea absent image after) s) :
    exec i s = .next (s.storedAt s ea absent).done := by
  refine exec_completes hi hl ?_
  unfold escStoreState
  rw [escTest_bind _ (htest _), run_get_bind, checkWrite_bind _ hw, if_neg (Bool.eq_false_iff.mp hn)]
  match absent, hlen with
  | [], _ => rfl
  | [w], _ => exact putWords_run [w] (writeOk_inLimit hw)

end Absent

/-! ### The segment overrun (R537) -/

/-- Vector 9 raised in `t`, whose 80287 was `p`, is the overrun: delivered, or left waiting while NMI is masked (D46). -/
theorem overruns_raises (t : State) (p : Npx) :
    t.overruns p ((({ t with npx := p } : State).computed loseNpx).raises .px9) := by
  refine ⟨(loseNpx.runFrom p t.undef).2.npx, (loseNpx.runFrom p t.undef).2.undef, fun h => ?_, fun h => ?_⟩
  · exact congrArg Host.Outcome.next (if_neg fun hm => Bool.eq_false_iff.mp h hm.2)
  · exact congrArg Host.Outcome.next (if_pos ⟨rfl, h⟩)

theorem overruns_raises_self {t : State} {p : Npx} (h : t.npx = p) : t.overruns p ((t.computed loseNpx).raises .px9) := by
  subst h
  exact overruns_raises t t.npx

section Overruns
variable {s : State} {i : Instr} {op : BitVec 11} {ea : Ea} {n k : Nat} (hl : s.lockOk = true) (hk : k < n)
  (hend : s.endsAfter ea k)
include hl hk hend

theorem exec_escLoad_overruns {x : Nat → N Unit} (hi : exec i s = runInstr (escLoad op ea n x) s)
    (h : s.escReadOk 1 ea = true) :
    (s.operandRead k ea).overruns (s.latch op (some ea)).npx (exec i s) := by
  obtain ⟨hin, hnext⟩ := hend
  have hrun := getWords_overrun (s := s.latch op (some ea)) hk (by rw [latch_seg]; exact hin)
    (by rw [latch_seg]; exact inLimit_next hin hnext)
  rw [latch_wordAddrs, ← operandAddrs_eq_wordAddrs] at hrun
  rw [exec_raises hi hl ((escLoad_begin x h).trans (run_bind_error hrun))]
  exact overruns_raises _ _

theorem exec_escLoadState_overruns {f : List Word → Npx → Npx} (hi : exec i s = runInstr (escLoadState ea n f) s)
    (h : s.escReadOk 1 ea = true) : (s.operandRead k ea).overruns s.npx (exec i s) := by
  obtain ⟨hin, hnext⟩ := hend
  have hrun := getWords_overrun hk hin (inLimit_next hin hnext)
  rw [← operandAddrs_eq_wordAddrs] at hrun
  rw [exec_raises hi hl ((escLoadState_begin f h).trans (run_bind_error hrun))]
  exact overruns_raises _ _

theorem exec_escStoreState_overruns {absent : List Word} {image : Npx → List Word} {after : N Unit}
    (hi : exec i s = runInstr (escStoreState ea absent image after) s) (hlen : (image s.npx).length = n)
    (h : s.escWriteOk false 1 ea = true) :
    (s.storedAt s ea ((image s.npx).take k)).overruns s.npx (exec i s) := by
  obtain ⟨hin, hnext⟩ := hend
  have hrun := putWords_overrun (hlen.symm ▸ hk) hin (inLimit_next hin hnext)
  rw [exec_raises hi hl ((escStoreState_begin absent image after h).trans (run_bind_error hrun))]
  exact overruns_raises_self (storedAt_npx ..)

end Overruns

theorem exec_escStore_overruns {s : State} {i : Instr} {op : BitVec 11} {ea : Ea} {n : Nat} {x : N Nat}
    (hl : s.lockOk = true) (hi : exec i s = runInstr (escStore op ea n x) s) : s.storeOverruns op ea n x i := by
  intro h k hk hend
  obtain ⟨hin, hnext⟩ := hend
  have hbegin := escStore_begin (op := op) (k := n) x h
  dsimp only
  cases hv : (s.latch op (some ea)).answered x with
  | none =>
    rw [hv] at hbegin
    exact exec_completes hi hl hbegin
  | some v =>
    rw [hv] at hbegin
    have hseg : ((s.latch op (some ea)).computed x).seg (s.eaSeg ea) = s.seg (s.eaSeg ea) :=
      (computed_seg _ x _).trans (latch_seg ..)
    have hrun := putWords_overrun (s := (s.latch op (some ea)).computed x) (ws := valueWords n v)
      (by rw [valueWords_length]; exact hk) (by rw [hseg]; exact hin) (by rw [hseg]; exact inLimit_next hin hnext)
    dsimp only
    rw [exec_raises hi hl (hbegin.trans hrun)]
    exact overruns_raises_self (storedAt_npx ..)

end Sys2Proof.Machine

open Sys2Proof Sys2Proof.Machine

/-- Settles O50, from the shape of an ESC: its first tests, its rule with no 80287, and the word at which its operand
leaves the segment. -/
theorem escTraps : Obligations.EscTraps := by
  refine ⟨fun i s hl he => ?_, fun s hl hem hts hn => ?_, fun s ea hl h => ?_, fun s ea hl h => ?_, fun s ea hl h => ?_,
    fun s ea hl => ?_⟩
  · obtain ⟨c, k, rule, unchecked⟩ := (escShape he).tests
    refine ⟨fun h => exec_raises (rule s) hl (escTest_nm k h), fun hem hts hnpx hmem hreg => ?_⟩
    cases c with
    | true => exact exec_raises (rule s) hl (escTest_mf k hem hts hnpx)
    | false =>
      rcases unchecked rfl with ⟨ea, h⟩ | h
      · obtain ⟨h1, h2, h3, h4⟩ := hmem ea
        rcases h with h | h | h | h <;> contradiction
      · exact absurd h hreg
  · have htest : ∀ c, s.escOk c = true := fun c => escOk_absent c hem hts hn
    refine ⟨?_, fun i b m he bytes hm hax => ?_, fun x g d => exec_escControl_absent hl htest hn (x := pure ()) rfl,
      fun ea hr => ?_, fun ea hw => ⟨?_, ?_, ?_⟩⟩
    · rw [exec_completes rfl hl (statusToAx_run (htest _)), hn, if_neg Bool.false_ne_true]
    · cases escShape he with
      | memory first g ea _ _ hbytes _ _ =>
        rw [hbytes, List.cons.injEq] at bytes
        have := encodeEa_head_lt g ea
        rw [bytes.2] at this
        exact absurd hm (Nat.not_le.mpr this)
      | numeric _ _ rule => exact exec_escReg_absent hl htest hn (rule s)
      | control _ _ rule => exact exec_escControl_absent hl htest hn (rule s)
      | statusToAx is => exact absurd is hax
    · have load : ∀ {op k x i}, exec i s = runInstr (escLoad op ea k x) s → exec i s = .next s.done :=
        fun hi => exec_escLoad_absent hl htest hn hr hi
      have loadState : ∀ {k f i}, exec i s = runInstr (escLoadState ea k f) s → exec i s = .next s.done :=
        fun hi => exec_escLoadState_absent hl htest hn hr hi
      simp only [List.forall_mem_cons]
      exact ⟨load rfl, load rfl, load rfl, load rfl, load rfl, load rfl, load rfl, load rfl, load rfl, load rfl,
        load rfl, load rfl, load rfl, load rfl, load rfl, load rfl, load rfl, load rfl, load rfl, load rfl, load rfl,
        load rfl, load rfl, load rfl, load rfl, load rfl, load rfl, load rfl, load rfl, load rfl, load rfl, load rfl,
        load rfl, load rfl, load rfl, load rfl, load rfl, load rfl, load rfl,
        loadState (f := fun ws n => n.setCW (wordAt ws 0)) rfl, loadState rfl, loadState rfl, List.forall_mem_nil _⟩
    · exact exec_escStoreState_absent hl htest hn hw le_rfl (image := fun n => [n.cw]) (after := pure ()) rfl
    · exact exec_escStoreState_absent hl htest hn hw le_rfl (image := fun n => [n.sw.word]) (after := pure ()) rfl
    · have store : ∀ {op k x i}, exec i s = runInstr (escStore op ea k x) s → exec i s = .next s.done :=
        fun hi => exec_escStore_absent hl htest hn hw hi
      have nothing : ∀ {image after i}, exec i s = runInstr (escStoreState ea [] image after) s →
          exec i s = .next s.done := fun hi => exec_escStoreState_absent hl htest hn hw (Nat.zero_le _) hi
      simp only [List.forall_mem_cons]
      exact ⟨store rfl, store rfl, store rfl, store rfl, store rfl, store rfl, store rfl, store rfl, store rfl,
        store rfl, store rfl, nothing (after := changeNpx fun n => n.setCW (n.cw ||| 0x003F)) rfl,
        nothing (after := initNpx) rfl, List.forall_mem_nil _⟩
  · have ends : ∀ {op n x i}, exec i s = runInstr (escLoad op ea n x) s → ∀ k < n, s.endsAfter ea k →
        (s.operandRead k ea).overruns (s.latch op (some ea)).npx (exec i s) :=
      fun hi k hk hend => exec_escLoad_overruns hl hk hend hi h
    simp only [List.forall_mem_cons]
    exact ⟨ends rfl, ends rfl, ends rfl, ends rfl, ends rfl, ends rfl, ends rfl, ends rfl, ends rfl, ends rfl,
      ends rfl, ends rfl, ends rfl, ends rfl, ends rfl, ends rfl, ends rfl, ends rfl, ends rfl, ends rfl, ends rfl,
      ends rfl, ends rfl, ends rfl, ends rfl, ends rfl, ends rfl, ends rfl, ends rfl, ends rfl, List.forall_mem_nil _⟩
  · simp only [List.forall_mem_cons]
    exact ⟨fun k hk hend => exec_escLoadState_overruns hl hk hend (f := Npx.loadEnv) rfl h,
      fun k hk hend => exec_escLoadState_overruns hl hk hend (f := Npx.loadAll) rfl h, List.forall_mem_nil _⟩
  · simp only [List.forall_mem_cons]
    exact ⟨fun k hk hend => exec_escStoreState_overruns (image := Npx.envWords)
        (after := changeNpx fun n => n.setCW (n.cw ||| 0x003F)) hl hk hend rfl rfl h,
      fun k hk hend => exec_escStoreState_overruns (image := Npx.saveWords) (after := initNpx) hl hk hend rfl rfl h,
      List.forall_mem_nil _⟩
  · have ends : ∀ {op n x i}, exec i s = runInstr (escStore op ea n x) s → s.storeOverruns op ea n x i :=
      fun hi => exec_escStore_overruns hl hi
    exact ⟨ends rfl, ends rfl, ends rfl, ends rfl, ends rfl, ends rfl, ends rfl, ends rfl, ends rfl⟩

end

section
/-! SUPPORT. Rounding as a statement on natural numbers, and in units of a power of two (48_npx_architecture.md R570). -/

namespace Sys2Proof.Machine

/-- `m` is what `rc` makes of the quotient `N / D` of a value with sign `neg`, and `inexact` whether that is another
value. -/
structure Rounds (rc : Rounding) (neg : Bool) (N D m : Nat) (inexact : Bool) : Prop where
  inexact_iff : inexact = false ↔ N % D = 0
  exact : inexact = false → m * D = N
  above : N < m * D + D
  below : m * D < N + D
  chop : rc = .chop → m * D ≤ N
  down : rc = .down → if neg then N ≤ m * D else m * D ≤ N
  up : rc = .up → if neg then m * D ≤ N else N ≤ m * D
  nearest : rc = .nearest → 2 * (m * D) ≤ 2 * N + D ∧ 2 * N ≤ 2 * (m * D) + D
  tie : rc = .nearest → 2 * (m * D) = 2 * N + D ∨ 2 * N = 2 * (m * D) + D → m % 2 = 0

/-- A multiple of the unit is its own rounding. -/
theorem Rounds.self (rc : Rounding) (neg : Bool) (N : Nat) : Rounds rc neg N 1 N false where
  inexact_iff := ⟨fun _ => Nat.mod_one N, fun _ => rfl⟩
  exact _ := Nat.mul_one N
  above := by omega
  below := by omega
  chop _ := by omega
  down _ := by split <;> omega
  up _ := by split <;> omega
  nearest _ := by omega
  tie _ := by omega

section Quotient
variable {rc : Rounding} {neg : Bool} {q r half : Nat}

theorem quotient_exact_iff (hr : r < 2 * half) : (r != 0) = false ↔ (q * (2 * half) + r) % (2 * half) = 0 := by
  rw [Nat.add_comm, Nat.add_mul_mod_self_right, Nat.mod_eq_of_lt hr, bne_eq_false_iff_eq]

/-- The multiple toward zero, where the mode allows it. -/
theorem rounds_toward (hr : r < 2 * half) (hdown : rc = .down → neg = true → r = 0)
    (hup : rc = .up → neg = false → r = 0) (hnear : rc = .nearest → r ≤ half ∧ (r = half → q % 2 = 0)) :
    Rounds rc neg (q * (2 * half) + r) (2 * half) q (r != 0) where
  inexact_iff := quotient_exact_iff hr
  exact h := by rw [bne_eq_false_iff_eq.mp h, Nat.add_zero]
  above := by omega
  below := by omega
  chop _ := by omega
  down h := by
    split
    · next hneg => rw [hdown h hneg, Nat.add_zero]
    · omega
  up h := by
    split
    · omega
    · next hneg => rw [hup h (Bool.eq_false_iff.mpr hneg), Nat.add_zero]
  nearest h := by have := (hnear h).1; omega
  tie h _ := by
    obtain ⟨hle, heven⟩ := hnear h
    exact heven (by omega)

/-- The multiple away from zero, where the mode asks for it. -/
theorem rounds_away (hr : r < 2 * half) (h0 : r ≠ 0) (hchop : rc ≠ .chop) (hdown : rc = .down → neg = true)
    (hup : rc = .up → neg = false) (hnear : rc = .nearest → half ≤ r ∧ (r = half → q % 2 = 1)) :
    Rounds rc neg (q * (2 * half) + r) (2 * half) (q + 1) (r != 0) := by
  have hnext : (q + 1) * (2 * half) = q * (2 * half) + 2 * half := Nat.succ_mul ..
  refine ⟨quotient_exact_iff hr, fun h => absurd (bne_eq_false_iff_eq.mp h) h0, ?_, ?_, fun h => absurd h hchop,
    fun h => ?_, fun h => ?_, fun h => ?_, fun h _ => ?_⟩
  · omega
  · omega
  · rw [if_pos (hdown h)]
    omega
  · rw [if_neg (Bool.eq_false_iff.mp (hup h))]
    omega
  · have := (hnear h).1
    omega
  · obtain ⟨hle, hodd⟩ := hnear h
    have := hodd (by omega)
    omega

/-- Whether the magnitude with quotient `q` and remainder `r` is rounded away from zero; `half` is half a unit. -/
def roundsAway (rc : Rounding) (neg : Bool) (q r half : Nat) : Bool :=
  match rc with
  | .nearest => decide (half < r) || (r == half && q % 2 == 1)
  | .down => neg && r != 0
  | .up => !neg && r != 0
  | .chop => false

theorem rounds_quotient (rc : Rounding) (neg : Bool) (hr : r < 2 * half) :
    Rounds rc neg (q * (2 * half) + r) (2 * half) (if roundsAway rc neg q r half then q + 1 else q) (r != 0) := by
  have hhalf : 0 < half := by omega
  split
  · next h =>
    refine rounds_away hr ?_ ?_ ?_ ?_ ?_ <;> cases rc <;> simp_all [roundsAway] <;> omega
  · next h =>
    refine rounds_toward hr ?_ ?_ ?_ <;> cases rc <;> simp_all [roundsAway]

end Quotient

/-- To a unit that is no coarser, nothing is rounded. -/
theorem roundTo_fine (rc : Rounding) (neg : Bool) (n : Nat) {e g : Int} (h : g ≤ e) :
    roundTo rc neg ⟨n, e, false⟩ g = (n * 2 ^ (e - g).toNat, false) := by
  unfold roundTo
  rw [if_pos h, Nat.shiftLeft_eq]

/-- To a coarser unit, on quotient and remainder. -/
theorem roundTo_coarse (rc : Rounding) (neg : Bool) (n : Nat) {e g : Int} {d : Nat} (h : g = e + (d + 1 : Nat)) :
    let q := n / (2 * 2 ^ d)
    let r := n % (2 * 2 ^ d)
    roundTo rc neg ⟨n, e, false⟩ g = (if roundsAway rc neg q r (2 ^ d) then q + 1 else q, r != 0) := by
  have hd : (g - e).toNat = d + 1 := by omega
  unfold roundTo
  rw [if_neg (show ¬g ≤ e by omega)]
  simp only [hd, pow_succ' 2 d, Nat.shiftRight_eq_div_pow, Nat.add_sub_cancel, Bool.or_false, Bool.false_or]
  cases rc <;> rfl

/-! ### In units of a power of two -/

theorem two_zpow_add_nat (e : Int) (d : Nat) : (2 : ℚ) ^ (e + d) = 2 ^ d * 2 ^ e := by
  rw [zpow_add₀ two_ne_zero, zpow_natCast, mul_comm]

/-- A magnitude and its rounding are the naturals `N` and `m` in units of one rational `v`, the multiples being of
`D * v`. -/
theorem roundTo_rounds (rc : Rounding) (neg : Bool) (n : Nat) (e g : Int) : ∃ (N D : Nat) (v : ℚ), 0 < v ∧
    (⟨n, e, false⟩ : Exact).value = N * v ∧ (2 : ℚ) ^ g = D * v ∧
    Rounds rc neg N D (roundTo rc neg ⟨n, e, false⟩ g).1 (roundTo rc neg ⟨n, e, false⟩ g).2 := by
  by_cases h : g ≤ e
  · obtain ⟨k, rfl⟩ : ∃ k : Nat, e = g + k := ⟨(e - g).toNat, by omega⟩
    refine ⟨n * 2 ^ k, 1, 2 ^ g, by positivity, ?_, ?_, ?_⟩
    · rw [Exact.value, two_zpow_add_nat]
      push_cast
      ring
    · rw [Nat.cast_one, one_mul]
    · rw [roundTo_fine rc neg n h, show (g + (k : Int) - g).toNat = k by omega]
      exact Rounds.self ..
  · obtain ⟨d, hd⟩ : ∃ d : Nat, g = e + (d + 1 : Nat) := ⟨(g - e).toNat - 1, by omega⟩
    refine ⟨n, 2 * 2 ^ d, 2 ^ e, by positivity, rfl, ?_, ?_⟩
    · rw [hd, two_zpow_add_nat]
      push_cast
      ring
    · rw [roundTo_coarse rc neg n hd]
      have := rounds_quotient (q := n / (2 * 2 ^ d)) rc neg (Nat.mod_lt n (by positivity : 0 < 2 * 2 ^ d))
      rwa [Nat.div_add_mod'] at this

end Sys2Proof.Machine

open Sys2Proof Sys2Proof.Machine

/-- Settles O55: in units in which value and multiple are whole, each clause is one of natural numbers. -/
theorem roundingIsCorrect : Obligations.RoundingIsCorrect := by
  intro rc neg n e g
  obtain ⟨N, D, v, hv, hx, hu, h⟩ := roundTo_rounds rc neg n e g
  dsimp only
  generalize roundTo rc neg ⟨n, e, false⟩ g = r at h ⊢
  have hru : (r.1 : ℚ) * (D * v) = (r.1 * D : Nat) * v := by push_cast; ring
  have hle : ∀ a b : Nat, (a : ℚ) * v ≤ b * v ↔ a ≤ b := fun a b => by
    rw [mul_le_mul_iff_of_pos_right hv, Nat.cast_le]
  have habove : (N : ℚ) < (r.1 * D : Nat) + D := by exact_mod_cast h.above
  have hbelow : ((r.1 * D : Nat) : ℚ) < N + D := by exact_mod_cast h.below
  rw [hx, hu, hru, ← sub_mul, abs_mul, abs_of_pos hv]
  refine ⟨h.inexact_iff.trans ⟨fun hmod => ?_, fun ⟨k, hk⟩ => ?_⟩, fun hr => ?_, ?_, fun hrc => ?_, fun hrc => ?_,
    fun hrc => ?_, fun hrc => ?_⟩
  · obtain ⟨k, rfl⟩ := Nat.dvd_of_mod_eq_zero hmod
    exact ⟨k, by push_cast; ring⟩
  · have hN : (N : ℚ) = (k * D : Nat) := mul_right_cancel₀ hv.ne' (hk.trans (by push_cast; ring))
    rw [Nat.cast_injective hN, Nat.mul_mod_left]
  · rw [h.exact hr]
  · rw [mul_lt_mul_iff_of_pos_right hv, abs_sub_lt_iff]
    exact ⟨by linarith, by linarith⟩
  · exact (hle _ _).mpr (h.chop hrc)
  · have := h.down hrc
    split_ifs at this ⊢ <;> exact (hle _ _).mpr this
  · have := h.up hrc
    split_ifs at this ⊢ <;> exact (hle _ _).mpr this
  · obtain ⟨hhigh, hlow⟩ := h.nearest hrc
    have hhigh' : 2 * ((r.1 * D : Nat) : ℚ) ≤ 2 * N + D := by exact_mod_cast hhigh
    have hlow' : 2 * (N : ℚ) ≤ 2 * (r.1 * D : Nat) + D := by exact_mod_cast hlow
    rw [← mul_assoc, mul_le_mul_iff_of_pos_right hv, mul_left_inj' hv.ne']
    refine ⟨?_, fun ht => h.tie hrc ?_⟩
    · have : |((r.1 * D : Nat) : ℚ) - N| ≤ D / 2 := abs_sub_le_iff.mpr ⟨by linarith, by linarith⟩
      linarith
    · rcases abs_cases (((r.1 * D : Nat) : ℚ) - N) with ⟨habs, -⟩ | ⟨habs, -⟩
      · have : (2 * (r.1 * D) : ℚ) = 2 * N + D := by push_cast at *; linarith
        exact .inl (by exact_mod_cast this)
      · have : (2 * N : ℚ) = 2 * (r.1 * D) + D := by push_cast at *; linarith
        exact .inr (by exact_mod_cast this)

end

section
/-! SUPPORT. The fields, the class and the value of temporary reals, and of integers in that format
(48_npx_architecture.md R541 to R543, R550). -/

namespace Sys2Proof.Machine

/-! ### Fields -/

section Fields
variable (neg : Bool) {e sig : Nat}

theorem realSign_mkReal (e sig : Nat) : realSign (mkReal neg e sig) = neg := by
  unfold realSign mkReal
  rw [BitVec.append_assoc, BitVec.getLsbD_cast, BitVec.getLsbD_append]
  simp

theorem realExp_mkReal (sig : Nat) (he : e < 2 ^ 15) : realExp (mkReal neg e sig) = e := by
  have h : (mkReal neg e sig).extractLsb' 64 15 = BitVec.ofNat 15 e := by
    apply BitVec.eq_of_getLsbD_eq
    intro i hi
    unfold mkReal
    simp only [BitVec.getLsbD_extractLsb', BitVec.getLsbD_append]
    simp [hi]
  rw [realExp, h, BitVec.toNat_ofNat, Nat.mod_eq_of_lt he]

theorem realSig_mkReal (e : Nat) (hs : sig < 2 ^ 64) : realSig (mkReal neg e sig) = sig := by
  rw [realSig, mkReal, BitVec.extractLsb'_append_eq_right, BitVec.toNat_ofNat, Nat.mod_eq_of_lt hs]

end Fields

theorem realExp_lt (x : Reg80) : realExp x < 2 ^ 15 := BitVec.isLt _

theorem realSig_lt (x : Reg80) : realSig x < 2 ^ 64 := BitVec.isLt _

/-- A temporary real is its three fields. -/
theorem mkReal_fields (x : Reg80) : mkReal (realSign x) (realExp x) (realSig x) = x := by
  unfold mkReal realSign realExp realSig
  rw [BitVec.ofNat_toNat, BitVec.ofNat_toNat, BitVec.setWidth_eq, BitVec.setWidth_eq]
  apply BitVec.eq_of_getLsbD_eq
  intro i hi
  simp only [BitVec.getLsbD_append, BitVec.getLsbD_extractLsb', BitVec.getLsbD_ofBool]
  by_cases h1 : i < 64
  · simp [h1]
  · by_cases h2 : i < 79
    · simp [h1, show i - 64 < 15 by omega, show 64 + (i - 64) = i by omega]
    · obtain rfl : i = 79 := by omega
      simp

/-! ### Classes (R550) -/

theorem classOf_normal_iff (x : Reg80) :
    classOf x = .normal ↔ realExp x ≠ 0 ∧ realExp x ≠ 0x7FFF ∧ 2 ^ 63 ≤ realSig x := by
  unfold classOf
  split_ifs <;> simp_all

theorem classOf_zero_iff (x : Reg80) : classOf x = .zero ↔ realExp x = 0 ∧ realSig x = 0 := by
  unfold classOf
  split_ifs <;> simp_all

theorem realSign_realZero (neg : Bool) : realSign (realZero neg) = neg := realSign_mkReal neg 0 0

theorem classOf_realZero (neg : Bool) : classOf (realZero neg) = .zero :=
  (classOf_zero_iff _).mpr ⟨realExp_mkReal neg 0 (by norm_num), realSig_mkReal neg 0 (by norm_num)⟩

/-! ### Integers (R541) -/

section OfNat
variable (neg : Bool) {n : Nat} (h0 : n ≠ 0) (hn : n < 2 ^ 64)
include h0 hn

theorem log2_le_63 : Nat.log2 n ≤ 63 := Nat.le_of_lt_succ ((Nat.log2_lt h0).mpr hn)

/-- The significand of an integer: its leading one stands in bit 63. -/
theorem normalized_sig_bounds : 2 ^ 63 ≤ n * 2 ^ (63 - Nat.log2 n) ∧ n * 2 ^ (63 - Nat.log2 n) < 2 ^ 64 := by
  have hlog := log2_le_63 h0 hn
  have hlow : 2 ^ Nat.log2 n ≤ n := Nat.log2_self_le h0
  have hhigh : n < 2 ^ (Nat.log2 n + 1) := Nat.lt_log2_self
  constructor
  · calc 2 ^ 63 = 2 ^ Nat.log2 n * 2 ^ (63 - Nat.log2 n) := by rw [← pow_add]; congr 1; omega
      _ ≤ _ := Nat.mul_le_mul_right _ hlow
  · calc n * 2 ^ (63 - Nat.log2 n) < 2 ^ (Nat.log2 n + 1) * 2 ^ (63 - Nat.log2 n) :=
          Nat.mul_lt_mul_of_pos_right hhigh (by positivity)
      _ = 2 ^ 64 := by rw [← pow_add]; congr 1; omega

omit hn in
theorem ofNatReal_eq : ofNatReal neg n = mkReal neg (16383 + Nat.log2 n) (n * 2 ^ (63 - Nat.log2 n)) := by
  rw [ofNatReal, if_neg h0, Nat.shiftLeft_eq]

omit hn in
theorem realSign_ofNatReal : realSign (ofNatReal neg n) = neg := by
  rw [ofNatReal_eq neg h0, realSign_mkReal]

theorem realSig_ofNatReal : realSig (ofNatReal neg n) = n * 2 ^ (63 - Nat.log2 n) := by
  rw [ofNatReal_eq neg h0, realSig_mkReal _ _ (normalized_sig_bounds h0 hn).2]

theorem realExp_ofNatReal : realExp (ofNatReal neg n) = 16383 + Nat.log2 n := by
  have := log2_le_63 h0 hn
  rw [ofNatReal_eq neg h0, realExp_mkReal _ _ (by omega)]

theorem classOf_ofNatReal : classOf (ofNatReal neg n) = .normal := by
  have := log2_le_63 h0 hn
  rw [classOf_normal_iff, realSig_ofNatReal neg h0 hn, realExp_ofNatReal neg h0 hn]
  exact ⟨by omega, by omega, (normalized_sig_bounds h0 hn).1⟩

theorem magnitude_ofNatReal : magnitude (ofNatReal neg n) =
    ⟨n * 2 ^ (63 - Nat.log2 n), -((63 - Nat.log2 n : Nat) : Int), false⟩ := by
  have := log2_le_63 h0 hn
  unfold magnitude realTrue realEff
  rw [realSig_ofNatReal neg h0 hn, realExp_ofNatReal neg h0 hn, if_neg (by omega)]
  congr 1
  omega

end OfNat

/-- A magnitude that is a multiple of the unit is rounded to that multiple (R570). -/
theorem roundTo_of_multiple (rc : Rounding) (neg : Bool) {n : Nat} {e g : Int} {m : Nat}
    (h : (⟨n, e, false⟩ : Exact).value = m * 2 ^ g) : roundTo rc neg ⟨n, e, false⟩ g = (m, false) := by
  obtain ⟨N, D, v, hv, hx, hu, hr⟩ := roundTo_rounds rc neg n e g
  have hD : 0 < D := Nat.pos_of_ne_zero fun h0 => by
    rw [h0, Nat.cast_zero, zero_mul] at hu
    exact absurd hu (by positivity)
  have hN : N = m * D := by
    have : (N : ℚ) * v = (m * D : Nat) * v := by rw [← hx, h, hu]; push_cast; ring
    exact_mod_cast mul_right_cancel₀ hv.ne' this
  have hexact := hr.inexact_iff.mpr (by rw [hN, Nat.mul_mod_left])
  exact Prod.ext (Nat.eq_of_mul_eq_mul_right hD ((hr.exact hexact).trans hN)) hexact

theorem value_shifted (n k : Nat) : (⟨n * 2 ^ k, -(k : Int), false⟩ : Exact).value = n := by
  rw [Exact.value, zpow_neg, zpow_natCast]
  push_cast
  field_simp

/-- An integer in the format of a temporary real is rounded to itself (R541, R570). -/
theorem roundTo_ofNatReal (rc : Rounding) (neg sign : Bool) {n : Nat} (h0 : n ≠ 0) (hn : n < 2 ^ 64) :
    roundTo rc sign (magnitude (ofNatReal neg n)) 0 = (n, false) := by
  rw [magnitude_ofNatReal neg h0 hn]
  exact roundTo_of_multiple rc sign (by rw [value_shifted, zpow_zero, mul_one])

end Sys2Proof.Machine

end

section
/-! SUPPORT. How integers and packed decimals are stored (48_npx_architecture.md R541, R542, R546;
49_npx_instructions.md R630, R633). -/

namespace Sys2Proof.Machine

/-- A register that is not empty is read as it stands (49_npx_instructions.md R624). -/
theorem N.runFrom_source_full {n : Npx} {i : BitVec 3} (u : Nat) (h : n.empty (n.phys i) = false) :
    (source i).runFrom n u = (some (n.reg (n.phys i)), ⟨n, u⟩) := by
  unfold source
  rw [N.runFrom_bind, N.runFrom_theNpx]
  simp only [h, Bool.false_eq_true, if_false, N.runFrom_pure]

theorem phys_zero (n : Npx) : n.phys 0 = n.top := BitVec.add_zero _

theorem N.runFrom_signalPrecision_exact (n : Npx) (u : Nat) :
    (signalPrecision false).runFrom n u = (some (), ⟨n, u⟩) := rfl

/-! ### Binary integers (R541) -/

/-- The signed value of `bits` bits is that of their pattern, modulo the number of patterns. -/
theorem toNat_emod_toInt {bits v : Nat} (hv : v < 2 ^ bits) :
    ((BitVec.ofNat bits v).toInt % 2 ^ bits).toNat = v := by
  have h : ((2 ^ bits : Nat) : Int) = 2 ^ bits := by push_cast; rfl
  rw [← h, ← BitVec.toNat_ofInt, BitVec.ofInt_toInt, BitVec.toNat_ofNat, Nat.mod_eq_of_lt hv]

section Int
variable {bits : Nat} {z : Int}

/-- An integer in range is stored without rounding. -/
theorem runFrom_intImage {n : Npx} (u : Nat) (he : n.empty n.top = false) (hx : n.reg n.top = ofIntReal z)
    (hz : z.natAbs < 2 ^ 64) (hlow : -(2 ^ (bits - 1) : Int) ≤ z) (hhigh : z < 2 ^ (bits - 1)) :
    (intImage bits).runFrom n u = (some (z % 2 ^ bits).toNat, ⟨n, u⟩) := by
  unfold intImage
  rw [N.runFrom_bind, N.runFrom_source_full u (by rwa [phys_zero]), phys_zero, hx]
  simp only [N.runFrom_bind, N.runFrom_theNpx]
  by_cases h0 : z.natAbs = 0
  · have hzero : ofIntReal z = realZero (decide (z < 0)) := by rw [ofIntReal, ofNatReal, if_pos h0]
    rw [hzero, classOf_realZero, Int.natAbs_eq_zero.mp h0, Int.zero_emod]
    rfl
  · have hvalue : (if decide (z < 0) = true then -(z.natAbs : Int) else z.natAbs) = z := by
      split_ifs with hneg <;> simp only [decide_eq_true_eq] at hneg <;> omega
    rw [ofIntReal, classOf_ofNatReal _ h0 hz, realSign_ofNatReal _ h0]
    simp only [roundTo_ofNatReal _ _ _ h0 hz, hvalue, hlow, hhigh, and_self, if_true, N.runFrom_bind,
      N.runFrom_signalPrecision_exact, N.runFrom_pure]

end Int

/-! ### Packed decimals (R542) -/

theorem bcdValue_lt (k : Nat) {v : Nat} (h : bcdValid k v = true) : bcdValue k v < 10 ^ k := by
  induction k generalizing v with
  | zero => exact Nat.one_pos
  | succ k ih =>
    rw [bcdValid, Bool.and_eq_true, decide_eq_true_eq] at h
    have := ih h.2
    rw [bcdValue, pow_succ]
    omega

/-- The digits of a packed decimal's value are its own. -/
theorem bcdDigits_bcdValue (k : Nat) {v : Nat} (h : bcdValid k v = true) (hv : v < 16 ^ k) :
    bcdDigits k (bcdValue k v) = v := by
  induction k generalizing v with
  | zero => exact (Nat.lt_one_iff.mp hv).symm
  | succ k ih =>
    rw [bcdValid, Bool.and_eq_true, decide_eq_true_eq] at h
    have hlow : (v % 16 + 10 * bcdValue k (v / 16)) % 10 = v % 16 := by omega
    have hhigh : (v % 16 + 10 * bcdValue k (v / 16)) / 10 = bcdValue k (v / 16) := by omega
    rw [bcdValue, bcdDigits, hlow, hhigh, ih h.2 (by rw [pow_succ] at hv; omega)]
    omega

/-- Half a unit added to an integer and chopped leaves the integer. -/
theorem halfUp_ofNatReal (neg : Bool) {m : Nat} (h0 : m ≠ 0) (hm : m < 2 ^ 64) :
    halfUp (magnitude (ofNatReal neg m)) = m := by
  rw [magnitude_ofNatReal neg h0 hm]
  generalize 63 - Nat.log2 m = k
  unfold halfUp
  split_ifs with h
  · obtain rfl : k = 0 := by simpa using h
    simp
  · have hk : (- -(k : Int)).toNat = k := by omega
    simp only [hk]
    rw [Nat.shiftRight_eq_div_pow, show 2 * (m * 2 ^ k) + 2 ^ k = (2 * m + 1) * 2 ^ k by ring, pow_succ',
      Nat.mul_div_mul_right _ _ (by positivity)]
    omega

theorem runFrom_bcdImage {n : Npx} (u : Nat) {neg : Bool} {m : Nat} (he : n.empty n.top = false)
    (hx : n.reg n.top = ofNatReal neg m) (hm : m < 10 ^ 18) :
    bcdImage.runFrom n u = (some ((if neg then 2 ^ 79 else 0) + bcdDigits 18 m), ⟨n, u⟩) := by
  unfold bcdImage
  rw [N.runFrom_bind, N.runFrom_source_full u (by rwa [phys_zero]), phys_zero, hx]
  by_cases h0 : m = 0
  · rw [h0, ofNatReal, if_pos rfl]
    simp only [classOf_realZero, realSign_realZero, N.runFrom_pure]
  · have hm64 : m < 2 ^ 64 := hm.trans (by norm_num)
    simp only [classOf_ofNatReal _ h0 hm64, realSign_ofNatReal _ h0, halfUp_ofNatReal _ h0 hm64, hm, if_true,
      N.runFrom_pure]

end Sys2Proof.Machine

open Sys2Proof Sys2Proof.Machine

/-- Settles O58: integers are stored without rounding, and half a unit more does not change the digits of a decimal. -/
theorem integerRoundTrip : Obligations.IntegerRoundTrip := by
  intro n u x he hx
  refine ⟨fun bits hbits v hv hxv => ?_, fun v hv hvalid neg hxv => ?_⟩
  · have hlow := BitVec.le_toInt (BitVec.ofNat bits v)
    have hhigh := BitVec.toInt_lt (x := BitVec.ofNat bits v)
    have habs : (BitVec.ofNat bits v).toInt.natAbs < 2 ^ 64 := by
      rcases hbits with rfl | rfl | rfl <;> norm_num at hlow hhigh ⊢ <;> omega
    rw [runFrom_intImage u he (hx.trans hxv) habs hlow hhigh, toNat_emod_toInt hv]
  · rw [runFrom_bcdImage u he (hx.trans hxv) (bcdValue_lt 18 hvalid),
      bcdDigits_bcdValue 18 hvalid (hv.trans_eq (by norm_num))]

end

section
/-! SUPPORT. The images of the 80287 that FNSTENV and FNSAVE store, and what FLDENV and FRSTOR make of them
(48_npx_architecture.md R591 to R594). -/

namespace Sys2Proof.Machine

/-! ### Numbers as words (R540) -/

theorem wordsValue_valueWords (k v : Nat) : wordsValue (valueWords k v) = v % 65536 ^ k := by
  induction k generalizing v with
  | zero => exact (Nat.mod_one v).symm
  | succ k ih =>
    have split : v % 65536 ^ (k + 1) = v % 65536 + 65536 * (v / 65536 % 65536 ^ k) := by rw [pow_succ', Nat.mod_mul]
    rw [valueWords, wordsValue, ih, BitVec.toNat_ofNat, split]

/-! ### The registers in the image (R594) -/

section Registers
variable (n : Npx)

theorem saveWords_stWords (i : BitVec 3) : (n.saveWords.drop (7 + 5 * i.toNat)).take 5 = n.stWords i := by
  rcases regNumber_cases i with rfl | rfl | rfl | rfl | rfl | rfl | rfl | rfl <;> rfl

theorem saveWords_reg (i : BitVec 3) :
    wordsValue ((n.saveWords.drop (7 + 5 * i.toNat)).take 5) = (n.reg (n.top + i)).toNat := by
  rw [saveWords_stWords, Npx.stWords, wordsValue_valueWords, Npx.phys]
  exact Nat.mod_eq_of_lt ((n.reg (n.top + i)).isLt.trans_eq (by norm_num))

/-- An 80287 without its registers: everything else of it. -/
def Npx.others : Npx := { n with r0 := 0, r1 := 0, r2 := 0, r3 := 0, r4 := 0, r5 := 0, r6 := 0, r7 := 0 }

theorem Npx.others_setReg (k : BitVec 3) (v : Reg80) : (n.setReg k v).others = n.others := by
  unfold Npx.setReg
  split_ifs <;> rfl

/-- An 80287 is its registers and the rest. -/
theorem Npx.eq_of_reg_others {p q : Npx} (hreg : ∀ k, p.reg k = q.reg k) (ho : p.others = q.others) : p = q := by
  obtain ⟨h0, h1, h2, h3, h4, h5, h6, h7⟩ : p.r0 = q.r0 ∧ p.r1 = q.r1 ∧ p.r2 = q.r2 ∧ p.r3 = q.r3 ∧ p.r4 = q.r4 ∧
      p.r5 = q.r5 ∧ p.r6 = q.r6 ∧ p.r7 = q.r7 := ⟨hreg 0, hreg 1, hreg 2, hreg 3, hreg 4, hreg 5, hreg 6, hreg 7⟩
  obtain ⟨⟩ := p
  obtain ⟨⟩ := q
  simp only [Npx.others, Npx.mk.injEq] at *
  simp_all

theorem Npx.others_loadST (ws : List Word) (i : BitVec 3) : (n.loadST ws i).others = n.others := n.others_setReg ..

theorem Npx.top_loadST (ws : List Word) (i : BitVec 3) : (n.loadST ws i).top = n.top := n.top_setReg ..

variable {n}

/-- ST(i) is loaded with what was saved of it, and the other registers stay. -/
theorem Npx.reg_loadST_saveWords {p : Npx} (h : p.top = n.top) (i j : BitVec 3) :
    (p.loadST n.saveWords i).reg (n.top + j) = if j = i then n.reg (n.top + j) else p.reg (n.top + j) := by
  rw [Npx.loadST, Npx.reg_setReg, saveWords_reg, BitVec.ofNat_toNat, BitVec.setWidth_eq, Npx.phys, h]
  by_cases hij : j = i
  · rw [if_pos hij, if_pos (congrArg _ hij), hij]
  · rw [if_neg hij, if_neg fun h => hij (add_left_cancel h)]

/-- ST(0) to ST(7) of an image loaded. -/
def Npx.loadRegs (p : Npx) (ws : List Word) : Npx :=
  (((((((p.loadST ws 0).loadST ws 1).loadST ws 2).loadST ws 3).loadST ws 4).loadST ws 5).loadST ws 6).loadST ws 7

theorem loadAll_eq (ws : List Word) (m : Npx) : Npx.loadAll ws m = ((m.envLoad ws).loadRegs ws).retag := rfl

/-- Every register is one of ST(0) to ST(7). -/
theorem Npx.reg_loadRegs {p : Npx} (h : p.top = n.top) (k : BitVec 3) : (p.loadRegs n.saveWords).reg k = n.reg k := by
  obtain ⟨j, rfl⟩ : ∃ j, k = n.top + j := ⟨k - n.top, by rw [BitVec.add_comm, BitVec.sub_add_cancel]⟩
  unfold Npx.loadRegs
  simp only [Npx.reg_loadST_saveWords, Npx.top_loadST, h]
  rcases regNumber_cases j with rfl | rfl | rfl | rfl | rfl | rfl | rfl | rfl <;> rfl

theorem Npx.others_loadRegs (p : Npx) (ws : List Word) : (p.loadRegs ws).others = p.others := by
  unfold Npx.loadRegs
  simp only [Npx.others_loadST]

/-- The registers of an image loaded into an 80287 that agrees with `q` in everything else. -/
theorem Npx.loadRegs_eq {p q : Npx} (hreg : ∀ k, q.reg k = n.reg k) (htop : q.top = n.top) (ho : p.others = q.others) :
    p.loadRegs n.saveWords = q := by
  have hp : p.top = n.top := (congrArg Npx.top ho).trans htop
  exact Npx.eq_of_reg_others (fun k => (Npx.reg_loadRegs hp k).trans (hreg k).symm) ((p.others_loadRegs _).trans ho)

end Registers

/-! ### The environment (R591, R592) -/

section Pointers
variable (x : BitVec 32) (op : BitVec 11)

theorem pointer_halves : x.extractLsb' 16 16 ++ x.extractLsb' 0 16 = x := by
  apply BitVec.eq_of_getLsbD_eq
  intro i hi
  simp only [BitVec.getLsbD_append, BitVec.getLsbD_extractLsb']
  by_cases h : i < 16
  · simp [h]
  · simp [h, show i - 16 < 16 by omega, show 16 + (i - 16) = i by omega]

/-- The 20 bits of the Real-Address format. -/
theorem pointer_real : (x.extractLsb' 16 16 &&& 0xF000) ++ x.extractLsb' 0 16 = x &&& 0xF000FFFF := by
  conv_rhs => rw [← pointer_halves x]
  rw [show (0xF000FFFF : BitVec 32) = (0xF000 : Word) ++ BitVec.allOnes 16 by decide, BitVec.and_append,
    BitVec.and_allOnes]

theorem pointer_real_low : (x &&& 0xF000FFFF).extractLsb' 0 16 = x.extractLsb' 0 16 := by
  rw [BitVec.extractLsb'_and]
  exact BitVec.and_allOnes

theorem pointer_real_high : (x &&& 0xF000FFFF).extractLsb' 16 16 = x.extractLsb' 16 16 &&& 0xF000 := by
  rw [BitVec.extractLsb'_and]
  rfl

/-- The opcode shares its word with the pointer's high bits, and neither covers the other. -/
theorem opcode_word (hi : Word) :
    ((hi &&& 0xF000) ||| op.setWidth 16) &&& 0xF000 = hi &&& 0xF000 ∧
      ((hi &&& 0xF000) ||| op.setWidth 16).extractLsb' 0 11 = op := by
  constructor <;> apply BitVec.eq_of_getLsbD_eq <;> intro i hi <;> interval_cases i <;> simp

end Pointers

section Environment
variable {n m : Npx}

theorem envLoad_saveWords : m.envLoad n.saveWords = m.envLoad n.envWords := rfl

/-- The status word's image loaded under the saved masks (R582). -/
theorem fixES_saved (hes : n.fixES = n) (p : Npx) :
    ({ p with cw := n.cw, sw := .ofWord n.sw.word } : Npx).fixES = { p with cw := n.cw, sw := n.sw } := by
  have hsw : { n.sw with es := unmaskedFlag n.sw.exc n.cw } = n.sw := congrArg Npx.sw hes
  rw [StatusWord.ofWord_word, Npx.fixES, hsw]

theorem envLoad_prot (hes : n.fixES = n) (hn : n.protectedMode = true) (hm : m.protectedMode = true) :
    m.envLoad n.envWords = { m with cw := n.cw, sw := n.sw, tw := n.tw, ip := n.ip, op := n.op, opcode := 0 } := by
  have loaded := fixES_saved hes { m with tw := n.tw, ip := n.ip, op := n.op, opcode := 0 }
  rw [← loaded, Npx.envLoad, hm]
  simp only [Npx.envWords, hn, if_true, wordAt, List.getD_cons_zero, List.getD_cons_succ, pointer_halves]

theorem envLoad_real (hes : n.fixES = n) (hn : n.protectedMode = false) (hm : m.protectedMode = false) :
    m.envLoad n.envWords = { m with
      cw := n.cw, sw := n.sw, tw := n.tw, ip := n.ip &&& 0xF000FFFF, op := n.op &&& 0xF000FFFF, opcode := n.opcode } := by
  have loaded := fixES_saved hes
    { m with tw := n.tw, ip := n.ip &&& 0xF000FFFF, op := n.op &&& 0xF000FFFF, opcode := n.opcode }
  rw [← loaded, Npx.envLoad, hm]
  simp only [Npx.envWords, hn, Bool.false_eq_true, if_false, wordAt, List.getD_cons_zero, List.getD_cons_succ,
    opcode_word, pointer_real, BitVec.and_self, BitVec.and_assoc]

end Environment

end Sys2Proof.Machine

open Sys2Proof Sys2Proof.Machine

/-- Settles O60: the environment's words give back what they were made of, and the registers' words the registers. -/
theorem saveRestore : Obligations.SaveRestore := by
  intro n m hes
  refine ⟨saveWords_reg n, rfl, saveWords_length n, fun hn hm => ⟨?_, ?_, ?_⟩, fun hn hm => ⟨?_, ?_, ?_⟩⟩
  · simp only [Npx.envWords, hn, if_true]
  · rw [loadAll_eq, envLoad_saveWords, envLoad_prot hes hn hm]
    rw [Npx.loadRegs_eq (n := n) (q := { n with opcode := 0 }) (fun _ => rfl) rfl (by simp [Npx.others, hn, hm])]
    rfl
  · rw [Npx.loadEnv, envLoad_prot hes hn hm]
  · simp only [Npx.envWords, hn, Bool.false_eq_true, if_false, pointer_real_low, pointer_real_high]
  · rw [loadAll_eq, envLoad_saveWords, envLoad_real hes hn hm]
    rw [Npx.loadRegs_eq (n := n) (q := { n with ip := n.ip &&& 0xF000FFFF, op := n.op &&& 0xF000FFFF })
      (fun _ => rfl) rfl (by simp [Npx.others, hn, hm])]
    rfl
  · rw [Npx.loadEnv, envLoad_real hes hn hm]

end

section
/-! SUPPORT. The values of normal numbers and zeros: how two of them compare, and how two normal numbers are added
(48_npx_architecture.md R543, R555; 49_npx_instructions.md R640, R670). -/

namespace Sys2Proof.Machine

/-! ### Values (R543) -/

/-- A number with its sign, in a unit that is not above its own, is its value. -/
theorem signedAt_value (x : Reg80) {e : Int} (h : e ≤ (magnitude x).e) :
    (signedAt (realSign x) (magnitude x) e : ℚ) * 2 ^ e = realValue x := by
  obtain ⟨k, hk⟩ : ∃ k : Nat, (magnitude x).e = e + k := ⟨((magnitude x).e - e).toNat, by omega⟩
  have hexp : realTrue x - 63 = e + k := hk
  have hat : (magnitude x).at e = realSig x * 2 ^ k := by
    rw [Exact.at, hk, show (e + (k : Int) - e).toNat = k by omega, Nat.shiftLeft_eq]
    rfl
  rw [signedAt, hat, realValue, hexp, two_zpow_add_nat]
  cases realSign x <;> push_cast <;> simp <;> ring

theorem realValue_neg_iff (x : Reg80) (h : realSig x ≠ 0) : realValue x < 0 ↔ realSign x = true := by
  have hs : (0 : ℚ) < realSig x := by exact_mod_cast Nat.pos_of_ne_zero h
  have hpos : (0 : ℚ) < realSig x * 2 ^ (realTrue x - 63) := by positivity
  rw [realValue, mul_assoc]
  cases realSign x
  · simp only [Bool.false_eq_true, if_false, one_mul, iff_false]
    exact not_lt.mpr hpos.le
  · simp only [if_true, iff_true]
    linarith

theorem abs_realValue (x : Reg80) : |realValue x| = realSig x * 2 ^ (realTrue x - 63) := by
  have hpos : (0 : ℚ) ≤ realSig x * 2 ^ (realTrue x - 63) := by positivity
  rw [realValue, mul_assoc, abs_mul, abs_of_nonneg hpos]
  cases realSign x <;> simp

/-! ### Comparison (R670) -/

/-- A finite value that takes part in arithmetic without an exception: a normal number or a zero. -/
def Regular (x : Reg80) : Prop := classOf x = .normal ∨ classOf x = .zero

theorem orderOf_eq_compare {a b : Reg80} (ha : Regular a) (hb : Regular b) :
    orderOf a b = compare (signedAt (realSign a) (magnitude a) (min (magnitude a).e (magnitude b).e))
      (signedAt (realSign b) (magnitude b) (min (magnitude a).e (magnitude b).e)) := by
  unfold orderOf
  rcases ha with ha | ha <;> rcases hb with hb | hb <;> simp [ha, hb]

/-- Numbers are ordered as their values are. -/
theorem orderOf_regular {a b : Reg80} (ha : Regular a) (hb : Regular b) :
    orderOf a b = if realValue a < realValue b then .lt else if realValue a = realValue b then .eq else .gt := by
  rw [orderOf_eq_compare ha hb]
  generalize he : min (magnitude a).e (magnitude b).e = e
  have hunit : (0 : ℚ) < 2 ^ e := by positivity
  have hlt : realValue a < realValue b ↔
      signedAt (realSign a) (magnitude a) e < signedAt (realSign b) (magnitude b) e := by
    rw [← signedAt_value a (he ▸ min_le_left ..), ← signedAt_value b (he ▸ min_le_right ..),
      mul_lt_mul_iff_of_pos_right hunit, Int.cast_lt]
  have heq : realValue a = realValue b ↔
      signedAt (realSign a) (magnitude a) e = signedAt (realSign b) (magnitude b) e := by
    rw [← signedAt_value a (he ▸ min_le_left ..), ← signedAt_value b (he ▸ min_le_right ..),
      mul_left_inj' hunit.ne', Int.cast_inj]
  simp only [hlt, heq]
  exact LinearOrder.compare_eq_compareOfLessAndEq ..

theorem N.runFrom_setCompare (c3 c2 c0 : Bool) (n : Npx) (u : Nat) :
    (setCompare c3 c2 c0).runFrom n u = (some (), ⟨n.setCond c3 c2 n.sw.c1 c0, u⟩) := rfl

theorem N.runFrom_signalIf_false (e : NumExc) (n : Npx) (u : Nat) :
    (signalIf false e).runFrom n u = (some (), ⟨n, u⟩) := rfl

theorem runFrom_compareReal {a b : Reg80} (ha : Regular a) (hb : Regular b) (n : Npx) (u : Nat) :
    (compareReal (regOperand a) (regOperand b)).runFrom n u = (some (),
      ⟨n.setCond (decide (realValue a = realValue b)) false n.sw.c1 (decide (realValue a < realValue b)), u⟩) := by
  have hrun : (compareReal (regOperand a) (regOperand b)).runFrom n u = (match orderOf a b with
      | .gt => setCompare false false false
      | .lt => setCompare false false true
      | .eq => setCompare true false false).runFrom n u := by
    unfold compareReal regOperand
    rcases ha with ha | ha <;> rcases hb with hb | hb <;>
      simp [ha, hb, N.runFrom_bind, N.runFrom_theNpx] <;> rfl
  rw [hrun, orderOf_regular ha hb]
  split_ifs with hlt heq
  · simp only [hlt, hlt.ne, decide_true, decide_false, N.runFrom_setCompare]
  · simp only [heq, lt_irrefl, decide_true, decide_false, N.runFrom_setCompare]
  · simp only [hlt, heq, decide_false, N.runFrom_setCompare]

/-- C3, C2 and C0 are bits 14, 10 and 8 of the status word (10_state.md R61). -/
theorem word_setCond (n : Npx) (c3 c2 c0 : Bool) :
    (n.setCond c3 c2 n.sw.c1 c0).sw.word &&& 0xBAFF = n.sw.word &&& 0xBAFF := by
  apply BitVec.eq_of_getLsbD_eq
  intro i hi
  simp only [StatusWord.word, Npx.setCond, BitVec.getLsbD_and, BitVec.getLsbD_append]
  interval_cases i <;> simp

end Sys2Proof.Machine

open Sys2Proof Sys2Proof.Machine

/-- Settles O57: the order of two numbers in a common unit is the order of their values. -/
theorem compareByValue : Obligations.CompareByValue := by
  intro n u a b ha hb
  dsimp only
  rw [runFrom_compareReal ha hb]
  refine ⟨rfl, word_setCond .., ?_⟩
  show (decide _, false, n.sw.c1, decide _) = _
  split_ifs with hlt heq
  · simp only [hlt, hlt.ne, decide_true, decide_false]
    rfl
  · simp only [heq, lt_irrefl, decide_true, decide_false]
    rfl
  · simp only [hlt, heq, decide_false]
    rfl

end

section
/-! SUPPORT. How two normal numbers are added when the sum is zero or can be represented (48_npx_architecture.md R555,
R570, R571; 49_npx_instructions.md R640). -/

namespace Sys2Proof.Machine

/-! ### Normal numbers -/

section Normal
variable {v : Reg80} (hv : classOf v = .normal)
include hv

theorem normal_sig : 2 ^ 63 ≤ realSig v := ((classOf_normal_iff v).mp hv).2.2

theorem normal_sig_ne : realSig v ≠ 0 := by
  have := normal_sig hv
  omega

/-- Its significand has its leading one in bit 63. -/
theorem normal_leadingZeros : leadingZeros (realSig v) = 0 := by
  have hlog : 63 ≤ Nat.log2 (realSig v) := (Nat.le_log2 (normal_sig_ne hv)).mpr (normal_sig hv)
  rw [leadingZeros, if_neg (normal_sig_ne hv)]
  omega

theorem normal_realTrue : realTrue v = (realExp v : Int) - 16383 ∧ -16382 ≤ realTrue v ∧ realTrue v ≤ 16383 := by
  obtain ⟨h0, hmax, -⟩ := (classOf_normal_iff v).mp hv
  have := realExp_lt v
  have ht : realTrue v = (realExp v : Int) - 16383 := by rw [realTrue, realEff, if_neg h0]
  omega

theorem normal_abs_bounds : (2 : ℚ) ^ realTrue v ≤ |realValue v| ∧ |realValue v| < 2 ^ (realTrue v + 1) := by
  have hlow : (2 : ℚ) ^ 63 ≤ realSig v := by exact_mod_cast normal_sig hv
  have hhigh : (realSig v : ℚ) < 2 ^ 64 := by exact_mod_cast realSig_lt v
  have hunit : (0 : ℚ) < 2 ^ (realTrue v - 63) := by positivity
  have h63 := two_zpow_add_nat (realTrue v - 63) 63
  have h64 := two_zpow_add_nat (realTrue v - 63) 64
  rw [show realTrue v - 63 + (63 : Nat) = realTrue v by push_cast; ring] at h63
  rw [show realTrue v - 63 + (64 : Nat) = realTrue v + 1 by push_cast; ring] at h64
  rw [abs_realValue, h63, h64]
  exact ⟨mul_le_mul_of_nonneg_right hlow hunit.le, mul_lt_mul_of_pos_right hhigh hunit⟩

end Normal

/-! ### Rounding a number that can be represented (R570, R571) -/

/-- The binary order of magnitude of an exact value. -/
theorem log2_add_exp {N : Nat} {e t : Int} (hN : N ≠ 0) (hlow : (2 : ℚ) ^ t ≤ (⟨N, e, false⟩ : Exact).value)
    (hhigh : (⟨N, e, false⟩ : Exact).value < 2 ^ (t + 1)) : e + Nat.log2 N = t := by
  have hunit : (0 : ℚ) < 2 ^ e := by positivity
  have h1 : (2 : ℚ) ^ (e + Nat.log2 N) ≤ (⟨N, e, false⟩ : Exact).value := by
    rw [two_zpow_add_nat, Exact.value]
    exact mul_le_mul_of_nonneg_right (by exact_mod_cast Nat.log2_self_le hN) hunit.le
  have h2 : (⟨N, e, false⟩ : Exact).value < (2 : ℚ) ^ (e + (Nat.log2 N + 1 : Nat)) := by
    rw [two_zpow_add_nat, Exact.value]
    exact mul_lt_mul_of_pos_right (by exact_mod_cast Nat.lt_log2_self) hunit
  have h3 := (zpow_lt_zpow_iff_right₀ one_lt_two).mp (h1.trans_lt hhigh)
  have h4 := (zpow_lt_zpow_iff_right₀ one_lt_two).mp (hlow.trans_lt h2)
  omega

section Representable
variable {v : Reg80} (hv : classOf v = .normal) {p : Nat}
  (hbits : realSig v % 2 ^ (64 - p) = 0) {m : Nat} {e : Int}
  (hvalue : (⟨m, e, false⟩ : Exact).value = |realValue v|)
include hv hbits hvalue

/-- A normal number of the precision in force is its own rounding. -/
theorem roundSig_representable (rc : Rounding) (neg : Bool) :
    roundSig rc neg p 0 ⟨m, e, false⟩ = ⟨realTrue v, realSig v, false⟩ := by
  obtain ⟨hlow, hhigh⟩ := normal_abs_bounds hv
  have hm0 : m ≠ 0 := fun h => by
    rw [← hvalue, h, Exact.value, Nat.cast_zero, zero_mul] at hlow
    exact absurd hlow (not_le.mpr (by positivity))
  have hexp := log2_add_exp hm0 (hvalue ▸ hlow) (hvalue ▸ hhigh)
  obtain ⟨q, hq⟩ := Nat.dvd_of_mod_eq_zero hbits
  have hround : roundTo rc neg ⟨m, e, false⟩ (realTrue v - 63 + (64 - p : Nat)) = (q, false) := by
    refine roundTo_of_multiple rc neg ?_
    rw [hvalue, abs_realValue, two_zpow_add_nat, hq]
    push_cast
    ring
  have hsig : q * 2 ^ (64 - p) = realSig v := by rw [hq, mul_comm]
  have hlt := realSig_lt v
  have hexp0 : e + (Nat.log2 m : Int) + (0 : Nat) = realTrue v := by rw [Nat.cast_zero, add_zero, hexp]
  simp only [roundSig, hexp0, hround, hsig]
  rw [if_neg fun h => hlt.ne h.1]

/-- It is delivered as it is, and no exception is signalled (49_npx_instructions.md R640). -/
theorem runFrom_deliverReal80_representable (n : Npx) (u : Nat) :
    (deliverReal80 p 0 (realSign v) ⟨m, e, false⟩).runFrom n u = (some v, ⟨n, u⟩) := by
  obtain ⟨htrue, hlow, hhigh⟩ := normal_realTrue hv
  have hfield : (realTrue v + 16383).toNat = realExp v := by omega
  unfold deliverReal80
  rw [N.runFrom_bind, N.runFrom_theNpx]
  simp only [roundSig_representable hv hbits hvalue, if_neg (not_lt.mpr hhigh), if_neg (not_lt.mpr hlow),
    N.runFrom_bind, N.runFrom_signalPrecision_exact, N.runFrom_pure, hfield, mkReal_fields]

end Representable

/-! ### The sum (R640) -/

section Sum
variable {a b : Reg80} (ha : classOf a = .normal) (hb : classOf b = .normal)
include ha hb

/-- Normal operands signal nothing, and are added. -/
theorem runFrom_arith_add (n : Npx) (u : Nat) :
    (arith .add (regOperand a) (regOperand b)).runFrom n u = (sumFinite a b).runFrom n u := by
  have hden : (RealClass.normal == RealClass.denormal) = false := rfl
  unfold arith addReal regOperand signalUnmasked
  simp [ha, hb, hden, N.runFrom_bind, N.runFrom_theNpx, N.runFrom_signalIf_false]

/-- The exact sum in the smaller of the two units. -/
def sumUnits (a b : Reg80) : Int :=
  signedAt (realSign a) (magnitude a) (min (magnitude a).e (magnitude b).e) +
    signedAt (realSign b) (magnitude b) (min (magnitude a).e (magnitude b).e)

omit ha hb in
theorem sumUnits_value (a b : Reg80) :
    (sumUnits a b : ℚ) * 2 ^ min (magnitude a).e (magnitude b).e = realValue a + realValue b := by
  rw [sumUnits, Int.cast_add, add_mul, signedAt_value a (min_le_left ..), signedAt_value b (min_le_right ..)]

theorem runFrom_sumFinite (n : Npx) (u : Nat) : (sumFinite a b).runFrom n u =
    if sumUnits a b = 0 then (some (realZero (n.rounding == .down)), ⟨n, u⟩)
    else (deliverReal80 n.precision 0 (decide (sumUnits a b < 0))
      ⟨(sumUnits a b).natAbs, min (magnitude a).e (magnitude b).e, false⟩).runFrom n u := by
  have hnot : ¬((magnitude a).n = 0 ∧ (magnitude b).n = 0) := fun h => normal_sig_ne ha h.1
  have hlz : ∀ c : Prop, [Decidable c] → leadingZeros (if c then realSig a else realSig b) = 0 := by
    intro c _
    split
    · exact normal_leadingZeros ha
    · exact normal_leadingZeros hb
  have hunits : signedAt (realSign a) (magnitude a) (min (magnitude a).e (magnitude b).e) +
    signedAt (realSign b) (magnitude b) (min (magnitude a).e (magnitude b).e) = sumUnits a b := rfl
  unfold sumFinite
  rw [N.runFrom_bind, N.runFrom_theNpx]
  simp only [if_neg hnot, hlz, hunits]
  split_ifs <;> rfl

end Sum

end Sys2Proof.Machine

open Sys2Proof Sys2Proof.Machine

/-- Settles O56: the sum is made exactly, and a number that can be represented is its own rounding. -/
theorem exactSums : Obligations.ExactSums := by
  intro n u a b _ ha hb
  have hsum := sumUnits_value a b
  have hunit : (0 : ℚ) < 2 ^ min (magnitude a).e (magnitude b).e := by positivity
  rw [runFrom_arith_add ha hb, runFrom_sumFinite ha hb]
  refine ⟨fun v hv hbits hvalue => ?_, fun h => ?_⟩
  · rw [← hvalue] at hsum
    have habs : (⟨(sumUnits a b).natAbs, min (magnitude a).e (magnitude b).e, false⟩ : Exact).value =
        |realValue v| := by
      rw [← hsum, abs_mul, abs_of_pos hunit, Exact.value, Nat.cast_natAbs, Int.cast_abs]
    have hneg : decide (sumUnits a b < 0) = realSign v := by
      rw [Bool.eq_iff_iff, decide_eq_true_iff, ← realValue_neg_iff v (normal_sig_ne hv), ← hsum,
        ← not_le (a := (0 : ℚ)), mul_nonneg_iff_of_pos_right hunit, not_le, Int.cast_lt_zero]
    have hne : sumUnits a b ≠ 0 := fun h0 => by
      have hpos := (normal_abs_bounds hv).1
      rw [← habs, h0, Exact.value, Int.natAbs_zero, Nat.cast_zero, zero_mul] at hpos
      exact absurd hpos (not_le.mpr (by positivity))
    rw [if_neg hne, hneg, runFrom_deliverReal80_representable hv hbits habs]
  · rw [if_pos]
    rw [h, mul_eq_zero] at hsum
    exact_mod_cast hsum.resolve_right hunit.ne'

end

section
/-! SUPPORT. How an event is delivered through an interrupt or trap gate, at the same level and to an inner one
(60_exceptions.md R747 to R749, R752). -/

namespace Sys2Proof.Machine

/-! ### The frame -/

/-- The error code pushed, if there is one. -/
def State.errorPushed (s : State) : Option Word → State
  | none => s
  | some e => s.pushed e

/-- The words of a frame with its error code. -/
def frameWords (words : Nat) (ec : Option Word) : Nat := words + (if ec.isSome then 1 else 0)

theorem frameBytes_eq (words : Nat) (ec : Option Word) : frameBytes words ec = 2 * frameWords words ec := by
  unfold frameBytes frameWords
  split <;> omega

theorem pushError_run {s : State} {ec : Option Word} (h : s.pushesOk (frameWords 0 ec) = true) :
    (pushError ec).run s = .ok () (s.errorPushed ec) := by
  cases ec with
  | none => rfl
  | some e => exact push16_pushOk e (pushOk_of_pushesOk h)

/-- The frame's last part: the error code, and the flags as the gate's type leaves them. -/
theorem pushError_gateFlags {s : State} {ec : Option Word} (type : BitVec 4)
    (h : s.pushesOk (frameWords 0 ec) = true) :
    (pushError ec >>= fun _ => modify fun t => t.gateFlags type).run s = .ok () ((s.errorPushed ec).gateFlags type) :=
  run_bind_ok (pushError_run h)

theorem frameWords_succ (words : Nat) (ec : Option Word) : frameWords (words + 1) ec = frameWords words ec + 1 := by
  unfold frameWords
  omega

/-! ### At the same level (R748) -/

theorem intSame_run {s : State} {g d : Desc} {ec : Option Word} (ext ret : Word)
    (hroom : s.stackRoom (frameBytes 3 ec) = true) (inside : g.gateOffset.toNat ≤ d.limit.toNat) :
    (intSame g d ec ext ret).run s = .ok () (((((((s.pushed s.flags.word).pushed s.cs.sel).pushed ret).enterCode g.gateSel d
      s.cpl g.gateOffset).errorPushed ec).gateFlags g.type)) := by
  have h3 : s.pushesOk (frameWords 0 ec + 1 + 1 + 1) = true := by
    rw [← frameWords_succ, ← frameWords_succ, ← frameWords_succ]
    exact pushesOk_of_stackRoom (frameBytes_eq 3 ec ▸ hroom)
  have h2 := pushesOk_pushed s.flags.word h3
  have h1 := pushesOk_pushed s.cs.sel h2
  have h0 := pushesOk_pushed ret h1
  unfold intSame
  rw [run_get_bind, require_ok _ _ hroom, require_ok _ _ (decide_eq_true inside), push16_bind _ _ h3,
    push16_bind _ _ h2, push16_bind _ _ h1, run_bind_ok (loadCS_run _ _ _ _ _)]
  exact pushError_gateFlags g.type h0

/-! ### To an inner level (R749) -/

theorem intInner_run {s : State} {g d x : Desc} {ec : Option Word} (ext ret : Word)
    (hstack : s.innerStackOk d.dpl x (frameBytes 5 ec) = true) (inside : g.gateOffset.toNat ≤ d.limit.toNat) :
    (intInner g d ec ext ret).run s = .ok () ((((((s.enterInner (s.innerRead d.dpl) g.gateSel g.gateOffset d x).pushed
      s.flags.word).pushed s.cs.sel).pushed ret).errorPushed ec).gateFlags g.type) := by
  obtain ⟨stack, room⟩ := innerStack_run ext hstack
  have h5 : (s.innerEntered (s.innerRead d.dpl) g.gateSel g.gateOffset d x).pushesOk
      (frameWords 0 ec + 1 + 1 + 1 + 1 + 1) = true := by
    rw [← frameWords_succ, ← frameWords_succ, ← frameWords_succ, ← frameWords_succ, ← frameWords_succ]
    exact innerEntered_pushesOk (frameBytes_eq 5 ec ▸ room)
  have h4 := pushesOk_pushed s.ss.sel h5
  have h3 := pushesOk_pushed s.gpr.sp h4
  have h2 := pushesOk_pushed s.flags.word h3
  have h1 := pushesOk_pushed s.cs.sel h2
  have h0 := pushesOk_pushed ret h1
  unfold intInner
  rw [run_bind_ok stack]
  dsimp only
  rw [require_ok _ _ room, require_ok _ _ (decide_eq_true inside), run_get_bind, innerEntered_bind]
  exact (push16_bind _ _ h5).trans <| (push16_bind _ _ h4).trans <| (push16_bind _ _ h3).trans <|
    (push16_bind _ _ h2).trans <| (push16_bind _ _ h1).trans <| pushError_gateFlags g.type h0

/-! ### The gate (R747) -/

section Gate
variable {s : State} {n : Byte} {kind : EventKind} {d x : Desc}

/-- An event through an interrupt or trap gate that it may use, in the state after the gate has been read. -/
theorem deliverProt_codeGate (ec : Option Word) (inTable : 8 * n.toNat + 7 ≤ s.idtr.limit.toNat)
    (control : ((s.gate n).isControl 6 || (s.gate n).isControl 7) = true)
    (privilege : (!((kind == .software) && (s.gate n).dpl.ult s.cpl)) = true) (present : (s.gate n).present = true) :
    (deliverProt n kind ec).run s = (intGate (s.gate n) ec kind.ext (s.retIP kind)).run (s.gateRead n) := by
  obtain ⟨system, type⟩ : (s.gate n).segment = false ∧ ((s.gate n).type = 6 ∨ (s.gate n).type = 7) := by
    simpa [Desc.isControl, ← and_or_left] using control
  have gateType : (!(s.gate n).segment &&
      ((s.gate n).type == 5 || (s.gate n).type == 6 || (s.gate n).type == 7)) = true := by
    rcases type with h | h <;> rw [system, h] <;> rfl
  have notTask : ¬(s.gate n).type = 5 := by
    rcases type with h | h <;> rw [h] <;> decide
  unfold deliverProt
  dsimp only
  rw [run_get_bind, require_ok _ _ (decide_eq_true inTable), run_set_bind]
  exact (require_ok _ _ gateType).trans <| (require_ok _ _ privilege).trans <| (require_ok _ _ present).trans <|
    congrArg (fun m : M Unit => m.run (s.gateRead n)) (if_neg notTask)

theorem gateOk_cases {software : Bool} {bytes : Nat} (h : s.gateOk n software bytes d = true) :
    s.pe = true ∧ 8 * n.toNat + 7 ≤ s.idtr.limit.toNat ∧ ((s.gate n).isControl 6 || (s.gate n).isControl 7) = true ∧
      (!(software && (s.gate n).dpl.ult s.cpl)) = true ∧ (s.gate n).present = true ∧
      (!selNull (s.gate n).gateSel) = true ∧ (s.gateRead n).descLookup (s.gate n).gateSel = some d ∧ d.isCode = true ∧
      d.present = true ∧ d.codeAt s.cpl = true ∧ s.stackRoom bytes = true ∧
      (s.gate n).gateOffset.toNat ≤ d.limit.toNat := by
  simpa only [State.gateOk, Bool.and_eq_true, decide_eq_true_eq, beq_iff_eq, and_assoc] using h

/-- An event through a gate to the same level: the frame, the gate's code segment, the error code, the flags. -/
theorem deliverProt_same {ec : Option Word} (h : s.gateOk n (kind == .software) (frameBytes 3 ec) d = true) :
    s.pe = true ∧ (deliverProt n kind ec).run s =
      .ok () (((s.gateEntered n d (s.retIP kind)).errorPushed ec).gateFlags (s.gate n).type) := by
  obtain ⟨hpe, inTable, control, privilege, gatePresent, notNull, found, code, present, level, room, inside⟩ :=
    gateOk_cases h
  refine ⟨hpe, (deliverProt_codeGate ec inTable control privilege gatePresent).trans ?_⟩
  have hcpl : ((s.gateRead n).afterLookup (s.gate n).gateSel).cpl = s.cpl := rfl
  unfold intGate
  dsimp only
  rw [require_ok _ _ notNull, lookup_bind _ found, run_get_bind, require_ok _ _ code, require_ok _ _ present, hcpl,
    if_neg (Bool.eq_false_iff.mp (codeAt_level level).2), if_pos level]
  exact intSame_run (s := s.targetRead n) _ _ room inside

theorem gateInnerOk_cases {software : Bool} {bytes : Nat} (h : s.gateInnerOk n software bytes d x = true) :
    s.pe = true ∧ 8 * n.toNat + 7 ≤ s.idtr.limit.toNat ∧ ((s.gate n).isControl 6 || (s.gate n).isControl 7) = true ∧
      (!(software && (s.gate n).dpl.ult s.cpl)) = true ∧ (s.gate n).present = true ∧
      (!selNull (s.gate n).gateSel) = true ∧ (s.gateRead n).descLookup (s.gate n).gateSel = some d ∧ d.isCode = true ∧
      (!d.conforming && d.dpl.ult s.cpl) = true ∧ d.present = true ∧ (s.gate n).gateOffset.toNat ≤ d.limit.toNat ∧
      (s.targetRead n).innerStackOk d.dpl x bytes = true := by
  have hcpl : (s.gateRead n).cpl = s.cpl := rfl
  simpa only [State.gateInnerOk, State.innerCode, hcpl, Bool.and_eq_true, decide_eq_true_eq, beq_iff_eq, and_assoc]
    using h

/-- An event through a gate to an inner level: its stack and code segment, the frame, the error code, the flags. -/
theorem deliverProt_inner {ec : Option Word} (h : s.gateInnerOk n (kind == .software) (frameBytes 5 ec) d x = true) :
    s.pe = true ∧ (deliverProt n kind ec).run s =
      .ok () (((s.gateEnteredInner n d x (s.retIP kind)).errorPushed ec).gateFlags (s.gate n).type) := by
  obtain ⟨hpe, inTable, control, privilege, gatePresent, notNull, found, code, level, present, inside, stack⟩ :=
    gateInnerOk_cases h
  refine ⟨hpe, (deliverProt_codeGate ec inTable control privilege gatePresent).trans ?_⟩
  have hcpl : ((s.gateRead n).afterLookup (s.gate n).gateSel).cpl = s.cpl := rfl
  unfold intGate
  dsimp only
  rw [require_ok _ _ notNull, lookup_bind _ found, run_get_bind, require_ok _ _ code, require_ok _ _ present, hcpl,
    if_pos level]
  exact intInner_run (s := s.targetRead n) _ _ stack inside

end Gate

end Sys2Proof.Machine

open Sys2Proof Sys2Proof.Machine

/-- Settles O39: a software interrupt and a fault are one delivery, with another return address. -/
theorem interruptsProtected : Obligations.InterruptsProtected := by
  intro s d hl
  have same : ∀ {n}, s.gateOk n true 6 d = true → deliver n .software none s =
      ((s.gateEntered n d s.ip).gateFlags (s.gate n).type).delivered .software := fun h => by
    obtain ⟨hpe, run⟩ := deliverProt_same (kind := .software) (ec := none) h
    exact deliver_software_prot hpe run
  have inner : ∀ {n x}, s.gateInnerOk n true 10 d x = true → deliver n .software none s =
      ((s.gateEnteredInner n d x s.ip).gateFlags (s.gate n).type).delivered .software := fun h => by
    obtain ⟨hpe, run⟩ := deliverProt_inner (kind := .software) (ec := none) h
    exact deliver_software_prot hpe run
  have onOverflow : ∀ {t}, s.flag .of = true → deliver 4 .software none s = t → exec .into s = .next t.done :=
    fun hof h => exec_completes rfl hl ((intOnOverflow_run s).trans ((if_pos hof).trans (softInt_run h)))
  refine ⟨fun n h => exec_completes rfl hl (softInt_run (same h)), fun h => exec_completes rfl hl (softInt_run (same h)),
    fun hof h => onOverflow hof (same h), fun n h => ?_, fun n ec h => ?_, fun n x h => ?_, fun n x h => ?_,
    fun n ec x h => ?_⟩
  · obtain ⟨hpe, run⟩ := deliverProt_same (kind := .fault) (ec := none) h
    exact deliver_fault_prot hpe run
  · obtain ⟨hpe, run⟩ := deliverProt_same (kind := .fault) (ec := some ec) h
    exact deliver_fault_prot hpe run
  · refine ⟨exec_completes rfl hl (softInt_run (inner h)), ?_, ?_⟩
    · rintro rfl
      exact exec_completes rfl hl (softInt_run (inner h))
    · rintro rfl hof
      exact onOverflow hof (inner h)
  · obtain ⟨hpe, run⟩ := deliverProt_inner (kind := .fault) (ec := none) h
    exact deliver_fault_prot hpe run
  · obtain ⟨hpe, run⟩ := deliverProt_inner (kind := .fault) (ec := some ec) h
    exact deliver_fault_prot hpe run

end

section
/-! SUPPORT. An exception inside the delivery of a fault (60_exceptions.md R744, R756, R757). -/

namespace Sys2Proof.Machine

/-- A fault that cannot be delivered in Protected Mode is a double fault. -/
theorem deliver_fault_nested {s u : State} {v : Byte} {ec : Option Word} {a : Abort} (hpe : s.pe = true) (hv : v ≠ 8)
    (h : (deliverProt v .fault ec).run s = .error a u) : deliver v .fault ec s = doubleFault u := by
  have same : { s with curIP := s.retIP .fault } = s := rfl
  unfold deliver deliverFault
  simp only [reduceCtorEq, if_false, same, if_true, hpe, h, if_neg hv]

theorem doubleFault_delivered {u v : State} (h : (deliverProt 8 .fault (some 0)).run u = .ok () v) :
    doubleFault u = v.delivered .fault := by
  unfold doubleFault
  simp only [h]

/-- An exception while the double fault is delivered shuts the machine down. -/
theorem doubleFault_shutdown {u v : State} {b : Abort} (h : (deliverProt 8 .fault (some 0)).run u = .error b v) :
    doubleFault u = v.enterShutdown := by
  unfold doubleFault
  simp only [h]

end Sys2Proof.Machine

open Sys2Proof Sys2Proof.Machine

/-- Settles O40: the double fault, and the shutdown that NMI and RESET alone end. -/
theorem doubleFaultAndShutdown : Obligations.DoubleFaultAndShutdown :=
  ⟨fun _ _ _ _ _ _ _ hpe hn h =>
    ⟨fun hok => (deliver_fault_nested hpe hn h).trans (doubleFault_delivered hok),
      fun herr => (deliver_fault_nested hpe hn h).trans (doubleFault_shutdown herr)⟩,
    fun _ hrun hr hi hn => step_shutdown hr hi hrun (.inl hn)⟩

end

section
/-! SUPPORT. The events of a boundary (60_exceptions.md R734 to R738, R745): a delivery keeps the requests that wait for
it to end, so that an event which is due alone is the whole boundary. -/

namespace Sys2Proof.Machine

/-! ### What a delivery keeps of the requests -/

/-- Saving a task is a row of stores. -/
theorem saveTask_of_setMem16 {P : State → Prop} (store : ∀ s a v, P s → P (s.setMem16 a v)) {s : State} (k : SwitchKind)
    (ip : Word) (h : P s) : P (s.saveTask k ip) := by
  unfold State.saveTask
  repeat' apply store
  exact h

/-- The requests that wait in the state: NMI, the segment overrun, and the lines. -/
def State.requests (s : State) : Bool × Bool × Lines := (s.nmiPending, s.mpPending, s.lines)

/-- The requests are those in `q`. -/
def Requests (q : Bool × Bool × Lines) (s : State) : Prop := s.requests = q

namespace Requests

variable {q : Bool × Bool × Lines}

theorem iff {s : State} : Requests q s ↔ s.nmiPending = q.1 ∧ s.mpPending = q.2.1 ∧ s.lines = q.2.2 := by
  obtain ⟨n, m, l⟩ := q
  simp [Requests, State.requests]

theorem setSeg {s : State} (r : SegReg) (c : SegCache) (h : Requests q s) : Requests q (s.setSeg r c) := by
  cases r <;> exact h

theorem gateFlags {s : State} (t : BitVec 4) (h : Requests q s) : Requests q (s.gateFlags t) := by
  unfold State.gateFlags
  split <;> exact h

theorem saveTask {s : State} (k : SwitchKind) (ip : Word) (h : Requests q s) : Requests q (s.saveTask k ip) :=
  saveTask_of_setMem16 (fun _ _ _ h => h) k ip h

theorem linkTask {s : State} (k : SwitchKind) (n : Desc) (h : Requests q s) : Requests q (s.linkTask k n) := by
  unfold State.linkTask
  split <;> exact h

/-! #### References and the stack -/

theorem load16 (a : PhysAddr) : Keeps (Requests q) (Machine.load16 a) :=
  Keeps.get_bind' fun _ h => Keeps.set_bind h (Keeps.pure _)

theorem loadWords (as : List PhysAddr) : Keeps (Requests q) (Machine.loadWords as) :=
  Keeps.get_bind' fun _ h => Keeps.set_bind h (Keeps.pure _)

theorem push16 (v : Word) : Keeps (Requests q) (Machine.push16 v) :=
  Keeps.get_bind fun _ => Keeps.ite (Keeps.raise _) <|
    Keeps.bind (Keeps.require _ _) fun _ => Keeps.mod fun _ h => h

theorem pushError : ∀ ec, Keeps (Requests q) (Machine.pushError ec)
  | none => Keeps.pure _
  | some _ => push16 _

theorem lookup (sel : Word) (a : Abort) : Keeps (Requests q) (Machine.lookup sel a) := by
  refine Keeps.get_bind' fun s h => Keeps.set_bind h ?_
  cases s.descLookup sel with
  | none => exact Keeps.raise _
  | some d => exact Keeps.pure _

theorem setAccessed (d : Desc) : Keeps (Requests q) (Machine.setAccessed d) := Keeps.mod fun _ h => h

/-- A segment register loaded with a descriptor that gets its Accessed bit. -/
theorem accessed_setSeg (r : SegReg) (d : Desc) (c : SegCache) :
    Keeps (Requests q) (Machine.setAccessed d >>= fun _ => modify fun s => s.setSeg r c) :=
  Keeps.bind (setAccessed d) fun _ => Keeps.mod fun _ h => h.setSeg r c

theorem loadCS (sel : Word) (d : Desc) (cpl : BitVec 2) (off : Word) :
    Keeps (Requests q) (Machine.loadCS sel d cpl off) :=
  Keeps.bind (setAccessed _) fun _ => Keeps.mod fun _ h => h

theorem commitStack (sel : Word) (d : Desc) (sp : Word) : Keeps (Requests q) (Machine.commitStack sel d sp) :=
  Keeps.bind (setAccessed _) fun _ => Keeps.mod fun _ h => h

theorem innerStack (n : BitVec 2) (ext : Word) : Keeps (Requests q) (Machine.innerStack n ext) := by
  refine Keeps.get_bind fun _ => Keeps.bind (Keeps.require _ _) fun _ => ?_
  refine Keeps.bind (load16 _) fun _ => Keeps.bind (load16 _) fun _ => ?_
  refine Keeps.bind (Keeps.require _ _) fun _ => Keeps.bind (lookup _ _) fun _ => ?_
  exact Keeps.bind (Keeps.require _ _) fun _ => Keeps.bind (Keeps.require _ _) fun _ =>
    Keeps.bind (Keeps.require _ _) fun _ => Keeps.bind (Keeps.require _ _) fun _ => Keeps.pure _

/-! #### The task switch -/

theorem switchLDT : Keeps (Requests q) Machine.switchLDT := by
  refine Keeps.get_bind fun _ => Keeps.ite (Keeps.pure _) ?_
  exact Keeps.bind (Keeps.require _ _) fun _ => Keeps.bind (lookup _ _) fun _ =>
    Keeps.bind (Keeps.require _ _) fun _ => Keeps.bind (Keeps.require _ _) fun _ => Keeps.mod fun _ h => h

theorem switchSS : Keeps (Requests q) Machine.switchSS := by
  refine Keeps.bind (Keeps.mod fun _ h => h) fun _ => Keeps.get_bind fun _ => ?_
  refine Keeps.bind (Keeps.require _ _) fun _ => Keeps.bind (lookup _ _) fun _ => ?_
  exact Keeps.bind (Keeps.require _ _) fun _ => Keeps.bind (Keeps.require _ _) fun _ =>
    Keeps.bind (Keeps.require _ _) fun _ => Keeps.bind (Keeps.require _ _) fun _ => accessed_setSeg .ss _ _

theorem switchCS : Keeps (Requests q) Machine.switchCS := by
  refine Keeps.get_bind fun _ => Keeps.bind (Keeps.require _ _) fun _ => Keeps.bind (lookup _ _) fun _ => ?_
  exact Keeps.bind (Keeps.require _ _) fun _ => Keeps.bind (Keeps.require _ _) fun _ =>
    Keeps.bind (Keeps.require _ _) fun _ => accessed_setSeg .cs _ _

theorem switchData (r : SegReg) : Keeps (Requests q) (Machine.switchData r) := by
  refine Keeps.get_bind fun _ => Keeps.ite (Keeps.pure _) (Keeps.bind (lookup _ _) fun _ => ?_)
  exact Keeps.bind (Keeps.require _ _) fun _ => Keeps.bind (Keeps.require _ _) fun _ =>
    Keeps.bind (Keeps.require _ _) fun _ => accessed_setSeg r _ _

theorem switchTasks (sel : Word) (n : Desc) (k : SwitchKind) (ip : Word) :
    Keeps (Requests q) (Machine.switchTasks sel n k ip) := by
  refine Keeps.bind (Keeps.mod fun _ h => h) fun _ => Keeps.get_bind fun _ => ?_
  refine Keeps.bind (Keeps.require _ _) fun _ => Keeps.bind (Keeps.require _ _) fun _ => ?_
  refine Keeps.bind (Keeps.mod fun _ h => (h.saveTask k ip).linkTask k n) fun _ => ?_
  refine Keeps.bind (loadWords _) fun _ => Keeps.bind (Keeps.mod fun _ h => h) fun _ => ?_
  exact Keeps.bind switchLDT fun _ => Keeps.bind switchSS fun _ => Keeps.bind switchCS fun _ =>
    Keeps.bind (switchData .ds) fun _ => Keeps.bind (switchData .es) fun _ => Keeps.mod fun _ h => h

theorem checkNewIP (ext : Word) : Keeps (Requests q) (Machine.checkNewIP ext) :=
  Keeps.get_bind fun _ => Keeps.require _ _

theorem availableTss (t ext : Word) : Keeps (Requests q) (Machine.availableTss t ext) :=
  Keeps.bind (Keeps.require _ _) fun _ => Keeps.bind (lookup _ _) fun _ =>
    Keeps.bind (Keeps.require _ _) fun _ => Keeps.bind (Keeps.require _ _) fun _ => Keeps.pure _

/-! #### Gates -/

theorem intInner (g d : Desc) (ec : Option Word) (ext ret : Word) :
    Keeps (Requests q) (Machine.intInner g d ec ext ret) := by
  refine Keeps.bind (innerStack _ _) fun _ => ?_
  refine Keeps.bind (Keeps.require _ _) fun _ => Keeps.bind (Keeps.require _ _) fun _ => Keeps.get_bind fun _ => ?_
  refine Keeps.bind (commitStack _ _ _) fun _ => Keeps.bind (loadCS _ _ _ _) fun _ => ?_
  exact Keeps.bind (push16 _) fun _ => Keeps.bind (push16 _) fun _ => Keeps.bind (push16 _) fun _ =>
    Keeps.bind (push16 _) fun _ => Keeps.bind (push16 _) fun _ =>
    Keeps.bind (pushError _) fun _ => Keeps.mod fun _ h => h.gateFlags _

theorem intSame (g d : Desc) (ec : Option Word) (ext ret : Word) :
    Keeps (Requests q) (Machine.intSame g d ec ext ret) := by
  refine Keeps.get_bind fun _ => Keeps.bind (Keeps.require _ _) fun _ => Keeps.bind (Keeps.require _ _) fun _ => ?_
  exact Keeps.bind (push16 _) fun _ => Keeps.bind (push16 _) fun _ => Keeps.bind (push16 _) fun _ =>
    Keeps.bind (loadCS _ _ _ _) fun _ => Keeps.bind (pushError _) fun _ => Keeps.mod fun _ h => h.gateFlags _

theorem intGate (g : Desc) (ec : Option Word) (ext ret : Word) :
    Keeps (Requests q) (Machine.intGate g ec ext ret) := by
  refine Keeps.bind (Keeps.require _ _) fun _ => Keeps.bind (lookup _ _) fun _ => Keeps.get_bind fun _ => ?_
  refine Keeps.bind (Keeps.require _ _) fun _ => Keeps.bind (Keeps.require _ _) fun _ => ?_
  exact Keeps.ite (intInner _ _ _ _ _) (Keeps.ite (intSame _ _ _ _ _) (Keeps.raise _))

theorem intTaskGate (g : Desc) (ec : Option Word) (ext ret : Word) :
    Keeps (Requests q) (Machine.intTaskGate g ec ext ret) := by
  refine Keeps.bind (availableTss _ _) fun _ => Keeps.bind (switchTasks _ _ _ _) fun _ => ?_
  cases ec with
  | none => exact checkNewIP _
  | some e =>
    exact Keeps.get_bind fun _ => Keeps.bind (Keeps.require _ _) fun _ => Keeps.bind (push16 _) fun _ => checkNewIP _

/-! #### Delivery -/

theorem deliverProt (n : Byte) (k : EventKind) (ec : Option Word) :
    Keeps (Requests q) (Machine.deliverProt n k ec) := by
  refine Keeps.get_bind' fun _ h => Keeps.bind (Keeps.require _ _) fun _ => Keeps.set_bind h ?_
  exact Keeps.bind (Keeps.require _ _) fun _ => Keeps.bind (Keeps.require _ _) fun _ =>
    Keeps.bind (Keeps.require _ _) fun _ => Keeps.ite (intTaskGate _ _ _ _) (intGate _ _ _ _)

theorem realEntry (n : Byte) (ret : Word) : Keeps (Requests q) (Machine.realEntry n ret) := by
  refine Keeps.get_bind fun _ => Keeps.ite (Keeps.raise _) ?_
  exact Keeps.bind (load16 _) fun _ => Keeps.bind (load16 _) fun _ => Keeps.bind (push16 _) fun _ =>
    Keeps.bind (push16 _) fun _ => Keeps.bind (push16 _) fun _ => Keeps.mod fun _ h => h

theorem deliverReal (n : Byte) (k : EventKind) : Keeps (Requests q) (Machine.deliverReal n k) :=
  Keeps.get_bind fun _ => Keeps.ite (realEntry _ _) (Keeps.ite (Keeps.raise _) (realEntry _ _))

theorem doubleFault {s : State} (h : Requests q s) : Requests q (Machine.doubleFault s) := by
  have after := (deliverProt 8 .fault (some 0)).after s h
  unfold Machine.doubleFault
  split <;> rename_i e <;> rw [e] at after <;> exact after

theorem deliverFault {s : State} (n : Byte) (ec : Option Word) (h : Requests q s) :
    Requests q (Machine.deliverFault n ec s) := by
  have after := (deliverProt n .fault ec).after s h
  unfold Machine.deliverFault
  split <;> rename_i e <;> rw [e] at after
  · exact after
  · split
    · exact after
    · exact doubleFault after

theorem secondFault {s : State} (k : EventKind) (a : Abort) (h : Requests q s) :
    Requests q (Machine.secondFault k a s) := by
  cases a with
  | shutdown => exact h
  | exc v ec => exact deliverFault _ _ h

/-- A delivery takes no request and makes none. -/
theorem deliver {s : State} (n : Byte) (k : EventKind) (ec : Option Word) (h : Requests q s) :
    Requests q (Machine.deliver n k ec s) := by
  unfold Machine.deliver
  extract_lets s'
  have h' : Requests q s' := by
    show Requests q (if k = .software then s else { s with curIP := s.retIP k })
    split <;> exact h
  by_cases hp : s'.pe = true
  · rw [if_pos hp]
    split
    · exact deliverFault _ _ h'
    · have after := (deliverProt n k ec).after s' h'
      split <;> rename_i e <;> rw [e] at after
      · exact after
      · exact secondFault _ _ after
  · rw [if_neg hp]
    have after := (deliverReal n k).after s' h'
    split <;> rename_i e <;> rw [e] at after <;> exact after

end Requests

/-! ### The events of a boundary -/

theorem takeEvent_none {due : Bool} (n : Byte) (k : EventKind) (ack : State → State) (s : State) (h : due = false) :
    takeEvent due n k ack s = s := by
  unfold takeEvent
  rw [h, Bool.false_and, if_neg Bool.false_ne_true]

theorem takeEvent_due {due : Bool} (n : Byte) (k : EventKind) (ack : State → State) {s : State} (h : due = true)
    (hrun : s.run ≠ .shutdown) : takeEvent due n k ack s = deliver n k none (ack s) := by
  unfold takeEvent
  rw [if_pos (by simp [h, hrun])]

/-- With no request, only the trap can be due. -/
theorem requests_not_due {l : Lines} {d : State} (h : Requests (false, false, l) d) (hintr : l.intr = false)
    (inh sti : Bool) :
    (d.nmiPending && !d.nmiMask && !inh) = false ∧ (d.mpPending && !d.nmiMask) = false ∧
      (d.lines.intr && d.flag .if_ && !inh && !sti) = false := by
  obtain ⟨nmi, mp, lines⟩ := Requests.iff.mp h
  rw [nmi, mp, lines, hintr]
  exact ⟨rfl, rfl, rfl⟩

section

variable {s : State} {inh sti : Bool} (hrun : s.run ≠ .shutdown)

include hrun

/-- INTR alone. -/
theorem events_intr (hstep : s.stepPending = false) (hnmi : s.nmiPending = false) (hmp : s.mpPending = false)
    (due : (s.lines.intr && s.flag .if_ && !inh && !sti) = true) :
    s.events inh sti = deliver s.lines.vector .intr none s := by
  unfold State.events
  extract_lets a b c
  have ha : a = s := takeEvent_none _ _ _ _ (by simp [hstep])
  have hb : b = s := (takeEvent_none _ _ _ _ (by simp [ha, hnmi])).trans ha
  have hc : c = s := (takeEvent_none _ _ _ _ (by simp [hb, hmp])).trans hb
  rw [hc]
  exact takeEvent_due _ _ _ due hrun

/-- The segment overrun alone. -/
theorem events_mp (hstep : s.stepPending = false) (hnmi : s.nmiPending = false) (hintr : s.lines.intr = false)
    (due : (s.mpPending && !s.nmiMask) = true) :
    s.events inh sti = deliver 9 .mp none { s with mpPending := false } := by
  have kept : Requests (false, false, s.lines) (deliver 9 .mp none { s with mpPending := false }) :=
    Requests.deliver _ _ _ (by simp [Requests, State.requests, hnmi])
  obtain ⟨-, -, notIntr⟩ := requests_not_due kept hintr inh sti
  unfold State.events
  extract_lets a b c
  have ha : a = s := takeEvent_none _ _ _ _ (by simp [hstep])
  have hb : b = s := (takeEvent_none _ _ _ _ (by simp [ha, hnmi])).trans ha
  have hc : c = deliver 9 .mp none { s with mpPending := false } := by
    unfold c
    rw [hb]
    exact takeEvent_due _ _ _ due hrun
  rw [hc]
  exact takeEvent_none _ _ _ _ notIntr

/-- NMI alone. -/
theorem events_nmi (hstep : s.stepPending = false) (hmp : s.mpPending = false) (hintr : s.lines.intr = false)
    (due : (s.nmiPending && !s.nmiMask && !inh) = true) :
    s.events inh sti = deliver 2 .nmi none { s with nmiPending := false } := by
  have kept : Requests (false, false, s.lines) (deliver 2 .nmi none { s with nmiPending := false }) :=
    Requests.deliver _ _ _ (by simp [Requests, State.requests, hmp])
  obtain ⟨-, notMp, notIntr⟩ := requests_not_due kept hintr inh sti
  unfold State.events
  extract_lets a b c
  have ha : a = s := takeEvent_none _ _ _ _ (by simp [hstep])
  have hb : b = deliver 2 .nmi none { s with nmiPending := false } := by
    unfold b
    rw [ha]
    exact takeEvent_due _ _ _ due hrun
  have hc : c = deliver 2 .nmi none { s with nmiPending := false } :=
    (takeEvent_none _ _ _ _ (hb ▸ notMp)).trans hb
  rw [hc]
  exact takeEvent_none _ _ _ _ notIntr

/-- The single-step trap alone. -/
theorem events_step (hnmi : s.nmiPending = false) (hmp : s.mpPending = false) (hintr : s.lines.intr = false)
    (due : (s.stepPending && !inh) = true) :
    s.events inh sti = deliver 1 .step none { s with stepPending := false } := by
  have kept : Requests (false, false, s.lines) (deliver 1 .step none { s with stepPending := false }) :=
    Requests.deliver _ _ _ (by simp [Requests, State.requests, hnmi, hmp])
  obtain ⟨notNmi, notMp, notIntr⟩ := requests_not_due kept hintr inh sti
  unfold State.events
  extract_lets a b c
  have ha : a = deliver 1 .step none { s with stepPending := false } := takeEvent_due _ _ _ due hrun
  have hb : b = deliver 1 .step none { s with stepPending := false } :=
    (takeEvent_none _ _ _ _ (ha ▸ notNmi)).trans ha
  have hc : c = deliver 1 .step none { s with stepPending := false } :=
    (takeEvent_none _ _ _ _ (hb ▸ notMp)).trans hb
  rw [hc]
  exact takeEvent_none _ _ _ _ notIntr

end

/-! ### The boundary in a step -/

theorem boundaryNext_cases {s : State} (h : s.boundaryNext = true) :
    (s.pfx.count != 0 && s.run == .running) = false ∧ s.boundaryDone = false ∧ s.run ≠ .shutdown := by
  simp only [State.boundaryNext, Bool.and_eq_true, Bool.or_eq_true, Bool.not_eq_true', beq_iff_eq, bne_iff_ne] at h
  obtain ⟨⟨hnext, hdone⟩, hrun⟩ := h
  refine ⟨?_, hdone, hrun⟩
  rcases hnext with count | halted
  · simp [count]
  · simp [halted]

/-- A CPU that may use the bus, and that has read no prefix, comes to a boundary. -/
theorem prepare_boundary {s : State} (hy : s.lines.ready = true) (hr : s.lines.reset = false)
    (hp : (s.pfx.count != 0 && s.run == .running) = false) :
    s.prepare = { s with clock := s.clock + 1, bus := [] }.boundary := by
  unfold State.prepare
  simp only [hr, hy, hp, Bool.not_true, Bool.false_and, Bool.false_eq_true, if_false]

theorem boundary_due {s : State} (hrun : s.run ≠ .shutdown) (hd : s.boundaryDue = true) :
    s.boundary = .over (s.atBoundary.events s.inhibit s.stiShadow).boundaryRun := by
  unfold State.boundary
  cases h : s.run with
  | shutdown => exact absurd h hrun
  | halted => simp only [hd, if_true]
  | running => simp only [hd, if_true]

/-- A step at a boundary at which an event is due is the events of that boundary. -/
theorem step_events {s : State} (hy : s.lines.ready = true) (hr : s.lines.reset = false) (hi : s.lines.rising = none)
    (hb : s.boundaryNext = true) (hd : s.eventDue s.inhibit s.stiShadow = true) :
    step s = .next (s.atEvent.events s.inhibit s.stiShadow).boundaryRun := by
  obtain ⟨noPrefix, notDone, hrun⟩ := boundaryNext_cases hb
  have due : s.boundaryDue = true := by
    unfold State.boundaryDue
    rw [notDone, hd]
    rfl
  exact step_over hi ((prepare_boundary hy hr noPrefix).trans
    (boundary_due (s := { s with clock := s.clock + 1, bus := [] }) hrun due))

/-! ### The entry of an event in Real Address Mode -/

/-- The events of a boundary, and no exceptions. -/
theorem retIP_event {s : State} {k : EventKind} (hk : k ∈ [EventKind.nmi, .step, .mp, .intr]) :
    k ≠ .software ∧ s.retIP k = s.ip := by
  simp only [List.mem_cons, List.not_mem_nil, or_false] at hk
  rcases hk with rfl | rfl | rfl | rfl <;> exact ⟨by decide, rfl⟩

theorem deliver_event_real {s : State} {n : Byte} {k : EventKind} (hk : k ∈ [EventKind.nmi, .step, .mp, .intr])
    (h : s.realEntryOk n = true) :
    deliver n k none s = ({ s with curIP := s.ip }.realEntered n s.ip).delivered k := by
  obtain ⟨hardware, ret⟩ := retIP_event (s := s) hk
  obtain ⟨-, ret'⟩ := retIP_event (s := { s with curIP := s.ip }) hk
  obtain ⟨hpe, run⟩ := deliverReal_run (s := { s with curIP := s.ip }) k h
  unfold deliver
  simp only [if_neg hardware, ret, hpe, Bool.false_eq_true, if_false, run, ret']

/-- IF and TF are clear after an entry in Real Address Mode. -/
theorem realEntered_flags (s : State) (n : Byte) (ret : Word) (k : EventKind) :
    ((s.realEntered n ret).delivered k).flag .tf = false ∧ ((s.realEntered n ret).delivered k).flag .if_ = false :=
  ⟨rfl, rfl⟩

/-- NMI is masked by its own delivery, and stays masked by another. -/
theorem delivered_nmiMask (s : State) (k : EventKind) :
    (s.delivered k).nmiMask = true ↔ k = .nmi ∨ s.nmiMask = true := by
  show (if k = .nmi then true else s.nmiMask) = true ↔ _
  by_cases h : k = .nmi <;> simp [h]

end Sys2Proof.Machine

open Sys2Proof Sys2Proof.Machine

/-- Settles O6: the event that is due alone is the boundary, and in Real Address Mode its delivery is the entry. -/
theorem interruptRequest : Obligations.InterruptRequest := by
  refine ⟨fun s hy hr hi hb => ?_, fun s n k hk h => ?_⟩
  · obtain ⟨-, -, hrun⟩ := boundaryNext_cases hb
    have events {u : State} (hd : s.eventDue s.inhibit s.stiShadow = true)
        (hu : s.atEvent.events s.inhibit s.stiShadow = u) : step s = .next u.boundaryRun :=
      hu ▸ step_events hy hr hi hb hd
    refine ⟨fun hstep hnmi hmp => ⟨fun hintr hif hinh hsti => ?_, fun halted hif => ?_⟩,
      fun hintr hinh => ⟨fun hstep hnmi hmp => ⟨fun hmask => ?_, fun hmask halted => ?_⟩,
        fun hstep hnmi hmp => ?_, fun hstep hnmi hmp hmask => ?_⟩⟩
    · have due : (s.lines.intr && s.flag .if_ && !s.inhibit && !s.stiShadow) = true := by simp [hintr, hif, hinh, hsti]
      exact events (by simp [State.eventDue, due]) (events_intr (s := s.atEvent) hrun hstep hnmi hmp due)
    · exact step_halted hr hi halted (by simp [State.eventDue, hstep, hnmi, hmp, hif])
    · have due : (s.nmiPending && !s.nmiMask && !s.inhibit) = true := by simp [hnmi, hmask, hinh]
      exact events (by simp [State.eventDue, due]) (events_nmi (s := s.atEvent) hrun hstep hmp hintr due)
    · exact step_halted hr hi halted (by simp [State.eventDue, hstep, hmp, hmask, hintr])
    · have due : (s.stepPending && !s.inhibit) = true := by simp [hstep, hinh]
      exact events (by simp [State.eventDue, due]) (events_step (s := s.atEvent) hrun hnmi hmp hintr due)
    · have due : (s.mpPending && !s.nmiMask) = true := by simp [hmp, hmask]
      exact events (by simp [State.eventDue, due]) (events_mp (s := s.atEvent) hrun hstep hnmi hintr due)
  · have entry := deliver_event_real hk h
    rw [entry]
    obtain ⟨tf, if_⟩ := realEntered_flags { s with curIP := s.ip } n s.ip k
    exact ⟨rfl, tf, if_, delivered_nmiMask _ k, rfl, rfl⟩

end

section
/-! SUPPORT. The fetch of an instruction whose bytes stand at CS:IP, and the steps that execute one (30_encoding.md R181;
60_exceptions.md R734). -/

namespace Sys2Proof.Machine

/-! ### The fetch -/

/-- The bytes at ascending offsets of the code segment. -/
def State.codeBytes (s : State) : Nat → Word → List Byte
  | 0, _ => []
  | n + 1, off => s.mem8 (s.cs.lin off) :: s.codeBytes n (off + 1)

/-- A byte that no store since the last transfer has touched is fetched as it is. -/
theorem fetchByte_run {s : State} (off : Word) (hs : s.stale = []) :
    (fetchByte off).run s = .ok (s.mem8 (s.cs.lin off)) s := by
  unfold fetchByte
  rw [run_get_bind]
  simp only [hs, List.filter_nil, List.map_nil]
  rfl

theorem fetchBytes_run {s : State} (hs : s.stale = []) :
    ∀ n off, (fetchBytes n off).run s = .ok (s.codeBytes n off) s
  | 0, _ => rfl
  | n + 1, off => by
    unfold fetchBytes
    rw [run_bind_ok (fetchByte_run off hs), run_bind_ok (fetchBytes_run hs n (off + 1))]
    rfl

/-- Bytes that stand in the code segment are the first that are read there. -/
theorem codeBytes_eq_append {s : State} {n : Nat} :
    ∀ {off : Word} {l : List Byte}, l.length ≤ n →
      (∀ k < l.length, s.mem8 (s.cs.lin (off + BitVec.ofNat 16 k)) = l.getD k 0) → ∃ rest, s.codeBytes n off = l ++ rest := by
  induction n with
  | zero =>
    intro off l hl _
    exact ⟨[], by rw [List.length_eq_zero_iff.mp (Nat.le_zero.mp hl)]; rfl⟩
  | succ n ih =>
    intro off l hl hbytes
    cases l with
    | nil => exact ⟨_, rfl⟩
    | cons b l =>
      have head : s.mem8 (s.cs.lin off) = b := by simpa using hbytes 0 (Nat.succ_pos _)
      have tail : ∀ k < l.length, s.mem8 (s.cs.lin (off + 1 + BitVec.ofNat 16 k)) = l.getD k 0 := by
        intro k hk
        have next : off + BitVec.ofNat 16 (k + 1) = off + 1 + BitVec.ofNat 16 k := by
          rw [Nat.add_comm, BitVec.ofNat_add, BitVec.add_assoc]
          rfl
        have hb := hbytes (k + 1) (Nat.succ_lt_succ hk)
        rw [next] at hb
        exact hb
      obtain ⟨rest, hrest⟩ := ih (Nat.le_of_succ_le_succ hl) tail
      exact ⟨rest, by rw [State.codeBytes, head, hrest]; rfl⟩

/-- IP past the instruction. -/
def State.fetched (s : State) (i : Instr) : State :=
  { s with ip := s.ip + BitVec.ofNat 16 (encode i).length, ipPast := decide (65536 ≤ s.ip.toNat + (encode i).length) }

/-- The encoding of an instruction stands at CS:IP, inside the segment and the length limit. -/
structure State.CodeAt (s : State) (i : Instr) : Prop where
  wf : i.wf = true
  stale : s.stale = []
  inside : s.ipPast = false
  room : s.ip.toNat + (encode i).length ≤ s.cs.limit.toNat + 1
  left : s.pfx.count + (encode i).length ≤ maxLength
  bytes : ∀ k < (encode i).length, s.mem8 (s.cs.lin (s.ip + BitVec.ofNat 16 k)) = (encode i).getD k 0

theorem fetch_run {s : State} {i : Instr} (h : s.CodeAt i) : fetch.run s = .ok i (s.fetched i) := by
  have long : (encode i).length ≤ min s.fetchRoom (maxLength - s.pfx.count) := by
    have room := h.room
    have left := h.left
    unfold State.fetchRoom
    rw [h.inside, if_neg Bool.false_ne_true]
    omega
  obtain ⟨rest, read⟩ := codeBytes_eq_append long h.bytes
  unfold fetch
  rw [run_get_bind, run_bind_ok (fetchBytes_run h.stale _ _), read, decodeEncodeAgree i h.wf rest]
  show EStateM.Result.ok i { s with ip := _, ipPast := s.ipPast || decide _ } = _
  rw [h.inside, Bool.false_or]
  rfl

theorem fetchStep_run {s : State} {i : Instr} (h : s.CodeAt i) : s.fetchStep = .run i (s.fetched i) := by
  unfold State.fetchStep
  rw [fetch_run h]

/-! ### Steps that execute -/

theorem step_run {s t : State} {i : Instr} (hi : s.lines.rising = none) (hp : s.prepare = .run i t) :
    step s = exec i t := by
  unfold step State.unbroken
  simp only [hi, hp]

/-- After a prefix byte the next bytes are fetched, and no boundary comes. -/
theorem prepare_afterPrefix {s : State} (hy : s.lines.ready = true) (hr : s.lines.reset = false) (hrun : s.run = .running)
    (hp : s.pfx.count ≠ 0) : s.prepare = { s with clock := s.clock + 1, bus := [] }.fetchStep := by
  unfold State.prepare
  simp [hy, hr, hrun, hp]

/-- At a boundary with nothing due, or that has been run, the next instruction begins. -/
theorem prepare_begin {s : State} (hy : s.lines.ready = true) (hr : s.lines.reset = false) (hrun : s.run = .running)
    (hp : s.pfx.count = 0) (hd : s.boundaryDone = true ∨ s.eventDue s.inhibit s.stiShadow = false) :
    s.prepare = s.atEvent.begin := by
  have notDue : s.boundaryDue = false := by
    unfold State.boundaryDue
    rcases hd with done | quiet
    · rw [done, Bool.not_true, Bool.false_and]
    · rw [quiet, Bool.and_false]
  have boundary : ∀ t : State, t.run = .running → t.boundaryDue = false → t.boundary = t.atBoundary.begin := by
    intro t htrun htdue
    unfold State.boundary
    simp only [htrun, htdue, Bool.false_eq_true, if_false]
  rw [prepare_boundary hy hr (by rw [hp]; rfl)]
  exact boundary { s with clock := s.clock + 1, bus := [] } hrun notDue

theorem begin_instruction {s : State} (h : s.repeating = none) :
    s.begin = { s with stepPending := s.flag .tf, pfx := Prefixes.none }.fetchStep := by
  unfold State.begin
  simp only [h]

theorem begin_iteration {s : State} {r : Repetition} (h : s.repeating = some r) :
    s.begin = { s with stepPending := s.flag .tf, pfx := Prefixes.none }.repeatStep r := by
  unfold State.begin
  simp only [h]

end Sys2Proof.Machine

open Sys2Proof Sys2Proof.Machine

/-- Settles O4: what is decoded at CS:IP is executed, and so is the next iteration. -/
theorem stepRunsDecodedInstruction : Obligations.StepRunsDecodedInstruction := by
  intro s hy hr hi hrun
  refine ⟨fun i wf stale inside room left => ?_, fun r hrep hp hd => ?_⟩
  · intro t bytes
    refine ⟨fun hp hrep hd => ?_, fun hp => ?_⟩
    · have code : { s.atEvent with stepPending := s.flag .tf, pfx := Prefixes.none }.CodeAt i :=
        ⟨wf, stale, inside, room, by rw [hp] at left; exact left, bytes⟩
      exact step_run hi ((prepare_begin hy hr hrun hp hd).trans
        ((begin_instruction (s := s.atEvent) hrep).trans (fetchStep_run code)))
    · have code : { s with clock := s.clock + 1, bus := [] }.CodeAt i := ⟨wf, stale, inside, room, left, bytes⟩
      exact step_run hi ((prepare_afterPrefix hy hr hrun hp).trans (fetchStep_run code))
  · exact step_run hi ((prepare_begin hy hr hrun hp hd).trans (begin_iteration (s := s.atEvent) hrep))

end
